-- ==== Sys2Proof/Word.lean ====
section
/-! DEFINITION. The plainest words of the model: bytes, unit numbers, and sparse maps as sorted lists. -/

namespace Sys2Proof

/-- One byte. -/
abbrev Byte := BitVec 8

/-- A sparse map from numbers: the listed keys rise strictly, and no listed value is the value an unlisted key reads as. -/
abbrev FMap (α : Type) := List (Nat × α)

/-- Command rings 0 to 15 (R279). -/
abbrev RingNo := Fin 16
/-- Hubs 0 to 63 (R7). -/
abbrev HubNo := Fin 64
/-- Pans 0 to 4095 (R7). -/
abbrev PanNo := Fin 4096
/-- Launders 0 to 255, launder k of hub h being 4h + k (R226). -/
abbrev LaunderNo := Fin 256
/-- DMA channels 0 to 31 (R255). -/
abbrev ChanNo := Fin 32
/-- Halves: 0 west, 1 east (R9). -/
abbrev HalfNo := Fin 2
/-- Causeway modules 0 to 15 (R365). -/
abbrev ModNo := Fin 16
/-- Function numbers; 1 to 14 name a function (R8). -/
abbrev FnNo := Fin 16
/-- Client addresses: 1 to 127 on the bus, 0x80 + channel on the mailbox (R331). -/
abbrev ClientNo := Fin 256
/-- Mailbox channels (R330). -/
abbrev MbxNo := Fin 4

end Sys2Proof
end

