-- ==== Sys2Proof/Syntax.lean ====
section
/-! DEFINITION. The commands of the GPE: one constructor of `Instr` for each row of spec/opcode_table.json.
What a command carries from outside the block (a pin level, the bytes of a header, the answer of the memory
fabric) is an operand; everything else the step finds in the state. -/

namespace Sys2Proof

/-- A work-order row is first read and checked at the ring's TAIL (R281, R286); the rows whose effect no pan
step carries out are then run, once admitted, in the ring slot named. -/
inductive Phase where
  | read
  | run (slot : Nat)
deriving DecidableEq, Repr

/-- Attention work orders (R157 to R172): read and checked, one block of the round in progress processed, or
drained after the last block. -/
inductive AttPhase where
  | read
  | process (slot block : Nat)
  | drain (slot : Nat)
deriving DecidableEq, Repr

/-- USDO services of R331. The bytes of a message are those of CiA 1301, which the spec does not restate; the
service, the object and the data are what the rules use. -/
inductive Usdo where
  | upload (index sub : Nat)
  | download (index sub : Nat) (data : List Byte)
  | downloadInit (index sub : Nat) (size : Nat)
  | downloadSegment (data : List Byte) (last : Bool)
  | uploadInit (index sub : Nat)
  | uploadSegment
  | other
deriving DecidableEq, Repr

/-- What the surroundings decide during a full reset (R347, R366, R379, R380): whether phases 2 and 3 pass,
first and when repeated, whether flash banks A and B read without parity error, after how many failed attempts
the Causeway trains (`none`: never), and whether every pan-store word holds its value. -/
structure ResetEnv where
  pass1 : Bool := true
  pass2 : Bool := true
  parityA : Bool := false
  parityB : Bool := false
  failedTrainings : Option Nat := some 0
  scrubOk : Bool := true
deriving DecidableEq, Repr

/-- The answer of the memory fabric to a translation request (R243). -/
inductive Xlate where
  | mapped (large write : Bool)
  | absent
deriving DecidableEq, Repr

/-- What happens to a word on an island link (R386): it passes parity, or it fails. -/
inductive LinkKind where
  | panHub (pan : PanNo)
  | hubHub (hub : HubNo)
  | hubPort (hub : HubNo)
  | portCauseway (mod : ModNo)
  | controlHub (hub : HubNo)
  | controlPort (half : HalfNo)
  | controlNode
deriving DecidableEq, Repr

/-- Requesters at a hub port (R241); a Rake stream is named by its launder and its operand. -/
inductive Requester where
  | stream (launder : LaunderNo) (role : Fin 3)
  | walker
  | dma
  | output
  | window
deriving DecidableEq, Repr

/-- What a parity error in a pan's operand area met (R387). -/
inductive ParkHold where
  | streamTile
  | computedTile
  | accumulated
  | earlierData
  | crustSlot
deriving DecidableEq, Repr

/-- The commands. -/
inductive Instr where
  -- command rings; `wrote` is what software wrote to package memory, and made arrive, before the strobe (R280)
  | doorbell (r : RingNo) (wrote : List (Nat × List Byte))
  | ringPoll (r : RingNo)
  -- work orders
  | dx (r : RingNo)
  | dw (r : RingNo)
  | dualDraw (r : RingNo)
  | product (r : RingNo) (ph : Phase)
  | norm (r : RingNo) (ph : Phase)
  | normb (r : RingNo) (ph : Phase)
  | softmax (r : RingNo) (ph : Phase)
  | softmaxb (r : RingNo) (ph : Phase)
  | point (r : RingNo) (ph : Phase)
  | pointb (r : RingNo) (ph : Phase)
  | dwconv (r : RingNo) (ph : Phase)
  | dwconvb (r : RingNo) (ph : Phase)
  | atts (r : RingNo) (ph : AttPhase)
  | attf (r : RingNo) (ph : AttPhase)
  | attb (r : RingNo) (ph : AttPhase)
  | qcal (r : RingNo) (ph : Phase)
  | update (r : RingNo) (ph : Phase)
  | precond (r : RingNo) (ph : Phase)
  | fence (r : RingNo)
  | versionSet (r : RingNo) (ph : Phase)
  | versionDrop (r : RingNo) (ph : Phase)
  | versionPublish (r : RingNo)
  | stream (r : RingNo) (ph : Phase)
  -- the sequencer
  | admission
  | preEmption (r : RingNo)
  | chainLink (r : RingNo) (slot : Nat)
  | workOrderComplete (r : RingNo) (slot : Nat)
  | ringEnable (cl : ClientNo) (r : RingNo)
  | ringDisable (cl : ClientNo) (r : RingNo)
  | ringResume (cl : ClientNo) (r : RingNo)
  | abortSlot (cl : ClientNo) (r : RingNo) (slot : Nat)
  -- function control
  | cancel (cl : ClientNo) (n : FnNo)
  | prepare (cl : ClientNo) (n : FnNo)
  | enable (cl : ClientNo) (n : FnNo)
  | disable (cl : ClientNo) (n : FnNo)
  | shutDown (cl : ClientNo) (n : FnNo)
  | acknowledge (cl : ClientNo) (n : FnNo)
  | startComplete (n : FnNo) (ok : Bool)
  | stopComplete (n : FnNo)
  | stoppingLimit (n : FnNo)
  -- reset
  | fullReset (cl : ClientNo) (code : Nat) (env : ResetEnv)
  | pkgRst (env : ResetEnv)
  | powerOn (env : ResetEnv)
  -- management link
  | usdoRequest (cl : ClientNo) (dest : Nat) (msg : Usdo)
  | mailboxRequest (ch : MbxNo) (seq dest : Nat) (msg : Usdo)
  | segmentTimeout (cl : ClientNo)
  | registerWrite (cl : ClientNo) (index sub : Nat) (data : List Byte)
  | heartbeat
  | heartbeatTime (cl : ClientNo) (ms : Nat)
  | busOff
  | busOffRecovery
  | open (cl : ClientNo) (priv : Nat)
  | response (cl : ClientNo) (mac : List Byte)
  | lockoutExpiry (cl : ClientNo)
  | challengeExpiry (cl : ClientNo)
  | close (cl : ClientNo)
  | idleTimeout (sess : Nat)
  | closeSession (cl : ClientNo) (sess : Nat)
  | keyWrite (cl : ClientNo) (priv : Nat) (data : List Byte)
  -- configuration and snapshot
  | capture (cl : ClientNo)
  | commit (cl : ClientNo)
  | commitStored (failedStep : Option Nat)
  | erase (cl : ClientNo)
  | quiesce (cl : ClientNo)
  | quiesced
  | release (cl : ClientNo)
  | snapshotExpired
  -- single registers
  | regionRestore (cl : ClientNo) (region : Nat)
  | stockpilePart (cl : ClientNo) (units : Nat)
  | testStop (cl : ClientNo) (mask : BitVec 64)
  | testResume (cl : ClientNo) (mask : BitVec 64)
  | wlbInvalidate (cl : ClientNo) (mask : Nat)
  | faultLogAcknowledge (cl : ClientNo)
  | injectArm (cl : ClientNo)
  | testEmergency (cl : ClientNo)
  | streamResume (cl : ClientNo) (l : LaunderNo)
  -- DMA
  | dmaStart (cl : ClientNo) (c : ChanNo)
  | dmaAbort (cl : ClientNo) (c : ChanNo)
  | dmaClear (cl : ClientNo) (c : ChanNo)
  | descriptorRead (c : ChanNo)
  | burst (c : ChanNo)
  | descriptorComplete (c : ChanNo)
  | abortComplete (c : ChanNo)
  -- streams
  | rakeFetch (l : LaunderNo)
  | portGrant (h : HubNo) (write : Bool)
  | urgent (h : HubNo) (q : Requester)
  | fabricReadResponse (h : HubNo) (tag : Nat) (poisoned : Bool)
  | oddEpochWait (l : LaunderNo)
  | writeAcknowledged (h : HubNo) (tag : Nat)
  | translationResponse (half : HalfNo) (page : Nat) (x : Xlate)
  | pageInvalidation (half : HalfNo) (page : Nat)
  | handlePop (l : LaunderNo) (release : Bool)
  | gatePop (l : LaunderNo)
  | stillwater (h : HubNo)
  -- pans
  | stationaryLoad (p : PanNo) (a : Fin 5)
  | rippleLoad (p : PanNo)
  | beat (p : PanNo) (a : Fin 5) (cell : Fin 256)
  | chunkHandoff (p : PanNo) (a : Fin 5) (row : Fin 16)
  | promotionEvent (r : RingNo) (slot group : Nat)
  | stopRequest (p : PanNo) (cause : Nat)
  | crustSave (p : PanNo)
  | crustResume (p : PanNo) (parityError : Bool)
  | park (p : PanNo) (holds : ParkHold) (offset : Nat) (again : Bool)
  -- Stockpile
  | stockpileArrival (header : List Byte) (data : List Byte)
  | arrivalWritten
  | spillComplete (entry : Nat)
  -- attention ring
  | blockArrival (header payload rider : List Byte)
  | blockSend (block : Nat)
  | slotCredit (slot : Nat)
  | riderReturn (header rider : List Byte)
  | remoteTimeout
  | walk (r : RingNo) (slot block : Nat) (genAfter : Option Nat)
  | oddGenerationWait (r : RingNo) (slot block : Nat)
  -- Weir and clocks
  | railCurrentSample (half : HalfNo) (milliamps : Nat) (temps : List Nat)
  | railAlert
  | railEmg
  | emergencyEnd
  | throttleStep
  | throttleRelease
  | clockStepChange (h : HubNo)
  | levelGrant (half : HalfNo) (ns : Nat)
  | refclkLost
  | hubHeartbeat
  | autonomousMode (h : HubNo)
  | autonomousRamp (h : HubNo)
  | sequencerWatchdog
  -- Causeway and links
  | flitReceived (m : ModNo) (toEast : Bool) (words : List (BitVec 32))
  | replayTimeout (m : ModNo) (toEast : Bool)
  | moduleLeftActive (m : ModNo)
  | trainingAttemptTimeout
  | islandLinkWord (k : LinkKind) (parityOk : Bool)
  -- remaining rows
  | mailboxResponseCleared (ch : MbxNo)
  | write1ToClear (cl : ClientNo) (index sub mask : Nat)
  | busError (tec rec : Nat)
  | refclkRestored
  | railAlertDeasserted
  | bankErased (ok : Bool)
  | powerLost
deriving DecidableEq, Repr

end Sys2Proof
end

