-- ==== Sys2Proof/Decode.lean ====
section
/-! DEFINITION. Decoding of table words. No row of spec/opcode_table.json gives bits: a command of the GPE is an
event at a port (R1), not a word of an instruction memory. The 128-byte work orders have an encoding of their own
(R284 to R290), which Machine/Operands.lean reads field by field from memory. -/

namespace Sys2Proof

/-- The command that a word spells by the table's bits: the table gives no row bits, so no word spells one. -/
def decodeTableWord (_nbits _w : Nat) : Option Instr := none

end Sys2Proof
end

