-- ==== Sys2Proof/Machine/Map.lean ====
section
/-! DEFINITION. Sparse maps in one canonical form, bit fields of numbers, little-endian words, and small helpers. -/

namespace Sys2Proof

/-- The value at a key; `d` is what an unlisted key reads as. -/
def FMap.get {α : Type} (d : α) : FMap α → Nat → α
  | [], _ => d
  | (k, v) :: t, i => if k = i then v else FMap.get d t i

/-- The list without a key. -/
def FMap.drop {α : Type} (m : FMap α) (i : Nat) : FMap α := m.filter (fun e => e.1 != i)

/-- Insert a pair before the first greater key. -/
def FMap.ins {α : Type} (i : Nat) (v : α) : FMap α → FMap α
  | [] => [(i, v)]
  | (k, w) :: t => if i < k then (i, v) :: (k, w) :: t else (k, w) :: FMap.ins i v t

/-- Write one key; writing what an unlisted key reads as removes the entry. -/
def FMap.put {α : Type} [DecidableEq α] (d : α) (m : FMap α) (i : Nat) (v : α) : FMap α :=
  if v = d then FMap.drop m i else FMap.ins i v (FMap.drop m i)

/-- The canonical form: keys rise strictly and no entry is the default. -/
def FMap.wf {α : Type} [DecidableEq α] (d : α) (m : FMap α) : Bool :=
  decide (m.Pairwise (fun a b => a.1 < b.1)) && m.all (fun e => e.2 != d)

/-- Apply `f` at one key. -/
def FMap.upd {α : Type} [DecidableEq α] (d : α) (m : FMap α) (i : Nat) (f : α → α) : FMap α :=
  FMap.put d m i (f (FMap.get d m i))

/-- The map of the first n keys by a function. -/
def FMap.tab {α : Type} [DecidableEq α] (d : α) (n : Nat) (f : Nat → α) : FMap α :=
  (List.range n).foldl (fun m k => FMap.put d m k (f k)) []

/-- Change every value listed; the ones that become the default are unlisted. -/
def FMap.mapv {α : Type} [DecidableEq α] (d : α) (m : FMap α) (f : Nat → α → α) : FMap α :=
  (m.map (fun e => (e.1, f e.1 e.2))).filter (fun e => e.2 != d)

namespace Machine

/-- Bits lo + w - 1 .. lo of a number (R4: bit 0 is the least significant). -/
def bits (x lo w : Nat) : Nat := (x >>> lo) % 2 ^ w

/-- One bit. -/
def bit (x i : Nat) : Bool := x.testBit i

/-- Field of a little-endian structure: bits lo.. of the field that begins at byte `b`. -/
def fld (x b lo w : Nat) : Nat := bits x (8 * b + lo) w

/-- The number that a field contributes to a packed word. -/
def pack (lo w v : Nat) : Nat := (v % 2 ^ w) <<< lo

/-- A Boolean as a bit. -/
def b2n (b : Bool) : Nat := if b then 1 else 0

/-- Replace one bit. -/
def setBit (x i : Nat) (b : Bool) : Nat := (x - pack i 1 (bits x i 1)) + pack i 1 (b2n b)

/-- Saturating addition at a width. -/
def satAdd (w a b : Nat) : Nat := min (a + b) (2 ^ w - 1)

/-- Quotient rounded up; 0 for a zero divisor. -/
def cdiv (a b : Nat) : Nat := (a + b - 1) / b

/-- Little-endian number of a byte list (R4). -/
def leNat : List Byte → Nat
  | [] => 0
  | b :: t => b.toNat + 256 * leNat t

/-- The n low bytes of a number, little-endian (R4). -/
def leBytes : Nat → Nat → List Byte
  | 0, _ => []
  | n + 1, x => BitVec.ofNat 8 x :: leBytes n (x / 256)

/-- Two's complement reading of the w low bits. -/
def toSigned (w x : Nat) : Int := if x % 2 ^ w < 2 ^ (w - 1) then (x % 2 ^ w : Nat) else (x % 2 ^ w : Nat) - (2 ^ w : Nat)

/-- First-match update of a list: the elements that satisfy `p` are mapped. -/
def mapIf {α : Type} (p : α → Bool) (f : α → α) (l : List α) : List α := l.map (fun x => if p x then f x else x)

end Machine
end Sys2Proof
end

