-- ==== Sys2Proof/Machine/State.lean ====
section
/-! DEFINITION. The state of the GPE as plain data: every register, queue, counter, mode and pin the spec gives
the block, and the queue of waiting commands. Sparse collections are `FMap`s whose unlisted keys read as the
default named beside the field's accessor. Floating-point contents are held as their bit patterns. -/

namespace Sys2Proof.Machine

/-- Reasons to stop. No meaning raises one: every fault of the GPE is state (R316). -/
inductive Fault where
  /-- Raised by nobody (safe: it marks that the model has no stop of this kind). -/
  | never
deriving DecidableEq, Repr

/-- Refusals of the model. -/
inductive Refusal where
  /-- A command without a meaning, raised by `exec`'s arm alone (safe: the model stops). -/
  | notModelled (mnemonic : String)
deriving DecidableEq, Repr

/-- An exact value: the result of decoding a floating-point code, or of an exact operation. -/
inductive Val where
  | nan
  | inf (neg : Bool)
  | fin (neg : Bool) (m : Nat) (e : Int)
deriving DecidableEq, Repr

/-- STATE of a function (R312). -/
inductive FnState where
  | off | starting | ready | running | stopping | faulted | wedged
deriving DecidableEq, Repr

/-- The state part of a function record (R311); Last fault, Transitions and limits are objects. -/
structure FnRec where
  state : FnState := .ready
  target : FnState := .ready
  pend : Nat := 0
  fcode : Nat := 0
  entered : Nat := 0
  /-- a fault whose cause persists (R324, R366, R380); 0 for none -/
  persists : Nat := 0
deriving DecidableEq, Repr

/-- Ring states (R282). -/
inductive RingState where
  | disabled | running | draining | halted
deriving DecidableEq, Repr

/-- A command ring as held by the sequencer (R279, R282, R301). -/
structure Ring where
  state : RingState := .disabled
  pendEnable : Bool := false
  head : Nat := 0
  tail : Nat := 0
  chead : Nat := 0
deriving DecidableEq, Repr

/-- Kinds of work order (R285, R139). -/
inductive Kind where
  | dx | dw | dual | boil (k : Nat) | attb | qcal | update | precond | fence | vset | vdrop | vpub | stream
deriving DecidableEq, Repr

/-- Where a work order stands after it has been read (R295). -/
inductive OrdPhase where
  | waiting | admitted | preempted | ended (status code : Nat)
deriving DecidableEq, Repr

/-- A work order read and not completed. -/
structure Order where
  ring : Nat := 0
  slot : Nat := 0
  /-- position in the order of reading over all rings -/
  seq : Nat := 0
  kind : Kind := .fence
  /-- the 128 bytes as read, one 1,024-bit number -/
  raw : Nat := 0
  phase : OrdPhase := .waiting
  /-- EVENTS of R297 -/
  events : Nat := 0
  links : Nat := 0
  readAt : Nat := 0
  admitAt : Nat := 0
  /-- weight slot pinned under R116: layer and slot -/
  pinSlot : Option (Nat × Nat) := none
  /-- weight slots pinned by its chain links (R136) -/
  linkSlots : List (Nat × Nat) := []
  /-- entries pinned under R130, R136 -/
  pinEnts : List Nat := []
  /-- UPDATE and PRECOND: layer, target slot, slot read (R118) -/
  claim : Option (Nat × Nat × Nat) := none
  /-- the Harrow record read with the work order (R200) -/
  harrow : Nat := 0
  /-- learning rate and decay at STEP (R211, R212), FP32 codes, and the betas; from admission on also 2790/02 to 2790/05
  (R225) -/
  rates : List Nat := []
  /-- frozen bitmap as read at admission (R213) -/
  frozen : List Byte := []
  /-- what 2790/0A shows of an UPDATE or PRECOND; 1 for other kinds once their own work has begun -/
  progress : Nat := 0
  rewet : Bool := false
  stalled : Bool := false
  /-- the effect of a row that computes in its `run` phase has been made -/
  ran : Bool := false
  /-- token tiles, or tiles of a phase, that a Boiler row has done (R141, R208) -/
  tiles : Nat := 0
  /-- phase of an UPDATE or PRECOND: 0 before its first, 1 phase 1, 2 combine, 3 precondition, 4 phase 2 (R208, R216) -/
  stage : Nat := 0
  /-- phase 1 found something non-finite (R215) -/
  skip : Bool := false
  /-- link in progress: next block to regenerate and last (R136) -/
  chain : Option (Nat × Nat) := none
  /-- hand-offs received per promotion event, and events applied per group (R98) -/
  handed : FMap Nat := []
  applied : FMap Nat := []
  /-- pre-emptive work order: the work orders it stopped -/
  preempts : List (Nat × Nat) := []
  /-- a fence or publish: sequence numbers waited on (R291) -/
  waits : List Nat := []
  /-- the mask of the target region as the Rake read it at admission (R109); the launder set that a STREAM has read (R232) -/
  mask : List Byte := []
deriving DecidableEq, Repr

/-- Version state of a layer (R115). -/
structure Layer where
  ver0 : Nat := 0
  ver1 : Nat := 0
  pin0 : Nat := 0
  pin1 : Nat := 0
  newest : Bool := false
  valid0 : Bool := false
  valid1 : Bool := false
  claim : Nat := 0
  stall : Bool := false
deriving DecidableEq, Repr

/-- What the GPE holds of a Windrow region (R107, R122, R390). -/
structure Region where
  desc : Nat := 0
  owner : Option Nat := none
  poisoned : Bool := false
deriving DecidableEq, Repr

/-- A group resident in a window slice (R103). -/
structure Frame where
  hub : Nat := 0
  hi : FMap Nat := []
  lo : FMap Nat := []
  gw : Nat := 0
  stamp : Nat := 0
  /-- a word of the group has taken an inverted parity bit (R398) -/
  bad : Bool := false
deriving DecidableEq, Repr

/-- One promotion waiting at its home hub: chunk event, group, element of the group, value (R98). -/
structure Promo where
  ring : Nat
  slot : Nat
  event : Nat
  group : Nat
  elem : Nat
  /-- place in the row-major order of the block, for scale gradients (R194) -/
  ord : Nat
  v : Val
  /-- pan, array and row that handed it off (`rowKey`), and the part of the pan's run: its brine waits there for its turn
  (R98) -/
  src : Nat := 0
  part : Nat := 0
deriving DecidableEq, Repr

/-- A place in a pan's run of its work order (R97): part, chunk, block of the set, pass, beat. -/
structure Cursor where
  part : Nat := 0
  chunk : Nat := 0
  blk : Nat := 0
  pass : Nat := 0
  beat : Nat := 0
deriving DecidableEq, Repr

/-- A stationary register: tag and the 16 element codes of the cell's row (R60, R68). After reset it holds zeros, and a
tag that the first load of an array does not carry (DESIGN CHOICE, log entry 52). -/
structure Reg where
  tag : Nat := 255
  vals : List Nat := List.replicate 16 0
deriving DecidableEq, Repr

/-- A beat as one cell sees it (R63). -/
structure Beat where
  tag : Nat
  k : Nat
  m : Nat
  last : Bool
  anchor : Int := 0
  at_ : Cursor
deriving DecidableEq, Repr

/-- A cell: active and shadow stationary registers, whether the shadow holds an operand not yet swapped in (R67), elastic
slot, brine (R60, R70, R31), and the sums that the Rake hands to the drain unit with the chunk (R186). -/
structure Cell where
  act : Reg := {}
  shd : Reg := {}
  full : Bool := false
  slot : List Beat := []
  brine : BitVec 64 := 0
  nonfin : Bool := false
  ended : Bool := false
  sumA : Int := 0
  sumB : Int := 0
  cnt : Nat := 0
  /-- anchor of the chunk in window mode (R54), as its beats brought it -/
  anchor : Int := 0
  at_ : Cursor := {}
deriving DecidableEq, Repr

/-- Where a lane that lags behind the broadcast stands (R70): its next beat, the passes of its array that it has begun,
and the anchor of the chunk it is in. -/
structure Lag where
  cur : Cursor := {}
  pass : Nat := 0
  anchor : Int := 0
deriving DecidableEq, Repr

/-- An array (0 to 3) or the thin path (4): cells, place and tag of the next stationary load (R63; the tag runs on from
work order to work order), loads made and passes begun for the work order, anchor of the chunk being issued in window
mode (R54), lanes that lag (R70), and whether the next load ripples (R72). -/
structure Arr where
  cells : FMap Cell := []
  next : Cursor := {}
  tag : Nat := 0
  loaded : Nat := 0
  pass : Nat := 0
  anchor : Int := 0
  lag : FMap (Option Lag) := []
  rippleNext : Bool := true
deriving DecidableEq, Repr

/-- Pan states (R91). -/
inductive PanState where
  | idle | running | held | stopping | stopped | resuming
deriving DecidableEq, Repr

/-- A crust slot: the header of R85 (bit 0, VALID, says that it holds a crust), what its sections are formed from (R84):
arrays, drain registers; the place at which the pan goes on, and the place of the crust in the order of saving (R86). -/
structure Crust where
  hdr : Nat := 0
  arrs : FMap Arr := []
  drain : FMap Nat := []
  cur : Cursor := {}
  gen : Nat := 0
  /-- the slot holds the brine of a park, with VALID left clear (R388) -/
  park : Bool := false
  /-- a word of the slot has taken an inverted parity bit (R398) -/
  bad : Bool := false
deriving DecidableEq, Repr

/-- A pan (R13, R14, R91, R382). -/
structure Pan where
  state : PanState := .idle
  job : Option (Nat × Nat) := none
  cur : Cursor := {}
  issued : Bool := false
  stopCause : Nat := 0
  /-- a Held pan was Resuming, and goes back to it (R252) -/
  resumeHeld : Bool := false
  arrs : FMap Arr := []
  drain : FMap Nat := []
  /-- operand area of the pan store (R14): tiles kept for the work orders of the pan, bytes by `areaKey` -/
  area : FMap Byte := []
  /-- a word of the operand area has taken an inverted parity bit (R387, R398) -/
  flipped : Bool := false
  crust0 : Crust := {}
  crust1 : Crust := {}
  level : Nat := 0
  demand : Nat := 0
  step : Nat := 0
deriving DecidableEq, Repr

/-- A buffer handle (R227); `buf` is the buffer it stands for. -/
structure Handle where
  kind : Nat
  seq : Nat
  len : Nat
  base : Nat
  buf : Nat
deriving DecidableEq, Repr

/-- The queue of a launder: queued handles, and handles popped and not yet released (R226, R228). -/
structure Queue where
  q : List Handle := []
  held : List Handle := []
deriving DecidableEq, Repr

/-- A buffer of the hub stream buffers: place, runs (address, length) from run `firstRun` to before `lastRun`, bytes arrived
by address (of a staging buffer: runs and bytes by stream offset); what is still to happen to it. -/
structure Buf where
  id : Nat := 0
  launder : Nat := 0
  ring : Nat := 0
  slot : Nat := 0
  role : Nat := 0
  seq : Nat := 0
  len : Nat := 0
  base : Nat := 0
  firstRun : Nat := 0
  lastRun : Nat := 0
  runs : List (Nat × Nat) := []
  hop : Bool := false
  data : FMap Byte := []
  /-- every byte has arrived, under an epoch that stands where one is checked (R228, R250) -/
  arrived : Bool := false
  pushed : Bool := false
  /-- its first request has been granted: it holds a watch window until it is read (R249) -/
  granted : Bool := false
  /-- tags (256 * hub + tag) of pending writes that hit it (R249) -/
  stale : List Nat := []
  read : Bool := false
  /-- the first absent byte, where its slot takes a deferred fault (R244) -/
  fault : Option Nat := none
  /-- a word of an output buffer has taken an inverted parity bit (R398) -/
  bad : Bool := false
  /-- the epoch was odd: the buffer waits (R250) -/
  waitEpoch : Bool := false
  epoch : Nat := 0
  tries : Nat := 0
deriving DecidableEq, Repr

/-- A fault record (R245); `resume` is the number of the last run pushed, plus one. -/
structure FaultRec where
  faddr : Nat := 0
  desc : Nat := 0
  resume : Nat := 0
  cause : Nat := 0
  write : Bool := false
  ring : Nat := 0
  slot : Nat := 0
  since : Nat := 0
deriving DecidableEq, Repr

/-- A stream in flight on a launder (R230, R237). -/
structure Stream where
  launder : Nat := 0
  ring : Nat := 0
  slot : Nat := 0
  role : Nat := 0
  daddr : Nat := 0
  desc : Nat := 0
  base : Nat := 0
  run : Nat := 0
  seq : Nat := 0
  gated : Bool := false
  stopped : Bool := false
  held : Bool := false
  ended : Bool := false
  /-- number of the last run pushed, plus one (R245) -/
  pushedRun : Nat := 0
  /-- runs of operand blocks that the mask leaves out (R109, R238) -/
  hidden : List Nat := []
deriving DecidableEq, Repr

/-- A request at a hub port (R240, R241). -/
structure Req where
  hub : Nat := 0
  write : Bool := false
  who : Requester := .output
  addr : Nat := 0
  len : Nat := 0
  data : List Byte := []
  buf : Nat := 0
  /-- stream offset, of a channel's request -/
  run : Nat := 0
  launder : Nat := 255
  role : Nat := 0
  ring : Nat := 0
  slot : Nat := 0
  /-- repeats a fetch whose data was poisoned (R389) -/
  again : Bool := false
  urgent : Bool := false
  /-- waits for a translation (R243) -/
  xheld : Bool := false
  /-- CAUSE of R245 if the request cannot be made: 1 absent, 2 no write permission (R247, R274) -/
  stuck : Nat := 0
  /-- its write stream has been held at it (R247) -/
  told : Bool := false
deriving DecidableEq, Repr

/-- A request in flight under its tag (R240); the tags of writes form the pending list (R249). -/
structure Tag where
  no : Nat
  req : Req
deriving DecidableEq, Repr

/-- A stream TLB entry (R243): page in units of 64 KiB. -/
structure TlbEnt where
  half : Nat
  page : Nat
  large : Bool
  write : Bool
deriving DecidableEq, Repr

/-- A page invalidation that waits for requests in flight (R243): their tags, as 256 * hub + tag. -/
structure Inval where
  half : Nat
  page : Nat
  tags : List Nat
deriving DecidableEq, Repr

/-- Channel states (R271). -/
inductive ChState where
  | idle | active | paced | waiting | aborting | halted
deriving DecidableEq, Repr

/-- A DMA channel (R271 to R277): descriptor in progress and its serial number, stream offsets written (`off`) and asked for
(`rd`), bytes read and not yet written out by stream offset, the last burst staged, the entries of its lists read so far
(R260), the offset at which a halt waits to stop and its code. -/
structure Chan where
  state : ChState := .idle
  pendStart : Bool := false
  daddr : Nat := 0
  desc : Nat := 0
  haveDesc : Bool := false
  off : Nat := 0
  rd : Nat := 0
  half : Bool := false
  done : Nat := 0
  serial : Nat := 0
  got : FMap Byte := []
  staging : List Byte := []
  gather : List Nat := []
  scatter : List Nat := []
  switch : Bool := true
  status : Nat := 0
  gateWait : Bool := false
  haltCode : Nat := 0
  haltAt : Nat := 0
  /-- page that the read of its descriptor or list waits for -/
  asked : Option Nat := none
deriving DecidableEq, Repr

/-- A Stockpile arrival: header (R124) and data. -/
structure Arrival where
  hdr : Nat := 0
  data : List Byte := []
  entry : Nat := 0
  raised : Bool := false
deriving DecidableEq, Repr

/-- A copy of a block input in the Stockpile parts (R126); whether a word of it has taken an inverted parity bit. -/
structure Copy where
  data : List Byte := []
  bad : Bool := false
deriving DecidableEq, Repr

/-- Bytes cached in a half's KV part, by the address that they were cached from (R23). -/
structure KvPage where
  half : Nat := 0
  addr : Nat := 0
  data : List Byte := []
  bad : Bool := false
deriving DecidableEq, Repr

/-- The Stockpile: entry records (R127), arrival order, releases waiting, arrivals. -/
structure Stock where
  ents : FMap Nat := []
  order : FMap Nat := []
  count : Nat := 0
  releasing : List Nat := []
  /-- far unit reserved for a Spilling entry, by entry number -/
  spill : FMap Nat := []
  /-- cached copies by entry number (R126) -/
  copies : FMap Copy := []
  /-- records that output entries and link outputs take once written, by `comeKey`: the chain scratch they hold -/
  coming : FMap Nat := []
  fromFree : List Nat := []
  arriving : Option Arrival := none
  waiting : List Arrival := []
  backed : Bool := false
  backedAt : Nat := 0
  /-- the entry whose spill make_room waits for, and whether an entry has been freed since its last loop test (R131) -/
  own : Option Nat := none
  freed : Bool := false
deriving DecidableEq, Repr

/-- A key/value block held by this package (R168): header fields, coded keys, values, rider. -/
structure KvBlock where
  owner : Nat := 0
  block : Nat := 0
  hop : Nat := 0
  pos : Nat := 0
  tokens : Nat := 0
  base : Nat := 0
  keys : List Byte := []
  vals : List Byte := []
  rider : FMap Nat := []
  /-- query blocks that have processed it, in ascending order (R155) -/
  next : Nat := 0
  processed : Bool := false
  sent : Bool := false
deriving DecidableEq, Repr

/-- Row state of one query row (R156, R158, R161): statistics, output or dQ accumulators, scale registers. -/
structure Row where
  m : Nat := 0xFF800000
  l : Nat := 0
  acc : FMap Nat := []
  scale : FMap Nat := []
deriving DecidableEq, Repr

/-- A revolution of the ring in progress (R169 to R172). -/
structure Rev where
  ring : Nat := 0
  slot : Nat := 0
  size : Nat := 1
  pos : Nat := 0
  round : Nat := 0
  blocks : List KvBlock := []
  rows : FMap Row := []
  /-- staging copy of the rider of the block in progress, binary64 (R171) -/
  stage : FMap Nat := []
  /-- round whose train is being sent (R169) -/
  sendRound : Nat := 0
  /-- hops for which the predecessor holds credit, the return hop N among them; credit held towards the successor, by train slot, the
  return slot as 2 (R170) -/
  granted : List Nat := []
  credit : List Nat := []
  returned : List KvBlock := []
  written : Nat := 0
  /-- statistics and outputs, or dQ, have been written -/
  drained : Bool := false
deriving DecidableEq, Repr

/-- A WLB entry (R179). -/
structure WlbEnt where
  seqid : Nat := 0
  page : Nat := 0
  gen : Nat := 0
  kaddr : Nat := 0
  vaddr : Nat := 0
  stamp : Nat := 0
  valid : Bool := false
deriving DecidableEq, Repr

/-- Attention state outside the pans. -/
structure Att where
  rev : Option Rev := none
  wlb : FMap WlbEnt := []
  stamp : Nat := 0
  /-- tries of the walk in progress, and whether it waits on an odd generation (R177) -/
  tries : Nat := 0
  odd : Bool := false
  /-- credits that arrived before the revolution they are for began here (R170) -/
  early : List Nat := []
  /-- what the KV parts hold, last cached first (R23) -/
  pages : List KvPage := []
deriving DecidableEq, Repr

/-- A hub outside its launders (R235, R241, R363, R378, R382). -/
structure Hub where
  step : Nat := 0
  temp : Nat := 0
  autonomous : Bool := false
  /-- one more than the time of the last heartbeat received; 0 for none -/
  beatAt : Nat := 0
  /-- places at which the round robins of its ports go on, of all requesters and of urgent ones (R241, R252) -/
  rrRead : Nat := 0
  rrWrite : Nat := 0
  urgRead : Nat := 0
  urgWrite : Nat := 0
  /-- time of the last progress event (R235) -/
  movedAt : Nat := 0
  ordHeld : Bool := false
deriving DecidableEq, Repr

/-- The Weir (R370 to R377). Budgets are in units of 1/65536 A, below 0 while a charge is being paid off; samples are in
mA, newest first. -/
structure Weir where
  budget0 : Int := 0
  budget1 : Int := 0
  samples0 : List Nat := []
  samples1 : List Nat := []
  railAlert : Bool := false
  railEmg : Bool := false
  refclk : Bool := true
  overPower : Bool := false
  overCurrent : Bool := false
  episode : Bool := false
  emergency : Bool := false
  emgSince : Nat := 0
deriving DecidableEq, Repr

/-- One direction of a Causeway module (R368). -/
structure Dir where
  next : Nat := 0
  last : Nat := 4095
  unacked : List (Nat × List (BitVec 32)) := []
  replays : Nat := 0
deriving DecidableEq, Repr

/-- A Causeway module (R365, R366, R382). -/
structure Mod where
  state : Nat := 5
  attempts : Nat := 1
  failedE : Nat := 0
  failedW : Nat := 0
  toEast : Dir := {}
  toWest : Dir := {}
deriving DecidableEq, Repr

/-- The answer to a dictionary request. -/
inductive Answer where
  | confirm
  | data (bytes : List Byte)
  | abort (code : Nat)
deriving DecidableEq, Repr

/-- A mailbox channel (R330). -/
structure Mbx where
  req : Option (Nat × Nat × Usdo) := none
  resp : Option (Nat × Answer) := none
deriving DecidableEq, Repr

/-- A segmented transfer in progress (R331, R332). -/
structure Xfer where
  index : Nat := 0
  sub : Nat := 0
  down : Bool := true
  size : Nat := 0
  data : List Byte := []
deriving DecidableEq, Repr

/-- An open session (R333, R340); `sel` holds its selectors (R309). -/
structure Session where
  cl : Nat := 0
  priv : Nat := 0
  served : Nat := 0
  last : Nat := 0
  sel : FMap (Option Nat) := []
deriving DecidableEq, Repr

/-- Handshake state of a client address (R333 to R335). -/
structure Client where
  chal : Option (Nat × Nat) := none
  fails : Nat := 0
  locked : Bool := false
deriving DecidableEq, Repr

/-- A commit or erase in progress and the commit status (R350 to R352, R358). -/
structure Commit where
  status : Nat := 0
  cmd : Nat := 0
  step : Nat := 0
  record : Nat := 0
  abort : Nat := 0
  image : List Byte := []
deriving DecidableEq, Repr

/-- Quiesce snapshot (R353 to R356). -/
structure Snap where
  state : Nat := 0
  expired : Bool := false
  disturbed : Bool := false
  /-- every resident group has been written back for it (R105) -/
  flushed : Bool := false
  since : Nat := 0
  /-- time at which Live was left: the Stillwater watch counts none from then on (R354) -/
  left : Nat := 0
deriving DecidableEq, Repr

/-- An entry of the fault log (R396). -/
structure LogEnt where
  code : Nat := 0
  kind : Nat := 0
  fstate : Nat := 0
  loc : Nat := 0
  time : Nat := 0
  addr : Nat := 0
  slot : Nat := 0
  ring : Nat := 0xFF
  acked : Bool := false
deriving DecidableEq, Repr

/-- What the block sends and raises: the model's own trace. -/
inductive Out where
  | event (code : Nat)
  | frame (id : Nat) (data : List Byte)
  | answer (cl : Nat) (a : Answer)
  | block (hdr : Nat) (payload : List Byte) (rider : List Nat)
  | credit (slot : Nat)
  | nak (mod : Nat) (toEast : Bool) (ack : Nat)
  | flits (mod : Nat) (toEast : Bool) (seqs : List Nat)
  | invalidated (half page : Nat)
  | translate (half page : Nat)
deriving DecidableEq, Repr

/-- The sequencer (R17, R279, R115): rings, work orders read and not completed, version states. -/
structure Seq where
  rings : FMap Ring := []
  orders : List Order := []
  readCount : Nat := 0
  /-- ring admitted last; round robin begins at ring 0 after a reset, of which R17 says nothing (DESIGN CHOICE, log entry 6) -/
  lastRing : Nat := 15
  layers : FMap Layer := []
  /-- Harrow records as last read, by layer (2790/07) -/
  records : FMap Nat := []
deriving DecidableEq, Repr

/-- The Windrow (R22, R100, R103): regions, resident groups, promotions waiting at their home hubs. -/
structure Win where
  regions : FMap Region := []
  frames : FMap Frame := []
  stamp : Nat := 0
  promos : List Promo := []
deriving DecidableEq, Repr

/-- Streams, launders, buffers, requests and translation (R226 to R251). -/
structure Strm where
  lset : FMap (Option Nat) := []
  queues : FMap Queue := []
  bufs : List Buf := []
  bufCount : Nat := 0
  streams : List Stream := []
  faultRecs : FMap (Option FaultRec) := []
  reqs : List Req := []
  tags : List Tag := []
  tlb : List TlbEnt := []
  misses : List (Nat × Nat) := []
  writeTags : Nat := 32
  invals : List Inval := []
  /-- hub of a half at which its port block's round robin goes on, by 2 * half + port (R242) -/
  served : FMap Nat := []
  /-- by 2 * half + direction: channel at which a DMA engine's round robin goes on, and one more than the channel that it
  served last (R268) -/
  dmaNext : FMap Nat := []
  dmaLast : FMap Nat := []
deriving DecidableEq, Repr

/-- The control island itself (R394, R380) and the values in force since the last full reset (R327, R382). -/
structure Ctl where
  halted : Bool := false
  heldAfterPhase1 : Bool := false
  nodeId : Nat := 16
  dataRate : Nat := 2
  trainLimit : Nat := 3
deriving DecidableEq, Repr

/-- The Causeway modules and the island links (replays of the word in flight, by link number). -/
structure Link where
  mods : FMap Mod := []
  links : FMap Nat := []
deriving DecidableEq, Repr

/-- The management link: mailbox, transfers, sessions, handshakes, keys. -/
structure Mgt where
  mbx : FMap Mbx := []
  xfers : FMap (Option Xfer) := []
  sessions : FMap (Option Session) := []
  clients : FMap Client := []
  keys : FMap (List Byte) := []
deriving DecidableEq, Repr

/-- Configuration flash, commit and snapshot. -/
structure Cfg where
  flash : FMap Byte := []
  commit : Commit := {}
  snap : Snap := {}
deriving DecidableEq, Repr

/-- The fault collector's log, newest first (R396). -/
structure Flt where
  log : List LogEnt := []
deriving DecidableEq, Repr

/-- The machine. -/
structure State where
  /-- commands waiting, first in first out (the model's own) -/
  pending : List Instr
  /-- what the block has sent and raised, newest first (the model's own) -/
  out : List Out
  /-- microseconds since the last full reset -/
  timeUs : Nat
  /-- draws of random or open values made so far (indexes the free values of Config) -/
  draws : Nat
  /-- package memory, bytes by package address; unlisted bytes read 0 -/
  mem : List Host.Cell
  /-- dictionary objects and counters that differ from their defaults, by 256 * index + subindex -/
  objs : FMap (Option Nat)
  /-- function records; unlisted: `FnRec` with its defaults -/
  fns : FMap FnRec
  ctl : Ctl
  seq : Seq
  win : Win
  pans : FMap Pan
  hubs : FMap Hub
  strm : Strm
  chans : FMap Chan
  stock : Stock
  att : Att
  /-- quantisation descriptors as last read (2690/03), by number -/
  qds : FMap Nat
  weir : Weir
  link : Link
  mgt : Mgt
  cfg : Cfg
  flt : Flt
deriving DecidableEq, Repr

/-- A record that is not permanent and rests in Ready, the default reset target (R310). -/
def FnRec.init : FnRec := {}

/-- A permanent function's record: Running (R319). -/
def FnRec.permanent : FnRec := { state := .running, target := .running }

/-- The machine right after a power-on reset with erased configuration banks: every function at its default
reset target Ready, the permanent functions A, B and E Running (R310, R319), the launder set of R232, every
counter and object at its default but for what the reset itself changes (Unconfigured and the bank states, R347; the
boot-up frame sent, R328; the state changes of bring-up, R379), the Causeway trained (R366), all pans at level 0. -/
def State.reset : State where
  pending := []
  out := []
  timeUs := 0
  draws := 0
  mem := []
  objs := [(0x110106, some 1), (0x210005, some 2), (0x220005, some 2), (0x230005, some 2), (0x240005, some 2),
           (0x250005, some 2), (0x260005, some 2), (0x270005, some 2), (0x280005, some 2), (0x290005, some 2),
           (0x2A0005, some 1), (0x2B0005, some 1), (0x2B1003, some 1), (0x2B1004, some 1), (0x2B1005, some 1),
           (0x2C0005, some 2), (0x2D0005, some 2), (0x2E0005, some 1)]
  fns := [(10, FnRec.permanent), (11, FnRec.permanent), (14, FnRec.permanent)]
  ctl := {}
  seq := {}
  win := {}
  pans := []
  hubs := []
  strm := {}
  chans := []
  stock := {}
  att := {}
  qds := []
  weir := {}
  link := {}
  mgt := {}
  cfg := {}
  flt := {}

end Sys2Proof.Machine
end

