-- ==== Sys2Proof/Machine/ObjTab.lean ====
section
/-! DEFINITION. The objects of the dictionary as the object tables of the chapters give them (R303 to R306): index,
subindex, type, access, level, default and whether the name ends in "select". Index 0x2100 stands for 2n00, 0x2220 for
2220 + c, 0x2280 for 2280 + c, 0x2340 for 2340 + r and 0x4000 for 4000 + p. A default that a table leaves out, because the
value is computed on reading, is 0. -/

namespace Sys2Proof.Machine

/-- Data types of R305; `str n` is a string of n bytes. -/
inductive Ty where
  | bool | u8 | u16 | u32 | u64 | real
  | str (n : Nat)
deriving DecidableEq, Repr

/-- Access codes of R306. -/
inductive Acc where
  | const | ro | rw | wo
deriving DecidableEq, Repr

/-- Levels of R307; `outside` marks the handshake objects of R333. -/
inductive Lvl where
  | basic | expert | custodian | outside
deriving DecidableEq, Repr

/-- One row of an object table. -/
structure ObjRow where
  index : Nat
  sub : Nat
  ty : Ty
  acc : Acc
  lvl : Lvl
  dflt : Nat := 0
  sel : Bool := false
deriving DecidableEq, Repr

def objs10 : List ObjRow :=
  [⟨0x1000, 0, .u32, .const, .basic, 0, false⟩,  -- Device type
   ⟨0x1001, 0, .u8, .ro, .basic, 0, false⟩,  -- Error register
   ⟨0x1008, 0, .str 16, .const, .basic, 0, false⟩,  -- Device name
   ⟨0x1009, 0, .str 8, .const, .basic, 0, false⟩,  -- Hardware version
   ⟨0x100A, 0, .str 16, .ro, .basic, 0, false⟩,  -- Software version
   ⟨0x1018, 1, .u32, .const, .basic, 0x4B59, false⟩,  -- Vendor-ID
   ⟨0x1018, 2, .u32, .const, .basic, 0xB301, false⟩,  -- Product code
   ⟨0x1018, 3, .u32, .const, .basic, 0x20001, false⟩,  -- Revision number
   ⟨0x1018, 4, .u32, .const, .basic, 0, false⟩]  -- Serial number

def objs11 : List ObjRow :=
  [⟨0x1100, 1, .u8, .rw, .custodian, 16, false⟩,  -- Node-ID
   ⟨0x1100, 2, .u8, .rw, .custodian, 2, false⟩,  -- Data-phase rate
   ⟨0x1100, 3, .u16, .rw, .basic, 1000, false⟩,  -- Heartbeat time
   ⟨0x1101, 1, .u8, .ro, .basic, 0, false⟩,  -- Transmit error counter
   ⟨0x1101, 2, .u8, .ro, .basic, 0, false⟩,  -- Receive error counter
   ⟨0x1101, 3, .u8, .ro, .basic, 0, false⟩,  -- Error state
   ⟨0x1101, 4, .u32, .ro, .basic, 0, false⟩,  -- Bus-off episodes
   ⟨0x1101, 5, .u64, .ro, .basic, 0, false⟩,  -- Frames received
   ⟨0x1101, 6, .u64, .ro, .basic, 0, false⟩,  -- Frames sent
   ⟨0x1110, 1, .u64, .ro, .basic, 0, false⟩]  -- Mailbox requests

def objs1F : List ObjRow :=
  [⟨0x1F00, 1, .u16, .wo, .basic, 0, false⟩,  -- Full reset
   ⟨0x1F00, 2, .u32, .ro, .basic, 0, false⟩,  -- Resets
   ⟨0x1F10, 1, .u32, .ro, .basic, 0, false⟩,  -- Function state n
   ⟨0x1F10, 2, .u32, .ro, .basic, 0, false⟩,  -- Function state n
   ⟨0x1F10, 3, .u32, .ro, .basic, 0, false⟩,  -- Function state n
   ⟨0x1F10, 4, .u32, .ro, .basic, 0, false⟩,  -- Function state n
   ⟨0x1F10, 5, .u32, .ro, .basic, 0, false⟩,  -- Function state n
   ⟨0x1F10, 6, .u32, .ro, .basic, 0, false⟩,  -- Function state n
   ⟨0x1F10, 7, .u32, .ro, .basic, 0, false⟩,  -- Function state n
   ⟨0x1F10, 8, .u32, .ro, .basic, 0, false⟩,  -- Function state n
   ⟨0x1F10, 9, .u32, .ro, .basic, 0, false⟩,  -- Function state n
   ⟨0x1F10, 10, .u32, .ro, .basic, 0, false⟩,  -- Function state n
   ⟨0x1F10, 11, .u32, .ro, .basic, 0, false⟩,  -- Function state n
   ⟨0x1F10, 12, .u32, .ro, .basic, 0, false⟩,  -- Function state n
   ⟨0x1F10, 13, .u32, .ro, .basic, 0, false⟩,  -- Function state n
   ⟨0x1F10, 14, .u32, .ro, .basic, 0, false⟩,  -- Function state n
   ⟨0x1F10, 15, .u16, .ro, .basic, 0, false⟩]  -- Functions not Running

def objs21a : List ObjRow :=
  [⟨0x2100, 1, .u8, .rw, .basic, 0, false⟩,  -- Control word
   ⟨0x2100, 2, .u32, .ro, .basic, 0, false⟩,  -- State word
   ⟨0x2100, 3, .u8, .rw, .basic, 2, false⟩,  -- Reset target
   ⟨0x2100, 4, .u16, .ro, .basic, 0, false⟩,  -- Last fault
   ⟨0x2100, 5, .u32, .ro, .basic, 0, false⟩,  -- Transitions
   ⟨0x2100, 6, .u32, .ro, .basic, 0, false⟩,  -- Time in state
   ⟨0x2100, 7, .u32, .rw, .basic, 0, false⟩,  -- Stopping limit
   ⟨0x2110, 1, .u16, .rw, .basic, 0x1000, false⟩,  -- Aging threshold
   ⟨0x2110, 2, .u16, .rw, .basic, 10, false⟩,  -- Stillwater interval
   ⟨0x2110, 3, .u64, .ro, .basic, 0, false⟩,  -- Launder set base
   ⟨0x2110, 4, .u8, .ro, .basic, 0, false⟩,  -- Last refusal reason
   ⟨0x2111, 1, .u64, .ro, .basic, 0, false⟩,  -- Requests granted
   ⟨0x2111, 2, .u64, .ro, .basic, 0, false⟩,  -- Urgent grants
   ⟨0x2111, 3, .u64, .ro, .basic, 0, false⟩,  -- Deferred faults dropped
   ⟨0x2111, 4, .u32, .ro, .basic, 0, false⟩,  -- Streams held
   ⟨0x2111, 5, .u64, .ro, .basic, 0, false⟩,  -- Watch refetches
   ⟨0x2111, 6, .u64, .ro, .basic, 0, false⟩,  -- Epoch refetches
   ⟨0x2111, 7, .u32, .ro, .basic, 0, false⟩,  -- Resumes
   ⟨0x2111, 8, .u64, .ro, .basic, 0, false⟩,  -- Credit waits
   ⟨0x2111, 9, .u32, .ro, .basic, 0, false⟩,  -- Launder sets refused
   ⟨0x2111, 10, .u64, .ro, .basic, 0, false⟩,  -- Translation misses
   ⟨0x2112, 1, .u8, .rw, .basic, 0, true⟩,  -- Launder select
   ⟨0x2112, 2, .str 16, .ro, .basic, 0, false⟩,  -- Launder state
   ⟨0x2113, 1, .u8, .rw, .basic, 0, true⟩]  -- Hub select

def objs21b : List ObjRow :=
  [⟨0x2113, 2, .str 16, .ro, .basic, 0, false⟩,  -- Hub state
   ⟨0x2120, 1, .u16, .ro, .basic, 0, false⟩,  -- Held streams
   ⟨0x2120, 2, .u8, .rw, .basic, 0, true⟩,  -- Fault select
   ⟨0x2120, 3, .str 64, .ro, .basic, 0, false⟩,  -- Fault record
   ⟨0x2120, 4, .u8, .rw, .basic, 0, false⟩,  -- Resume
   ⟨0x2190, 1, .u8, .rw, .expert, 8, false⟩,  -- Epoch retry limit
   ⟨0x2190, 2, .u16, .rw, .expert, 1, false⟩,  -- Odd-epoch wait
   ⟨0x2190, 3, .u8, .rw, .expert, 32, false⟩,  -- Write tags
   ⟨0x2190, 4, .u16, .rw, .expert, 0, true⟩,  -- Tag select
   ⟨0x2190, 5, .str 16, .ro, .expert, 0, false⟩]  -- Tag state

def objs22a : List ObjRow :=
  [⟨0x2210, 1, .u64, .rw, .basic, 0, false⟩,  -- Status area base
   ⟨0x2210, 2, .u32, .rw, .basic, 0, false⟩,  -- Half pending
   ⟨0x2210, 3, .u32, .rw, .basic, 0, false⟩,  -- Full pending
   ⟨0x2210, 4, .u32, .rw, .basic, 0, false⟩,  -- End pending
   ⟨0x2210, 5, .u32, .rw, .basic, 0xFFFFFFFF, false⟩,  -- Interrupt enable
   ⟨0x2211, 1, .u64, .ro, .basic, 0, false⟩,  -- Descriptors completed
   ⟨0x2211, 2, .u64, .ro, .basic, 0, false⟩,  -- Bytes written
   ⟨0x2211, 3, .u32, .ro, .basic, 0, false⟩,  -- Aborts
   ⟨0x2211, 4, .u32, .ro, .basic, 0, false⟩,  -- Halts
   ⟨0x2211, 5, .u64, .ro, .basic, 0, false⟩,  -- Pre-emptions
   ⟨0x2211, 6, .u64, .ro, .basic, 0, false⟩,  -- Pacing stops
   ⟨0x2211, 7, .u64, .ro, .basic, 0, false⟩,  -- Gate handles pushed
   ⟨0x2220, 1, .u8, .rw, .basic, 0, false⟩,  -- Control
   ⟨0x2220, 2, .u64, .rw, .basic, 0, false⟩,  -- List head
   ⟨0x2220, 3, .u8, .ro, .basic, 0, false⟩,  -- State
   ⟨0x2220, 4, .u64, .ro, .basic, 0, false⟩,  -- Current descriptor
   ⟨0x2220, 5, .u32, .ro, .basic, 0, false⟩,  -- Bytes written
   ⟨0x2220, 6, .str 32, .ro, .basic, 0, false⟩,  -- Status
   ⟨0x2220, 7, .u8, .rw, .basic, 0, false⟩,  -- Priority
   ⟨0x2220, 8, .u8, .rw, .basic, 0, false⟩,  -- Pacing launder
   ⟨0x2220, 9, .u8, .rw, .basic, 0, false⟩,  -- Pacing mode
   ⟨0x2220, 10, .u8, .rw, .basic, 8, false⟩,  -- Low watermark
   ⟨0x2220, 11, .u8, .rw, .basic, 48, false⟩,  -- High watermark
   ⟨0x2280, 1, .bool, .rw, .expert, 0, false⟩]  -- Urgent

def objs22b : List ObjRow :=
  [⟨0x2280, 2, .str 512, .ro, .expert, 0, false⟩,  -- Staging buffer
   ⟨0x2280, 3, .u32, .ro, .expert, 0, false⟩]  -- Burst position

def objs23a : List ObjRow :=
  [⟨0x2311, 1, .u64, .ro, .basic, 0, false⟩,  -- E4M3 saturations
   ⟨0x2311, 2, .u64, .ro, .basic, 0, false⟩,  -- E5M2 saturations
   ⟨0x2311, 3, .u64, .ro, .basic, 0, false⟩,  -- Overflows to infinity
   ⟨0x2311, 4, .u64, .ro, .basic, 0, false⟩,  -- NaN outputs
   ⟨0x2320, 1, .u16, .rw, .basic, 0, true⟩,  -- Layer select
   ⟨0x2320, 2, .str 16, .ro, .basic, 0, false⟩,  -- Version state
   ⟨0x2320, 3, .u64, .rw, .basic, 0, false⟩,  -- Layer table base
   ⟨0x2321, 1, .u64, .ro, .basic, 0, false⟩,  -- DX completed
   ⟨0x2321, 2, .u64, .ro, .basic, 0, false⟩,  -- DW completed
   ⟨0x2321, 3, .u64, .ro, .basic, 0, false⟩,  -- Dual draws completed
   ⟨0x2321, 4, .u64, .ro, .basic, 0, false⟩,  -- Masked tiles skipped
   ⟨0x2321, 5, .u64, .ro, .basic, 0, false⟩,  -- Masked rows skipped
   ⟨0x2321, 6, .u32, .ro, .basic, 0, false⟩,  -- Update stalls
   ⟨0x2321, 7, .u32, .ro, .basic, 0, false⟩,  -- Version refusals
   ⟨0x2321, 8, .u32, .ro, .basic, 0, false⟩,  -- Region ring refusals
   ⟨0x2340, 1, .u64, .rw, .basic, 0, false⟩,  -- Ring base
   ⟨0x2340, 2, .u32, .rw, .basic, 16, false⟩,  -- Ring size
   ⟨0x2340, 3, .u64, .rw, .basic, 0, false⟩,  -- Completion base
   ⟨0x2340, 4, .u32, .rw, .basic, 16, false⟩,  -- Completion size
   ⟨0x2340, 5, .u64, .rw, .basic, 0, false⟩,  -- Control block
   ⟨0x2340, 6, .u8, .rw, .basic, 0, false⟩,  -- Control
   ⟨0x2340, 7, .u8, .ro, .basic, 0, false⟩,  -- State
   ⟨0x2340, 8, .bool, .rw, .basic, 1, false⟩,  -- Halt on error
   ⟨0x2340, 9, .u32, .ro, .basic, 0, false⟩]  -- TAIL

def objs23b : List ObjRow :=
  [⟨0x2340, 10, .u32, .ro, .basic, 0, false⟩,  -- CHEAD
   ⟨0x2340, 11, .u16, .rw, .basic, 0, false⟩,  -- Abort slot
   ⟨0x2350, 1, .u16, .rw, .basic, 0, false⟩,  -- Completion pending
   ⟨0x2350, 2, .u16, .rw, .basic, 0xFFFF, false⟩,  -- Completion enable
   ⟨0x2350, 3, .u16, .rw, .basic, 2, false⟩,  -- Poll interval
   ⟨0x2351, 1, .u64, .ro, .basic, 0, false⟩,  -- Work orders read
   ⟨0x2351, 2, .u64, .ro, .basic, 0, false⟩,  -- Refused
   ⟨0x2351, 3, .u32, .ro, .basic, 0, false⟩,  -- Failed
   ⟨0x2351, 4, .u32, .ro, .basic, 0, false⟩,  -- Aborted
   ⟨0x2351, 5, .u32, .ro, .basic, 0, false⟩,  -- Pre-emptions
   ⟨0x2380, 1, .bool, .rw, .expert, 0, false⟩]  -- No in-place update

def objs24a : List ObjRow :=
  [⟨0x2410, 1, .u64, .rw, .basic, 0, false⟩,  -- Near base
   ⟨0x2410, 2, .u64, .rw, .basic, 0, false⟩,  -- Near size
   ⟨0x2410, 3, .u64, .rw, .basic, 0, false⟩,  -- Far base
   ⟨0x2410, 4, .u64, .rw, .basic, 0, false⟩,  -- Far size
   ⟨0x2410, 5, .u64, .rw, .basic, 0, false⟩,  -- Chain scratch base
   ⟨0x2410, 6, .u64, .rw, .basic, 0, false⟩,  -- Chain scratch size
   ⟨0x2410, 7, .u64, .rw, .basic, 0, false⟩,  -- Recipe table base
   ⟨0x2410, 8, .u64, .rw, .basic, 0, false⟩,  -- Entry table base
   ⟨0x2410, 9, .bool, .rw, .basic, 1, false⟩,  -- Deepen enable
   ⟨0x2410, 10, .u8, .rw, .basic, 4, false⟩,  -- Chain limit
   ⟨0x2411, 1, .u64, .ro, .basic, 0, false⟩,  -- Arrivals
   ⟨0x2411, 2, .u64, .ro, .basic, 0, false⟩,  -- Spills
   ⟨0x2411, 3, .u64, .ro, .basic, 0, false⟩,  -- Drops
   ⟨0x2411, 4, .u32, .ro, .basic, 0, false⟩,  -- Back-pressure episodes
   ⟨0x2411, 5, .u64, .ro, .basic, 0, false⟩,  -- Back-pressure time
   ⟨0x2411, 6, .u64, .ro, .basic, 0, false⟩,  -- Chain links
   ⟨0x2411, 7, .u64, .ro, .basic, 0, false⟩,  -- Releases
   ⟨0x2411, 8, .u32, .ro, .basic, 0, false⟩,  -- Arrivals refused
   ⟨0x2412, 1, .u64, .ro, .basic, 0, false⟩,  -- Bytes on chip
   ⟨0x2412, 2, .u64, .ro, .basic, 0, false⟩,  -- Bytes near
   ⟨0x2412, 3, .u64, .ro, .basic, 0, false⟩,  -- Bytes far
   ⟨0x2412, 4, .u64, .ro, .basic, 0, false⟩,  -- Bytes in chain scratch
   ⟨0x2490, 1, .u16, .rw, .expert, 0, true⟩,  -- Entry select
   ⟨0x2490, 2, .str 32, .ro, .expert, 0, false⟩]  -- Entry record

def objs24b : List ObjRow :=
  [⟨0x2490, 3, .u8, .rw, .expert, 100, false⟩]  -- Offload watermark

def objs25a : List ObjRow :=
  [⟨0x2510, 1, .u16, .rw, .basic, 1, false⟩,  -- Ring size
   ⟨0x2510, 2, .u8, .rw, .basic, 0, false⟩,  -- Ring position
   ⟨0x2510, 3, .u32, .rw, .basic, 50, false⟩,  -- Remote timeout
   ⟨0x2511, 1, .u64, .ro, .basic, 0, false⟩,  -- ATTB completed
   ⟨0x2511, 2, .u64, .ro, .basic, 0, false⟩,  -- ATTS and ATTF completed
   ⟨0x2511, 3, .u64, .ro, .basic, 0, false⟩,  -- Pairs processed
   ⟨0x2511, 4, .u64, .ro, .basic, 0, false⟩,  -- Pairs skipped
   ⟨0x2511, 5, .u64, .ro, .basic, 0, false⟩,  -- Blocks sent
   ⟨0x2511, 6, .u64, .ro, .basic, 0, false⟩,  -- Riders returned
   ⟨0x2511, 7, .u64, .ro, .basic, 0, false⟩,  -- Deferred factors applied
   ⟨0x2511, 8, .u64, .ro, .basic, 0, false⟩,  -- dS saturations
   ⟨0x2511, 9, .u64, .ro, .basic, 0, false⟩,  -- Walks
   ⟨0x2511, 10, .u64, .ro, .basic, 0, false⟩,  -- WLB hits
   ⟨0x2511, 11, .u64, .ro, .basic, 0, false⟩,  -- WLB misses
   ⟨0x2511, 12, .u64, .ro, .basic, 0, false⟩,  -- Rows with no key
   ⟨0x2511, 13, .u64, .ro, .basic, 0, false⟩,  -- Generation retries
   ⟨0x2511, 14, .u64, .ro, .basic, 0, false⟩,  -- Odd-generation waits
   ⟨0x2590, 1, .u8, .rw, .expert, 0, true⟩,  -- Walker select
   ⟨0x2590, 2, .u16, .rw, .expert, 0, true⟩,  -- WLB entry select
   ⟨0x2590, 3, .str 32, .ro, .expert, 0, false⟩,  -- WLB entry
   ⟨0x2590, 4, .u8, .rw, .expert, 16, false⟩,  -- Generation retry limit
   ⟨0x2590, 5, .u16, .rw, .expert, 1, false⟩,  -- Odd-generation wait
   ⟨0x2590, 6, .u8, .rw, .expert, 0, false⟩,  -- WLB invalidate
   ⟨0x2590, 7, .u16, .ro, .expert, 0xFFFF, false⟩]  -- Round in progress

def objs25b : List ObjRow :=
  [⟨0x2590, 8, .bool, .rw, .expert, 0, false⟩]  -- Eager rescale

def objs26 : List ObjRow :=
  [⟨0x2610, 1, .u64, .rw, .basic, 0, false⟩,  -- QD table base
   ⟨0x2610, 2, .u16, .rw, .basic, 0, false⟩,  -- QDs in use
   ⟨0x2610, 3, .bool, .rw, .basic, 1, false⟩,  -- Automatic rewet enable
   ⟨0x2611, 1, .u64, .ro, .basic, 0, false⟩,  -- QCAL completed
   ⟨0x2611, 2, .u64, .ro, .basic, 0, false⟩,  -- Elements quantised
   ⟨0x2611, 3, .u64, .ro, .basic, 0, false⟩,  -- Elements clipped
   ⟨0x2611, 4, .u64, .ro, .basic, 0, false⟩,  -- Flat units
   ⟨0x2611, 5, .u64, .ro, .basic, 0, false⟩,  -- Scales floored
   ⟨0x2611, 6, .u32, .ro, .basic, 0, false⟩,  -- Rewet flags set
   ⟨0x2611, 7, .u64, .ro, .basic, 0, false⟩,  -- Rewet work orders
   ⟨0x2611, 8, .u64, .ro, .basic, 0, false⟩,  -- Flake products
   ⟨0x2611, 9, .u64, .ro, .basic, 0, false⟩,  -- Scale-gradient promotions
   ⟨0x2611, 10, .u64, .ro, .basic, 0, false⟩,  -- Non-finite groups
   ⟨0x2690, 1, .bool, .rw, .expert, 0, false⟩,  -- Force rewet
   ⟨0x2690, 2, .u16, .rw, .expert, 0, true⟩,  -- QD select
   ⟨0x2690, 3, .str 128, .ro, .expert, 0, false⟩]  -- QD as read

def objs27 : List ObjRow :=
  [⟨0x2710, 1, .u64, .rw, .basic, 0, false⟩,  -- Harrow table base
   ⟨0x2710, 2, .u64, .rw, .basic, 0, false⟩,  -- Schedule table base
   ⟨0x2710, 3, .u16, .rw, .basic, 0, false⟩,  -- Records in use
   ⟨0x2711, 1, .u64, .ro, .basic, 0, false⟩,  -- UPDATE completed
   ⟨0x2711, 2, .u64, .ro, .basic, 0, false⟩,  -- PRECOND completed
   ⟨0x2711, 3, .u64, .ro, .basic, 0, false⟩,  -- Frozen groups skipped
   ⟨0x2711, 4, .u32, .ro, .basic, 0, false⟩,  -- Steps skipped
   ⟨0x2711, 5, .u64, .ro, .basic, 0, false⟩,  -- Roots computed
   ⟨0x2711, 6, .u64, .ro, .basic, 0, false⟩,  -- Blocks fallen back
   ⟨0x2711, 7, .u64, .ro, .basic, 0, false⟩,  -- Zero-trace blocks
   ⟨0x2711, 8, .u64, .ro, .basic, 0, false⟩,  -- Newton–Schulz iterations
   ⟨0x2711, 9, .u32, .ro, .basic, 0, false⟩,  -- In-place updates
   ⟨0x2790, 1, .bool, .rw, .expert, 0, false⟩,  -- Frozen update fault
   ⟨0x2790, 2, .u8, .rw, .expert, 24, false⟩,  -- Iteration limit
   ⟨0x2790, 3, .real, .rw, .expert, 0x3C000000, false⟩,  -- Residual limit
   ⟨0x2790, 4, .real, .rw, .expert, 0x358637BD, false⟩,  -- Damping ratio
   ⟨0x2790, 5, .bool, .rw, .expert, 1, false⟩,  -- Graft
   ⟨0x2790, 6, .u16, .rw, .expert, 0, true⟩,  -- Layer select
   ⟨0x2790, 7, .str 128, .ro, .expert, 0, false⟩,  -- Harrow record
   ⟨0x2790, 8, .str 64, .ro, .expert, 0, false⟩,  -- Moment header, slot 0
   ⟨0x2790, 9, .str 64, .ro, .expert, 0, false⟩,  -- Moment header, slot 1
   ⟨0x2790, 10, .u32, .ro, .expert, 0, false⟩]  -- Progress

def objs28 : List ObjRow :=
  [⟨0x2810, 1, .u8, .rw, .basic, 16, false⟩,  -- Slew budget
   ⟨0x2810, 2, .u16, .rw, .basic, 0x41A, false⟩,  -- Power cap
   ⟨0x2810, 3, .u16, .rw, .basic, 100, false⟩,  -- Release interval
   ⟨0x2810, 4, .u8, .rw, .basic, 105, false⟩,  -- Throttle temperature
   ⟨0x2810, 5, .u8, .rw, .basic, 115, false⟩,  -- Emergency temperature
   ⟨0x2811, 1, .u32, .ro, .basic, 0, false⟩,  -- Throttle episodes
   ⟨0x2811, 2, .u64, .ro, .basic, 0, false⟩,  -- Throttle steps
   ⟨0x2811, 3, .u32, .ro, .basic, 0, false⟩,  -- Emergencies
   ⟨0x2811, 4, .u64, .ro, .basic, 0, false⟩,  -- Emergency time
   ⟨0x2811, 5, .u64, .ro, .basic, 0, false⟩,  -- Ballast cycles
   ⟨0x2811, 6, .u32, .ro, .basic, 0, false⟩,  -- Largest slew
   ⟨0x2812, 1, .str 16, .ro, .basic, 0, false⟩,  -- Weir state
   ⟨0x2812, 2, .u8, .rw, .basic, 0, true⟩,  -- Hub select
   ⟨0x2812, 3, .str 8, .ro, .basic, 0, false⟩,  -- Hub Weir state
   ⟨0x2880, 1, .u8, .rw, .expert, 20, false⟩,  -- Emergency slew
   ⟨0x2880, 2, .u8, .rw, .expert, 0, false⟩,  -- Test throttle
   ⟨0x2880, 3, .bool, .rw, .expert, 0, false⟩]  -- Test emergency

def objs29 : List ObjRow :=
  [⟨0x2910, 1, .u8, .rw, .basic, 0, true⟩,  -- Module select
   ⟨0x2910, 2, .str 8, .ro, .basic, 0, false⟩,  -- Module state
   ⟨0x2911, 1, .u64, .ro, .basic, 0, false⟩,  -- Flits sent
   ⟨0x2911, 2, .u64, .ro, .basic, 0, false⟩,  -- Parity errors
   ⟨0x2911, 3, .u64, .ro, .basic, 0, false⟩,  -- Replays
   ⟨0x2911, 4, .u64, .ro, .basic, 0, false⟩,  -- Replay timeouts
   ⟨0x2911, 5, .u8, .ro, .basic, 0, false⟩,  -- Deepest replay
   ⟨0x2911, 6, .u32, .ro, .basic, 0, false⟩,  -- Bring-up time
   ⟨0x2980, 1, .u8, .rw, .expert, 3, false⟩,  -- Training attempts
   ⟨0x2980, 2, .u16, .rw, .expert, 500, false⟩]  -- Replay timeout

def objs2Aa : List ObjRow :=
  [⟨0x2A01, 1, .u8, .wo, .outside, 0, false⟩,  -- Open
   ⟨0x2A01, 2, .str 32, .ro, .outside, 0, false⟩,  -- Challenge
   ⟨0x2A01, 3, .str 32, .wo, .outside, 0, false⟩,  -- Response
   ⟨0x2A01, 4, .u8, .ro, .outside, 0, false⟩,  -- Own session
   ⟨0x2A01, 5, .u8, .wo, .basic, 0, false⟩,  -- Close
   ⟨0x2A10, 1, .u16, .rw, .custodian, 120, false⟩,  -- Idle timeout
   ⟨0x2A10, 2, .u16, .rw, .custodian, 0x1388, false⟩,  -- Challenge lifetime
   ⟨0x2A10, 3, .u8, .rw, .custodian, 5, false⟩,  -- Failure limit
   ⟨0x2A10, 4, .u16, .rw, .custodian, 60, false⟩,  -- Lockout time
   ⟨0x2A10, 5, .u16, .rw, .basic, 1000, false⟩,  -- Segment timeout
   ⟨0x2A11, 1, .u32, .ro, .basic, 0, false⟩,  -- Sessions opened
   ⟨0x2A11, 2, .u32, .ro, .basic, 0, false⟩,  -- Authentication failures
   ⟨0x2A11, 3, .u32, .ro, .basic, 0, false⟩,  -- Lockouts
   ⟨0x2A11, 4, .u32, .ro, .basic, 0, false⟩,  -- Idle closures
   ⟨0x2A11, 5, .u8, .ro, .basic, 0, false⟩,  -- Sessions open
   ⟨0x2A20, 1, .str 16, .ro, .basic, 0, false⟩,  -- Session n
   ⟨0x2A20, 2, .str 16, .ro, .basic, 0, false⟩,  -- Session n
   ⟨0x2A20, 3, .str 16, .ro, .basic, 0, false⟩,  -- Session n
   ⟨0x2A20, 4, .str 16, .ro, .basic, 0, false⟩,  -- Session n
   ⟨0x2A20, 5, .str 16, .ro, .basic, 0, false⟩,  -- Session n
   ⟨0x2A20, 6, .str 16, .ro, .basic, 0, false⟩,  -- Session n
   ⟨0x2A20, 7, .str 16, .ro, .basic, 0, false⟩,  -- Session n
   ⟨0x2A20, 8, .str 16, .ro, .basic, 0, false⟩,  -- Session n
   ⟨0x2A81, 1, .str 65, .wo, .custodian, 0, false⟩]  -- Key of privilege 0 to 3

def objs2Ab : List ObjRow :=
  [⟨0x2A81, 2, .str 65, .wo, .custodian, 0, false⟩,  -- Key of privilege 0 to 3
   ⟨0x2A81, 3, .str 65, .wo, .custodian, 0, false⟩,  -- Key of privilege 0 to 3
   ⟨0x2A81, 4, .str 65, .wo, .custodian, 0, false⟩,  -- Key of privilege 0 to 3
   ⟨0x2A82, 1, .u8, .wo, .custodian, 0, false⟩]  -- Close session

def objs2B : List ObjRow :=
  [⟨0x2B10, 1, .u8, .ro, .basic, 255, false⟩,  -- Loaded bank
   ⟨0x2B10, 2, .u32, .ro, .basic, 0, false⟩,  -- Loaded sequence
   ⟨0x2B10, 3, .bool, .ro, .basic, 0, false⟩,  -- Unconfigured
   ⟨0x2B10, 4, .u8, .ro, .basic, 0, false⟩,  -- Bank A status
   ⟨0x2B10, 5, .u8, .ro, .basic, 0, false⟩,  -- Bank B status
   ⟨0x2B10, 6, .u32, .ro, .basic, 0, false⟩,  -- Bank A sequence
   ⟨0x2B10, 7, .u32, .ro, .basic, 0, false⟩,  -- Bank B sequence
   ⟨0x2B11, 1, .u32, .ro, .basic, 0, false⟩,  -- Records loaded
   ⟨0x2B11, 2, .u32, .ro, .basic, 0, false⟩,  -- Records skipped
   ⟨0x2B11, 3, .u32, .ro, .basic, 0, false⟩,  -- Commits stored
   ⟨0x2B11, 4, .u32, .ro, .basic, 0, false⟩,  -- Commit failures
   ⟨0x2B20, 1, .u8, .rw, .basic, 6, false⟩,  -- Stockpile part
   ⟨0x2B80, 1, .u8, .rw, .expert, 0, false⟩,  -- Commit command
   ⟨0x2B80, 2, .u64, .rw, .expert, 0, false⟩,  -- Image address
   ⟨0x2B80, 3, .str 16, .ro, .expert, 0, false⟩]  -- Commit status

def objs2C : List ObjRow :=
  [⟨0x2C10, 1, .bool, .rw, .basic, 1, false⟩,  -- Bittern enable
   ⟨0x2C10, 2, .bool, .rw, .basic, 1, false⟩,  -- Lapse event enable
   ⟨0x2C11, 1, .u32, .ro, .basic, 0, false⟩,  -- Groups lapsed
   ⟨0x2C11, 2, .u32, .ro, .basic, 0, false⟩,  -- Groups in bittern mode
   ⟨0x2C11, 3, .u32, .ro, .basic, 0, false⟩,  -- Groups deep-lapsed
   ⟨0x2C11, 4, .u64, .ro, .basic, 0, false⟩,  -- Non-finite promotions
   ⟨0x2C20, 1, .u64, .rw, .basic, 0, false⟩,  -- Region table base
   ⟨0x2C20, 2, .u16, .rw, .basic, 0, false⟩,  -- Regions in use
   ⟨0x2C20, 3, .u64, .rw, .basic, 0, false⟩,  -- Tie table base
   ⟨0x2C21, 1, .u64, .ro, .basic, 0, false⟩,  -- Groups loaded
   ⟨0x2C21, 2, .u64, .ro, .basic, 0, false⟩,  -- Groups written back
   ⟨0x2C21, 3, .u64, .ro, .basic, 0, false⟩,  -- Region clears
   ⟨0x2C21, 4, .u32, .ro, .basic, 0, false⟩,  -- Frames in use
   ⟨0x2C90, 1, .bool, .rw, .expert, 0, false⟩,  -- Force bittern, all regions
   ⟨0x2C90, 2, .u32, .rw, .expert, 0, true⟩,  -- Group select
   ⟨0x2C90, 3, .u64, .ro, .expert, 0, false⟩,  -- Group word
   ⟨0x2C91, 1, .u16, .rw, .expert, 0, true⟩,  -- Region select
   ⟨0x2C91, 2, .str 64, .ro, .expert, 0, false⟩,  -- Region descriptor
   ⟨0x2C91, 3, .u8, .ro, .expert, 255, false⟩,  -- Owner ring
   ⟨0x2C92, 1, .u16, .wo, .expert, 0, false⟩,  -- Region restore
   ⟨0x2C92, 2, .u32, .ro, .expert, 0, false⟩]  -- Regions restored

def objs2D : List ObjRow :=
  [⟨0x2D10, 1, .u64, .ro, .basic, 0, false⟩,  -- Crusts saved
   ⟨0x2D10, 2, .u64, .ro, .basic, 0, false⟩,  -- Crusts resumed
   ⟨0x2D10, 3, .u64, .ro, .basic, 0, false⟩,  -- Crusts discarded
   ⟨0x2D10, 4, .u32, .ro, .basic, 0, false⟩,  -- Longest stop
   ⟨0x2D10, 5, .u32, .ro, .basic, 0, false⟩,  -- Tag mismatches
   ⟨0x2D10, 6, .u64, .ro, .basic, 0, false⟩,  -- Ripple loads
   ⟨0x2D90, 1, .bool, .rw, .expert, 0, false⟩,  -- Force ripple
   ⟨0x2D90, 2, .u64, .rw, .expert, 0, false⟩,  -- Test stop
   ⟨0x2D90, 3, .u64, .rw, .expert, 0, false⟩]  -- Test resume

def objs2Ea : List ObjRow :=
  [⟨0x2E10, 1, .u64, .ro, .basic, 0, false⟩,  -- Pan-store parity errors
   ⟨0x2E10, 2, .u64, .ro, .basic, 0, false⟩,  -- Repaired by refetch
   ⟨0x2E10, 3, .u64, .ro, .basic, 0, false⟩,  -- Repaired by recompute
   ⟨0x2E10, 4, .u64, .ro, .basic, 0, false⟩,  -- Parks
   ⟨0x2E10, 5, .u32, .ro, .basic, 0, false⟩,  -- Not repaired
   ⟨0x2E10, 6, .u64, .ro, .basic, 0, false⟩,  -- Hub buffer parity errors
   ⟨0x2E10, 7, .u64, .ro, .basic, 0, false⟩,  -- Stockpile and KV parity errors
   ⟨0x2E10, 8, .u32, .ro, .basic, 0, false⟩,  -- Windrow parity errors
   ⟨0x2E10, 9, .u64, .ro, .basic, 0, false⟩,  -- Poisoned responses
   ⟨0x2E11, 1, .u64, .ro, .basic, 0, false⟩,  -- Words replayed
   ⟨0x2E11, 2, .u32, .ro, .basic, 0, false⟩,  -- Replays exhausted
   ⟨0x2E11, 3, .u8, .ro, .basic, 0, false⟩,  -- Deepest replay
   ⟨0x2E20, 1, .u32, .ro, .basic, 0, false⟩,  -- Log entries written
   ⟨0x2E20, 2, .u8, .rw, .basic, 0, true⟩,  -- Log select
   ⟨0x2E20, 3, .str 32, .ro, .basic, 0, false⟩,  -- Log entry
   ⟨0x2E20, 4, .u8, .ro, .basic, 0, false⟩,  -- Unacknowledged
   ⟨0x2E20, 5, .u8, .rw, .basic, 0, false⟩,  -- Acknowledge
   ⟨0x2E30, 1, .u8, .ro, .basic, 0, false⟩,  -- Reset cause
   ⟨0x2E40, 1, .u16, .ro, .basic, 0, false⟩,  -- Poisoned regions
   ⟨0x2E40, 2, .u16, .rw, .basic, 0, true⟩,  -- Region select
   ⟨0x2E40, 3, .bool, .ro, .basic, 0, false⟩,  -- Poisoned
   ⟨0x2E80, 1, .u8, .rw, .expert, 0, false⟩,  -- Inject store
   ⟨0x2E80, 2, .u16, .rw, .expert, 0, false⟩,  -- Inject target
   ⟨0x2E80, 3, .bool, .rw, .expert, 0, false⟩]  -- Inject arm

def objs2Eb : List ObjRow :=
  [⟨0x2E80, 4, .u16, .rw, .expert, 10, false⟩]  -- Sequencer watchdog

def objs30 : List ObjRow :=
  [⟨0x3000, 1, .u8, .rw, .expert, 0, false⟩,  -- Snapshot control
   ⟨0x3000, 2, .u32, .ro, .basic, 0, false⟩,  -- Snapshot state
   ⟨0x3000, 3, .u16, .rw, .expert, 0x7D0, false⟩,  -- Snapshot limit
   ⟨0x3000, 4, .u32, .ro, .basic, 0, false⟩,  -- Snapshot generation
   ⟨0x3000, 5, .u32, .ro, .basic, 0, false⟩,  -- Quiesce time
   ⟨0x3020, 1, .u8, .rw, .basic, 0, true⟩,  -- Hub select
   ⟨0x3020, 2, .str 16, .ro, .basic, 0, false⟩]  -- Hub work

def objs40 : List ObjRow :=
  [⟨0x4000, 1, .u8, .ro, .basic, 0, false⟩,  -- Pan state
   ⟨0x4000, 2, .u8, .ro, .basic, 0, false⟩,  -- Crust slots
   ⟨0x4000, 3, .str 32, .ro, .basic, 0, false⟩,  -- Crust header, slot 0
   ⟨0x4000, 4, .str 32, .ro, .basic, 0, false⟩,  -- Crust header, slot 1
   ⟨0x4000, 5, .str 8192, .ro, .expert, 0, false⟩,  -- Crust body, slot 0
   ⟨0x4000, 6, .str 8192, .ro, .expert, 0, false⟩,  -- Crust body, slot 1
   ⟨0x4000, 7, .str 8192, .ro, .expert, 0, false⟩,  -- Live brine
   ⟨0x4000, 8, .u16, .ro, .basic, 0, false⟩,  -- Pan Weir state
   ⟨0x4000, 9, .u8, .rw, .expert, 0, false⟩]  -- Step floor

/-- Every row. -/
def objTable : List ObjRow :=
    objs10 ++ objs11 ++ objs1F ++ objs21a ++ objs21b ++ objs22a ++ objs22b ++ objs23a ++ objs23b ++ objs24a ++
  objs24b ++ objs25a ++ objs25b ++ objs26 ++ objs27 ++ objs28 ++ objs29 ++ objs2Aa ++ objs2Ab ++ objs2B ++
  objs2C ++ objs2D ++ objs2Ea ++ objs2Eb ++ objs30 ++ objs40

/-- The index under which the table lists an index. -/
def canonIndex (i : Nat) : Nat :=
  if 0x4000 ≤ i ∧ i ≤ 0x4FFF then 0x4000
  else if 0x2220 ≤ i ∧ i ≤ 0x223F then 0x2220
  else if 0x2280 ≤ i ∧ i ≤ 0x229F then 0x2280
  else if 0x2340 ≤ i ∧ i ≤ 0x234F then 0x2340
  else if i % 256 = 0 ∧ 0x2100 ≤ i ∧ i ≤ 0x2E00 then 0x2100
  else i

/-- The row of an object. -/
def objRow (i j : Nat) : Option ObjRow := objTable.find? (fun r => r.index = canonIndex i && r.sub = j)

/-- The highest subindex of an index; 0 for an index without one. -/
def highestSub (i : Nat) : Nat := ((objTable.filter (fun r => r.index = canonIndex i)).map ObjRow.sub).foldl max 0

/-- Whether an index exists (R303). -/
def indexExists (i : Nat) : Bool := objTable.any (fun r => r.index = canonIndex i)

/-- The objects whose default is not 0, by 256 * index + subindex. -/
def nonzeroDefaults : FMap Nat :=
  [(0x101801, 19289), (0x101802, 45825), (0x101803, 131073), (0x110001, 16), (0x110002, 2), (0x110003, 1000),
   (0x211001, 4096), (0x211002, 10), (0x219001, 8), (0x219002, 1), (0x219003, 32), (0x221005, 4294967295),
   (0x235002, 65535), (0x235003, 2), (0x241009, 1), (0x24100A, 4), (0x249003, 100), (0x251001, 1), (0x251003,
   50), (0x259004, 16), (0x259005, 1), (0x259007, 65535), (0x261003, 1), (0x279002, 24), (0x279003,
   1006632960), (0x279004, 897988541), (0x279005, 1), (0x281001, 16), (0x281002, 1050), (0x281003, 100),
   (0x281004, 105), (0x281005, 115), (0x288001, 20), (0x298001, 3), (0x298002, 500), (0x2A1001, 120),
   (0x2A1002, 5000), (0x2A1003, 5), (0x2A1004, 60), (0x2A1005, 1000), (0x2B1001, 255), (0x2B2001, 6),
   (0x2C1001, 1), (0x2C1002, 1), (0x2C9103, 255), (0x2E8004, 10), (0x300003, 2000)]

/-- Default of an object by key; the rows of ranges of indices stand for all their indices (R277, R301, R310). -/
def objDefault (key : Nat) : Nat :=
  let i := key / 256
  let j := key % 256
  if 0x4000 ≤ i then 0
  else if 0x2220 ≤ i ∧ i ≤ 0x223F then (if j = 10 then 8 else if j = 11 then 48 else 0)
  else if 0x2340 ≤ i ∧ i ≤ 0x234F then (if j = 2 ∨ j = 4 then 16 else if j = 8 then 1 else 0)
  else if i % 256 = 0 ∧ 0x2100 ≤ i ∧ i ≤ 0x2E00 then
    (if j = 3 then (if i = 0x2A00 ∨ i = 0x2B00 ∨ i = 0x2E00 then 3 else 2) else 0)
  else FMap.get 0 nonzeroDefaults key

end Sys2Proof.Machine
end

