-- ==== Sys2Proof/Machine/Operands.lean ====
section
/-! DEFINITION. The 128-byte work order (R284 to R290) as a number of 1,024 bits: every field by its byte and bit
place, the kind of a work order, the functions it uses and where PRE is permitted (R285, R406, R407). -/

namespace Sys2Proof.Machine

-- header, R284
def woOpcode (w : Nat) : Nat := fld w 0 0 8
def woPre (w : Nat) : Bool := bit w 8
def woCint (w : Nat) : Bool := bit w 9
def woInf (w : Nat) : Bool := bit w 10
def woBkind (w : Nat) : Nat := fld w 1 3 4
def woLcode (w : Nat) : Nat := fld w 2 0 3
def woShape (w : Nat) : Nat := fld w 2 3 3
def woClass (w : Nat) : Nat := fld w 2 6 2
def woBhub (w : Nat) : Nat := fld w 3 0 6
def woBcast (w : Nat) : Bool := bit w 30
def woTag (w : Nat) : Nat := fld w 4 0 32
def woMask (w : Nat) : Nat := fld w 8 0 64

-- DX, DW, dual draw, R287 (LAYER, WSLOT, EXPVER also of PRODUCT, R288)
def woLayer (w : Nat) : Nat := fld w 16 0 12
def woWslot (w : Nat) : Nat := fld w 16 12 1
def woExpver (w : Nat) : Nat := fld w 18 0 16
def woT (w : Nat) : Nat := fld w 20 0 32
def woI (w : Nat) : Nat := fld w 24 0 20
def woZcode (w : Nat) : Nat := fld w 24 24 3
def woShape2 (w : Nat) : Nat := fld w 24 27 3
def woOfmt (w : Nat) : Nat := fld w 24 30 2
def woO (w : Nat) : Nat := fld w 28 0 20
def woHcode (w : Nat) : Nat := fld w 28 20 3
def woClear (w : Nat) : Bool := bit w (8 * 28 + 23)
def woUsetie (w : Nat) : Bool := bit w (8 * 28 + 24)
def woTuse (w : Nat) : Nat := fld w 28 25 3
def woTarget (w : Nat) : Nat := fld w 32 0 12
def woTieGroup (w : Nat) : Nat := fld w 32 0 8
/-- QDY, QW, QX, QSW, QSX by position 0 to 4: present, and the QD number. -/
def woQd (w k : Nat) : Option Nat := if bit w (8 * (34 + 2 * k) + 15) then some (fld w (34 + 2 * k) 0 12) else none
def woShome (w : Nat) : Nat := fld w 44 0 6
def woDydesc (w : Nat) : Nat := fld w 48 0 52
def woWdesc (w : Nat) : Nat := fld w 56 0 52
def woXdesc (w : Nat) : Nat := fld w 64 0 52
def woDxbase (w : Nat) : Nat := fld w 72 0 52

-- BOIL kinds 0 to 8, R288
def woBOfmt (w : Nat) : Nat := fld w 24 24 2
def woLayerNorm (w : Nat) : Bool := bit w (8 * 24 + 26)
def woFn (w : Nat) : Nat := fld w 24 26 4
def woGated (w : Nat) : Bool := bit w (8 * 24 + 30)
def woTaps (w : Nat) : Nat := fld w 24 26 3 + 1
def woEps (w : Nat) : Nat := fld w 32 0 32
def woEntin (w : Nat) : Nat := fld w 36 0 16
def woEntout (w : Nat) : Nat := fld w 38 0 16
def woRelease (w : Nat) : Bool := bit w (8 * 40)
def woIfmt (w : Nat) : Nat := fld w 40 2 2
def woGfmt (w : Nat) : Nat := fld w 40 4 2
def woHomehub (w : Nat) : Nat := fld w 41 0 6
def woRegion (w : Nat) : Nat := fld w 42 0 12
/-- QDX (0) and QDW (1) of PRODUCT. -/
def woBqd (w k : Nat) : Option Nat := if bit w (8 * (44 + 2 * k) + 15) then some (fld w (44 + 2 * k) 0 12) else none
/-- A0 to A4. -/
def woA (w k : Nat) : Nat := fld w (48 + 8 * k) 0 52

-- ATTB and BOIL kinds 9 and 10, R289
def woPassid (w : Nat) : Nat := fld w 16 0 32
def woTq (w : Nat) : Nat := fld w 20 0 23
def woHd (w : Nat) : Nat := fld w 20 23 9
def woQpos (w : Nat) : Nat := fld w 24 0 32
def woSeqid (w : Nat) : Nat := fld w 28 0 16
def woPage0 (w : Nat) : Nat := fld w 30 0 16
def woC (w : Nat) : Nat := fld w 32 0 32
def woRotbase (w : Nat) : Nat := fld w 36 0 32
def woQbase (w : Nat) : Nat := fld w 40 0 52
def woRot (w : Nat) : Nat := fld w 40 52 2
def woGcode (w : Nat) : Nat := fld w 40 54 3
def woHkv (w : Nat) : Nat := fld w 40 57 7
def woPtbase (w : Nat) : Nat := fld w 48 0 52
def woAofmt (w : Nat) : Nat := fld w 48 56 2
def woCausal (w : Nat) : Bool := bit w (8 * 48 + 58)
def woDsshift (w : Nat) : Nat := fld w 48 59 5
def woSpbase (w : Nat) : Nat := fld w 56 0 52
def woRhome (w : Nat) : Nat := fld w 56 52 6
def woStatbase (w : Nat) : Nat := fld w 64 0 52
def woRingm1 (w : Nat) : Nat := fld w 64 52 8
/-- OBASE, DOBASE, DQBASE, DKBASE, DVBASE, RXBASE, STAGEBASE by position 0 to 6. -/
def woAttBase (w k : Nat) : Nat := fld w (72 + 8 * k) 0 52

-- the remaining opcodes, R290
def woQcalQd (w : Nat) : Nat := fld w 16 0 12
def woRoot (w : Nat) : Bool := bit w (8 * 16 + 15)
def woNewver (w : Nat) : Nat := fld w 18 0 16
def woStep (w : Nat) : Nat := fld w 20 0 32
def woGscale (w : Nat) : Nat := fld w 24 0 32
def woStagebase (w : Nat) : Nat := fld w 32 0 52
def woRingmask (w : Nat) : Nat := fld w 16 0 16
def woFregion (w : Nat) : Nat := fld w 18 0 12
def woFlush (w : Nat) : Bool := bit w (8 * 18 + 15)
def woVop (w : Nat) : Nat := fld w 16 0 2
def woVslot (w : Nat) : Nat := fld w 16 2 1
def woMknew (w : Nat) : Bool := bit w (8 * 16 + 3)
def woVlayer (w : Nat) : Nat := fld w 18 0 12
def woVver (w : Nat) : Nat := fld w 20 0 16
def woCount (w : Nat) : Nat := fld w 22 0 13
def woPubMask (w : Nat) : Nat := fld w 24 0 16
def woPubbase (w : Nat) : Nat := fld w 32 0 52
def woSetbase (w : Nat) : Nat := fld w 16 0 52

/-- The kind of a work order (R285, R139, R290): none where the opcode, BKIND or OP is reserved. -/
def kindOf (w : Nat) : Option Kind :=
  let op := woOpcode w
  if op = 0x10 then some .dx
  else if op = 0x11 then some .dw
  else if op = 0x12 then some .dual
  else if op = 0x20 then (if woBkind w ≤ 10 then some (.boil (woBkind w)) else none)
  else if op = 0x30 then some .attb
  else if op = 0x40 then some .qcal
  else if op = 0x50 then some .update
  else if op = 0x51 then some .precond
  else if op = 0x60 then some .fence
  else if op = 0x61 then
    (if woVop w = 0 then some .vset else if woVop w = 1 then some .vdrop else if woVop w = 2 then some .vpub else none)
  else if op = 0x70 then some .stream
  else none

/-- Product work orders: DX, DW, dual draw. -/
def Kind.isProduct : Kind → Bool
  | .dx | .dw | .dual => true
  | _ => false

/-- The work orders that name a Version-3 region for promotion (R285: function C). -/
def Kind.isHarrow : Kind → Bool
  | .update | .precond => true
  | _ => false

/-- Attention work orders. -/
def Kind.isAtt : Kind → Bool
  | .attb => true
  | .boil k => k = 9 || k = 10
  | _ => false

/-- Demand of a pan that runs work other than a product: attention works in arrays of shape 2, so does the precondition phase; Boiler
phases have 4 (R371). -/
def Order.boilDemand (o : Order) : Nat :=
  if o.kind.isAtt || (o.kind == .precond && o.stage = 3) then 16 else if o.kind == .stream then 0 else 4

/-- Functions that a work order uses (R285), bit n for function n. -/
def usesMask (k : Kind) (w : Nat) : Nat :=
  let q := if woClass w ≠ 0 then 2 ^ 6 else 0
  match k with
  | .dx => 2 ^ 1 + 2 ^ 3 + 2 ^ 13 + q
  | .dw | .dual => 2 ^ 1 + 2 ^ 3 + 2 ^ 12 + 2 ^ 13 + q
  | .boil b => 2 ^ 1 + 2 ^ 4 + 2 ^ 13 + (if b = 2 ∨ b = 8 then 2 ^ 12 else 0) + (if b = 9 ∨ b = 10 then 2 ^ 5 else 0)
  | .attb => 2 ^ 1 + 2 ^ 5 + 2 ^ 13
  | .qcal => 2 ^ 1 + 2 ^ 6 + 2 ^ 13
  | .update | .precond => 2 ^ 1 + 2 ^ 7 + 2 ^ 12 + 2 ^ 13
  | .fence => if woFlush w then 2 ^ 12 else 0
  | .vset | .vdrop | .vpub => 0
  | .stream => 2 ^ 1

/-- Whether a work order uses function n. -/
def Order.uses (o : Order) (n : Nat) : Bool := bit (usesMask o.kind o.raw) n

/-- Kinds on which PRE is permitted (R285). -/
def Kind.preOk : Kind → Bool
  | .dx | .dw | .dual | .qcal => true
  | .boil k => k ≤ 8
  | _ => false

/-- Kinds that occupy their hubs after admission (R285). -/
def Kind.occupies : Kind → Bool
  | .fence | .vset | .vdrop | .vpub => false
  | _ => true

/-- Kinds with fields SHAPE, CLASS, BHUB and BCAST (R406). -/
def Kind.shaped : Kind → Bool
  | .dx | .dw | .dual => true
  | .boil k => k = 0
  | _ => false

/-- The work order is admitted and has not ended. -/
def Order.live (o : Order) : Bool := o.phase == .admitted || o.phase == .preempted

/-- The work order has been admitted, whether or not it has ended. -/
def Order.started (o : Order) : Bool := match o.phase with
  | .waiting => false
  | _ => true

/-- A work order that has failed and is not recorded yet. -/
def Order.failed (o : Order) : Bool := match o.phase with
  | .ended st _ => st = 2
  | _ => false

/-- A work order that a fault, a failure or an abort has ended, and that is not recorded yet. -/
def Order.over (o : Order) : Bool := match o.phase with
  | .ended _ _ => true
  | _ => false

/-- The stream of a role is a moving operand that the broadcast source hub fetches and forwards (R11, R114). -/
def Order.forwards (o : Order) (role : Nat) : Bool :=
  o.kind.shaped && woBcast o.raw && (role = 1 || (role = 0 && o.kind == .dual))

/-- Hub h is in the work order's mask. -/
def Order.onHub (o : Order) (h : Nat) : Bool := bit (woMask o.raw) h

end Sys2Proof.Machine
end

