-- ==== Sys2Proof/Machine/Ops.lean ====
section
/-! DEFINITION. The named operations over the state that every family shares: objects and counters, package memory,
events, the fault log, faults and wedges of functions (R316, R392, R393, R396), work orders read and not completed. -/

namespace Sys2Proof.Machine

/-- Key of an object. -/
def okey (i j : Nat) : Nat := 256 * i + j

/-- Value of an object held as a number (R306). -/
def State.obj (s : State) (k : Nat) : Nat :=
  match FMap.get none s.objs k with
  | some v => v
  | none => objDefault k

/-- Replace an object's value. -/
def State.setObj (s : State) (k v : Nat) : State :=
  { s with objs := FMap.put none s.objs k (if v = objDefault k then none else some v) }

/-- A saturating counter of w bits (R398 and the chapters' tables). -/
def State.bump (s : State) (w k n : Nat) : State := if n = 0 then s else s.setObj k (satAdd w (s.obj k) n)
def State.bump32 (s : State) (k : Nat) : State := s.bump 32 k 1
def State.bump64 (s : State) (k : Nat) : State := s.bump 64 k 1

-- package memory
/-- One byte of package memory (log entry 2: a byte that nothing has written reads 0). -/
def State.rd8 (s : State) (a : Nat) : Byte := FMap.get 0 s.mem a

/-- n bytes from an address. -/
def readBytes (m : List Host.Cell) (a : Nat) : Nat → List Byte
  | 0 => []
  | n + 1 => FMap.get 0 m a :: readBytes m (a + 1) n

/-- Store bytes from an address on. -/
def writeBytes : List Host.Cell → Nat → List Byte → List Host.Cell
  | m, _, [] => m
  | m, a, b :: t => writeBytes (FMap.put 0 m a b) (a + 1) t

def State.rdBytes (s : State) (a n : Nat) : List Byte := readBytes s.mem a n
/-- A little-endian number of n bytes (R4). -/
def State.rdN (s : State) (a n : Nat) : Nat := leNat (readBytes s.mem a n)
def State.wrBytes (s : State) (a : Nat) (l : List Byte) : State := { s with mem := writeBytes s.mem a l }
def State.wrN (s : State) (a n v : Nat) : State := s.wrBytes a (leBytes n v)

-- events and the trace
def State.emit (s : State) (o : Out) : State := { s with out := o :: s.out }
def State.event (s : State) (code : Nat) : State := s.emit (.event code)

/-- An event raised only if a condition holds. -/
def State.eventIf (s : State) (b : Bool) (code : Nat) : State := if b then s.event code else s

-- functions
/-- Key of object sub of the record of function n (R310). -/
def fnKey (n sub : Nat) : Nat := okey (0x2000 + 0x100 * n) sub

def State.fn (s : State) (n : Nat) : FnRec := FMap.get ({} : FnRec) s.fns n
def State.setFn (s : State) (n : Nat) (r : FnRec) : State := { s with fns := FMap.put {} s.fns n r }
def State.running (s : State) (n : Nat) : Bool := (s.fn n).state == .running

/-- Permanent functions A, B and E (R319). -/
def isPermanent (n : Nat) : Bool := n = 10 || n = 11 || n = 14

def FnState.code : FnState → Nat
  | .off => 0 | .starting => 1 | .ready => 2 | .running => 3 | .stopping => 4 | .faulted => 5 | .wedged => 6

/-- Enter a state: Transitions and the time of entry are kept (R310); a permanent function is never moved by a
command or a fault (R319). -/
def State.enterFn (s : State) (n : Nat) (st tgt : FnState) (code : Nat) : State :=
  let r := s.fn n
  (s.setFn n { r with state := st, target := tgt, fcode := code, entered := s.timeUs }).bump32 (fnKey n 5)

/-- A fault while a snapshot is in progress sets DISTURBED (R354). -/
def State.disturb (s : State) : State :=
  if s.cfg.snap.state = 1 ∨ s.cfg.snap.state = 2 then
    { s with cfg := { s.cfg with snap := { s.cfg.snap with disturbed := true } } }
  else s

/-- An entry of the fault log: the last 32, newest first (R396). -/
def State.logFault (s : State) (e : LogEnt) : State :=
  ({ s with flt := { s.flt with log := (e :: s.flt.log).take 32 } }).bump32 (okey 0x2E20 1)

/-- Where a log entry points (R396). -/
structure Loc where
  kind : Nat := 0
  num : Nat := 0
  addr : Nat := 0
  slot : Nat := 0
  ring : Nat := 0xFF
deriving DecidableEq, Repr

def mkLog (s : State) (n code kind : Nat) (l : Loc) : LogEnt :=
  { code := code, kind := kind, fstate := (s.fn n).state.code, loc := pack 12 4 l.kind + pack 0 12 l.num,
    time := s.timeUs, addr := l.addr, slot := l.slot, ring := l.ring }

/-- A parity error repaired (R396, KIND 3). -/
def State.logRepair (s : State) (code : Nat) (l : Loc) : State :=
  ((s.event code).disturb).logFault (mkLog s (code / 256) code 3 l)

-- work orders
def Order.is (o : Order) (r slot : Nat) : Bool := o.ring = r && o.slot = slot

/-- The work order read and not completed in a slot of a ring. -/
def State.order? (s : State) (r slot : Nat) : Option Order := s.seq.orders.find? (fun o => o.is r slot)
def State.setOrders (s : State) (l : List Order) : State := { s with seq := { s.seq with orders := l } }
def State.updOrder (s : State) (r slot : Nat) (f : Order → Order) : State :=
  s.setOrders (mapIf (fun o => o.is r slot) f s.seq.orders)

/-- Set bits of the work order's EVENTS (R297). -/
def State.orderEvent (s : State) (r slot b : Nat) : State := s.updOrder r slot (fun o => { o with events := setBit o.events b true })

/-- A fault or failure ends an admitted work order; its record follows with WORK_ORDER_COMPLETE. -/
def Order.fail (o : Order) (code : Nat) : Order := if o.live then { o with phase := .ended 2 code } else o

/-- Every admitted work order that satisfies p fails with the code. -/
def State.failOrders (s : State) (p : Order → Bool) (code : Nat) : State :=
  s.setOrders (s.seq.orders.map (fun o => if p o then o.fail code else o))

-- pans
def State.pan (s : State) (p : Nat) : Pan := FMap.get {} s.pans p
def State.setPan (s : State) (p : Nat) (x : Pan) : State := { s with pans := FMap.put {} s.pans p x }

/-- A stream's buffers come to hub h: its own, and every hub of the mask for a broadcast source (R11). -/
def State.reaches (s : State) (y : Stream) (h : Nat) : Bool :=
  y.launder / 4 = h || (s.order? y.ring y.slot).any (fun o => o.forwards y.role && o.onHub h)

/-- A stream of the pan's work order that comes to its hub is held. -/
def State.heldFor (s : State) (p : Nat) (x : Pan) : Bool :=
  s.strm.streams.any (fun y => y.held && x.job = some (y.ring, y.slot) && s.reaches y (p / 64))

/-- A pan begins a resume (R88): its cause is spent, and level 2 is what it asks for (R376). -/
def Pan.resuming (x : Pan) : Pan := { x with state := .resuming, stopCause := 0, demand := 2 }

/-- A pan whose streams are no longer Held goes on: with its resume, which a request meanwhile has ended (R90, R252), to
its boundary if a stop waits, or with its beats (R246). -/
def Pan.unheld (x : Pan) : Pan :=
  if x.state == .held then
    { x with resumeHeld := false
             state := if x.resumeHeld then (if x.stopCause = 0 then .resuming else .stopped)
                      else if x.stopCause = 0 then .running else .stopping }
  else x

/-- A page fault holds a pan (R91, R245, R252): Running, Stopping or Resuming, it becomes Held and remembers which. -/
def Pan.hold (x : Pan) : Pan :=
  if x.state == .running || x.state == .stopping then { x with state := .held }
  else if x.state == .resuming then { x with state := .held, resumeHeld := true }
  else x

/-- A pan that has a work order's beats to give. -/
def Pan.active (x : Pan) : Bool := x.state == .running || x.state == .held || x.state == .resuming

/-- A stop request reaches a pan (R81, R91): Running goes to Stopping; a Held pan keeps Held and remembers the
cause; a Resuming pan abandons the resume and keeps its crust (R90); a Stopping pan keeps the first cause; a request to
a pan that is Idle or Stopped has no effect. -/
def Pan.request (x : Pan) (cause : Nat) : Pan :=
  match x.state with
  | .running => { x with state := .stopping, stopCause := cause }
  | .held => if x.stopCause = 0 then { x with stopCause := cause } else x
  | .resuming => { x with state := .stopped, stopCause := cause }
  | _ => x

/-- Stop requests to every pan that satisfies p (only pans that hold something can be running). -/
def State.stopPans (s : State) (p : Nat → Pan → Bool) (cause : Nat) : State :=
  { s with pans := (s.pans.map (fun e => if p e.1 e.2 then (e.1, e.2.request cause) else e)) }

/-- Stop causes of R85. -/
def causePre : Nat := 1
def causeFault : Nat := 2
def causeEmergency : Nat := 3
def causeTest : Nat := 4

/-- The work order of a pan uses function n. -/
def State.jobUses (s : State) (x : Pan) (n : Nat) : Bool := match x.job with
  | none => false
  | some (r, slot) => (s.order? r slot).any (fun o => o.uses n)

/-- A fault of a function (R316, R392). Its code is kept in 2n00/04 and the log whatever the state. -/
def State.fault (s : State) (n code : Nat) (l : Loc) : State :=
  let r := s.fn n
  let moves := !(isPermanent n) && !(r.state == .off || r.state == .faulted || r.state == .wedged)
  let s := s.disturb.setObj (fnKey n 4) code
  let s := if moves then
      ((s.eventIf (r.pend ≠ 0) (0x100 * n + 0xF2)).setFn n { r with pend := 0 }).enterFn n .faulted .faulted code
    else s
  let s := s.logFault (mkLog s n code 1 l)
  let s := if moves then s.failOrders (fun o => o.uses n) code else s
  -- fault stop of the pans of the work orders that fail (R81), of all pans for function 8 (R377)
  if moves then s.stopPans (fun _ x => x.active && (n = 8 || s.jobUses x n)) causeFault else s

/-- A wedge of a function (R316, R393): every admitted work order fails and the pans are stopped. -/
def State.wedge (s : State) (n code : Nat) (l : Loc) : State :=
  let r := s.fn n
  let s := s.disturb.setObj (fnKey n 4) code
  let s := if r.state == .off || r.state == .wedged then s
    else (s.setFn n { r with pend := 0 }).enterFn n .wedged .wedged code
  let s := s.logFault (mkLog s n code 2 l)
  if r.state == .off then s
  else (s.failOrders (fun _ => true) code).stopPans (fun _ x => x.active) causeFault

/-- Some function is Wedged (R393). -/
def State.anyWedged (s : State) : Bool := s.fns.any (fun e => e.2.state == .wedged)

/-- The Causeway could not be brought up, or has failed: the east half can be neither driven nor read (R10, R366, R369). -/
def State.eastGone (s : State) : Bool := (s.fn 9).state == .wedged || (s.fn 9).persists = 0x09F0
/-- A half can be driven and read. -/
def State.halfReach (s : State) (half : Nat) : Bool := decide (half = 0) || !s.eastGone
/-- Failures of the word in flight on a link (numbered by linkNo), 0 to 3; 4 once the third replay has failed (R386). -/
def State.linkFails (s : State) (k : Nat) : Nat := FMap.get 0 s.link.links k
def State.linkDead (s : State) (k : Nat) : Bool := s.linkFails k = 4
/-- State of a half's port block can be reached from the dictionary: the half and its control link answer (R10, R393). -/
def State.portReach (s : State) (half : Nat) : Bool := s.halfReach half && !(s.linkDead (5400 + half))

/-- An armed injection waits for the next word written to a store (R398). -/
def State.injected (s : State) (store tgt : Nat) : Bool :=
  s.obj (okey 0x2E80 3) = 1 && s.obj (okey 0x2E80 1) = store && s.obj (okey 0x2E80 2) = tgt
def State.disarm (s : State) : State := s.setObj (okey 0x2E80 3) 0

-- rings
def State.ring (s : State) (r : Nat) : Ring := FMap.get {} s.seq.rings r
def State.setRing (s : State) (r : Nat) (x : Ring) : State := { s with seq := { s.seq with rings := FMap.put {} s.seq.rings r x } }
def ringKey (r sub : Nat) : Nat := okey (0x2340 + r) sub

/-- The 32-bit difference of two free-running counts (R279). -/
def diff32 (a b : Nat) : Nat := (a + 2 ^ 32 - b % 2 ^ 32) % 2 ^ 32
def inc32 (a : Nat) : Nat := (a + 1) % 2 ^ 32

-- hubs
def State.hub (s : State) (h : Nat) : Hub := FMap.get {} s.hubs h
def State.setHub (s : State) (h : Nat) (x : Hub) : State := { s with hubs := FMap.put {} s.hubs h x }

/-- Hubs of a mask in ascending order. -/
def hubsOf (mask : Nat) : List Nat := (List.range 64).filter (fun h => bit mask h)
/-- Pans of a mask, numbered as in R95: ascending pan number over the hubs of the mask. -/
def pansOf (mask : Nat) : Nat := 64 * (hubsOf mask).length
/-- The u-th pan of a mask. -/
def panAt (mask u : Nat) : Nat := 64 * (hubsOf mask).getD (u / 64) 0 + u % 64

/-- The next draw of an open value. -/
def State.draw (s : State) : State := { s with draws := s.draws + 1 }

end Sys2Proof.Machine
end

