-- ==== Sys2Proof/Machine/Flags.lean ====
section
/-! DEFINITION. The words and lines that are computed from the rest of the state: state words of functions (R311),
the error register (R320), the interrupt lines (R265, R299, R397), the snapshot word (R355) and EVENTS bits (R297). -/

namespace Sys2Proof.Machine

/-- State word 2n00/02 (R311). -/
def State.stateWord (s : State) (n : Nat) : Nat :=
  let r := s.fn n
  let fc := if r.state == .faulted || r.state == .wedged then r.fcode else 0
  pack 16 16 fc + pack 12 4 r.pend + pack 9 3 r.target.code + pack 8 1 (b2n (isPermanent n)) + pack 0 3 r.state.code

/-- 1F10/0F: bit n set when function n is not Running (R321). -/
def State.notRunning (s : State) : Nat :=
  ((List.range 15).filter (fun n => n ≠ 0 && !(s.running n))).foldl (fun a n => a + 2 ^ n) 0

def State.isFaulted (s : State) (n : Nat) : Bool := (s.fn n).state == .faulted
def State.isWedged (s : State) (n : Nat) : Bool := (s.fn n).state == .wedged
def State.bad (s : State) (n : Nat) : Bool := s.isFaulted n || s.isWedged n

/-- Error register 1001/00 (R320). -/
def State.errorRegister (s : State) : Nat :=
  let fns := (List.range 15).drop 1
  b2n (fns.any s.bad) + pack 1 1 (b2n (s.isFaulted 8)) + pack 4 1 (b2n (s.bad 9 || s.bad 10)) +
    pack 7 1 (b2n (fns.any s.isWedged))

/-- Unacknowledged entries of KIND 1 or 2 (R397, 2E20/04). -/
def State.unacked (s : State) : Nat := (s.flt.log.filter (fun e => (e.kind = 1 || e.kind = 2) && !e.acked)).length

/-- ERR_INT (R299, R397). -/
def State.errInt (s : State) : Bool := s.unacked ≠ 0

/-- CPL_INT (R299). -/
def State.cplInt (s : State) : Bool := (s.obj (okey 0x2350 1) &&& s.obj (okey 0x2350 2)) ≠ 0

/-- DMA_INT (R265): a pending bit of an enabled channel. -/
def State.dmaInt (s : State) : Bool :=
  ((s.obj (okey 0x2210 2) ||| s.obj (okey 0x2210 3) ||| s.obj (okey 0x2210 4)) &&& s.obj (okey 0x2210 5)) ≠ 0

/-- CI_LOST (R378, R380): a west hub is in autonomous mode, or the GPE is held after phase 1. -/
def State.ciLost (s : State) : Bool := s.ctl.heldAfterPhase1 || s.hubs.any (fun e => e.1 < 32 && e.2.autonomous)

/-- Snapshot state word 3000/02 (R355). -/
def State.snapWord (s : State) : Nat :=
  pack 8 1 (b2n s.cfg.snap.expired) + pack 7 1 (b2n s.cfg.snap.disturbed) + pack 0 2 s.cfg.snap.state

-- EVENTS bits, R297
def evLapse : Nat := 0
def evDeep : Nat := 1
def evNonfinite : Nat := 2
def evSaturated : Nat := 3
def evRewet : Nat := 4
def evSkipped : Nat := 5
def evDs : Nat := 6
def evWalk : Nat := 7
def evFrozen : Nat := 8
def evFellBack : Nat := 9
def evZeroTrace : Nat := 10
def evHeld : Nat := 11
def evPreempted : Nat := 12
def evRewetSet : Nat := 13
def evFlat : Nat := 14

/-- The snapshot is Live: rings are read, work is admitted, requests are issued (R353). -/
def State.live (s : State) : Bool := s.cfg.snap.state = 0

/-- The control island runs (R394). -/
def State.awake (s : State) : Bool := !s.ctl.halted && !s.ctl.heldAfterPhase1

end Sys2Proof.Machine
end

