-- ==== Sys2Proof/Config.lean ====
section
/-! DEFINITION. What an implementation fixes, and the free values: constants without a body, of which no proof can
see a value. A statement that meets one holds whatever it is. -/

namespace Sys2Proof.Config

/-- Values of the transcendental lanes at an FP32 operand, inside their domains (R143). -/
opaque expVal : Nat → BitVec 32
opaque logVal : Nat → BitVec 32
opaque tanhVal : Nat → BitVec 32
opaque sigmaVal : Nat → BitVec 32
opaque erfVal : Nat → BitVec 32
opaque sinVal : Nat → BitVec 32
opaque cosVal : Nat → BitVec 32

/-- Which of the values within 1 ulp the 1/sqrt lane gives at an operand (R143). -/
opaque rsqrtPick : Nat → Fin 3

/-- The angle of R165 for rotary base, head dimension, pair index and position: an FP32 code whose binary64
operation order the spec does not give. -/
opaque angle : Nat → Nat → Nat → Nat → BitVec 32

/-- The challenge of the n-th draw from the hardware random source (R334). -/
opaque challenge : Nat → BitVec 256

/-- Bytes left by a flash erase or program that power loss cut short: draw and offset (R349). -/
opaque tornByte : Nat → Nat → BitVec 8

/-- Bytes that a matrix UPDATE leaves in its staging area: draw and offset (R203). -/
opaque stageByte : Nat → Nat → BitVec 8

/-- Shape of the products of the precondition phase (R216, R218), which the spec does not give (R406 reserves SHAPE). -/
opaque precondShape : Fin 5

/-- Values the spec states no result for: a tag of the place in the model and the operands (log entry 20). -/
opaque unstated : Nat → List Nat → Nat

/-- The serial number of 1018/04 (R320). -/
opaque serial : BitVec 32

/-- The sequencer code's version string of 100A/00, 16 bytes (R320). -/
opaque softwareVersion : Fin 16 → BitVec 8

/-- The Custodian key provisioned when the package is made (R337): its length less 16 and its bytes. -/
opaque custodianKeyLen : Fin 49
opaque custodianKeyByte : Fin 64 → BitVec 8

/-- Whether the Weir raises before it lowers where both are due in a half (R373 names no order), by draw. -/
opaque raiseFirst : Nat → Bool

end Sys2Proof.Config
end

