-- ==== Sys2Proof/Machine/Num.lean ====
section
/-! DEFINITION. Formats of R27, the rounding rn of R40, exact arithmetic on decoded values, output conversion of
R56 and R57, and the lanes of R143. Every value between a decode and a rounding is exact. -/

namespace Sys2Proof.Machine

/-- A binary format: exponent bits, mantissa bits, bias, and whether the top exponent holds infinity and NaN
(E4M3 keeps only S.1111.111 for NaN, R27). -/
structure Fmt where
  eb : Nat
  mb : Nat
  bias : Nat
  ieee : Bool
deriving DecidableEq, Repr

def Fmt.e4m3 : Fmt := ⟨4, 3, 7, false⟩
def Fmt.e5m2 : Fmt := ⟨5, 2, 15, true⟩
def Fmt.bf16 : Fmt := ⟨8, 7, 127, true⟩
def Fmt.f32 : Fmt := ⟨8, 23, 127, true⟩
def Fmt.b64 : Fmt := ⟨11, 52, 1023, true⟩

/-- Exponent of the least subnormal bit. -/
def Fmt.qmin (f : Fmt) : Int := 1 - (f.bias : Int) - f.mb

/-- The canonical quiet NaN (R57). -/
def Fmt.nanCode (f : Fmt) : Nat :=
  if f.ieee then (2 ^ f.eb - 1) <<< f.mb ||| (1 <<< (f.mb - 1)) else 2 ^ (f.eb + f.mb) - 1

/-- E5M2's canonical NaN is 0x7F, all mantissa bits set (R57). -/
def Fmt.nan (f : Fmt) : Nat := if f.eb = 5 then 0x7F else f.nanCode

/-- The infinity of a sign. -/
def Fmt.infCode (f : Fmt) (neg : Bool) : Nat := pack (f.eb + f.mb) 1 (b2n neg) + (2 ^ f.eb - 1) <<< f.mb

/-- The largest finite magnitude of a sign. -/
def Fmt.maxCode (f : Fmt) (neg : Bool) : Nat :=
  pack (f.eb + f.mb) 1 (b2n neg) + (if f.ieee then (2 ^ f.eb - 1) <<< f.mb - 1 else 2 ^ (f.eb + f.mb) - 2)

/-- The value a code stands for (R27, R28). -/
def Fmt.decode (f : Fmt) (c : Nat) : Val :=
  let neg := bit c (f.eb + f.mb)
  let ex := bits c f.mb f.eb
  let ma := bits c 0 f.mb
  if f.ieee && ex = 2 ^ f.eb - 1 then (if ma = 0 then .inf neg else .nan)
  else if !f.ieee && ex = 2 ^ f.eb - 1 && ma = 2 ^ f.mb - 1 then .nan
  else if ex = 0 then .fin neg ma f.qmin
  else .fin neg (2 ^ f.mb + ma) (f.qmin + (ex : Int) - 1)

/-- m * 2^e brought to a multiple of 2^q, ties away from zero (R40), or truncated. -/
def quant (trunc : Bool) (m : Nat) (e q : Int) : Nat :=
  if q ≤ e then m <<< (e - q).toNat
  else
    let sh := (q - e).toNat
    if trunc then m >>> sh else (m + 2 ^ (sh - 1)) >>> sh

/-- The code of (-1)^neg * m * 2^e rounded to the format, and whether the rounded magnitude lies beyond the
largest finite value. -/
def Fmt.code (f : Fmt) (trunc : Bool) (neg : Bool) (m : Nat) (e : Int) : Nat × Bool :=
  let s := pack (f.eb + f.mb) 1 (b2n neg)
  if m = 0 then (s, false)
  else
    let q := max (e + (m.log2 : Int) - f.mb) f.qmin
    let r := quant trunc m e q
    let (r, q) := if r = 2 ^ (f.mb + 1) then (2 ^ f.mb, q + 1) else (r, q)
    let field := if r < 2 ^ f.mb then 0 else (q - f.qmin + 1).toNat
    let mag := field <<< f.mb + r % 2 ^ f.mb
    let top := if f.ieee then (2 ^ f.eb - 1) <<< f.mb else 2 ^ (f.eb + f.mb) - 1
    if mag < top then (s + mag, false) else (f.infCode neg, true)

/-- rn to a format (R40): overflow gives infinity, a NaN the canonical one. E4M3 and E5M2 outputs go through
`convert`, which saturates. -/
def Fmt.rn (f : Fmt) : Val → Nat
  | .nan => f.nan
  | .inf neg => f.infCode neg
  | .fin neg m e => (f.code false neg m e).1

def Val.zero : Val := .fin false 0 0
def Val.ofNat (n : Nat) : Val := .fin false n 0
def Val.ofInt (i : Int) : Val := .fin (i < 0) i.natAbs 0

/-- Sign change. -/
def Val.neg : Val → Val
  | .nan => .nan
  | .inf n => .inf !n
  | .fin n m e => .fin (!n) m e

def Val.abs : Val → Val
  | .nan => .nan
  | .inf _ => .inf false
  | .fin _ m e => .fin false m e

def Val.isZero : Val → Bool
  | .fin _ m _ => m = 0
  | _ => false

def Val.finite : Val → Bool
  | .fin _ _ _ => true
  | _ => false

def Val.isNan : Val → Bool
  | .nan => true
  | _ => false

def Val.sign : Val → Bool
  | .nan => false
  | .inf n => n
  | .fin n _ _ => n

/-- The integer multiple of 2^q that a finite value is, for q at most its exponent. -/
def Val.scaled (neg : Bool) (m : Nat) (e q : Int) : Int :=
  let k : Nat := m <<< (e - q).toNat
  if neg then -(k : Int) else k

/-- Exact sum (R40: an exact zero of operands of opposite sign is +0). -/
def Val.add : Val → Val → Val
  | .nan, _ => .nan
  | _, .nan => .nan
  | .inf a, .inf b => if a = b then .inf a else .nan
  | .inf a, _ => .inf a
  | _, .inf b => .inf b
  | .fin a m e, .fin b n f =>
    if m = 0 ∧ n = 0 then .fin (a && b) 0 0
    else
      let q := min e f
      let t := Val.scaled a m e q + Val.scaled b n f q
      .fin (t < 0) t.natAbs q

def Val.sub (x y : Val) : Val := Val.add x (Val.neg y)

/-- Exact product. -/
def Val.mul : Val → Val → Val
  | .nan, _ => .nan
  | _, .nan => .nan
  | .inf a, .inf b => .inf (a != b)
  | .inf a, .fin b n _ => if n = 0 then .nan else .inf (a != b)
  | .fin a m _, .inf b => if m = 0 then .nan else .inf (a != b)
  | .fin a m e, .fin b n f => .fin (a != b) (m * n) (e + f)

/-- Quotient to more than 120 significant bits below its leading bit, truncated: with ties rounded away, the
rounding of the truncated quotient is the rounding of the exact one. Division by zero gives infinity. -/
def Val.div : Val → Val → Val
  | .nan, _ => .nan
  | _, .nan => .nan
  | .inf _, .inf _ => .nan
  | .inf a, .fin b _ _ => .inf (a != b)
  | .fin a _ _, .inf b => .fin (a != b) 0 0
  | .fin a m e, .fin b n f =>
    if n = 0 then (if m = 0 then .nan else .inf (a != b))
    else
      let k := 130 + n.log2
      .fin (a != b) ((m <<< k) / n) (e - f - k)

/-- x < y on values; false when either is a NaN. -/
def Val.lt : Val → Val → Bool
  | .nan, _ => false
  | _, .nan => false
  | .inf a, .inf b => a && !b
  | .inf a, .fin _ _ _ => a
  | .fin _ _ _, .inf b => !b
  | .fin a m e, .fin b n f =>
    let q := min e f
    decide (Val.scaled a m e q < Val.scaled b n f q)

def Val.eq (x y : Val) : Bool := !(Val.lt x y) && !(Val.lt y x) && !x.isNan && !y.isNan

/-- 2^k. -/
def Val.pow2 (k : Int) : Val := .fin false 1 k

/-- Integer square root. -/
def isqrtAux : Nat → Nat → Nat → Nat
  | 0, _, r => r
  | k + 1, n, r => isqrtAux k n (if (r + 2 ^ k) * (r + 2 ^ k) ≤ n then r + 2 ^ k else r)
def isqrt (n : Nat) : Nat := isqrtAux (n.log2 / 2 + 1) n 0

/-- floor (2^k / sqrt x) as a value times 2^-k, for finite x > 0; with whether it is exact. -/
def rsqrtVal (m : Nat) (e : Int) : Val × Bool :=
  let k : Int := 200 + (m.log2 : Int) / 2 + (if 0 ≤ e then e / 2 else 0)
  let sh := 2 * k - e
  let num := 1 <<< sh.toNat
  let r := isqrt (num / m)
  (.fin false r (-k), r * r * m = num)

-- FP32 and binary64 operations on codes, each rounding once (R40)
def dec32 (c : Nat) : Val := Fmt.f32.decode c
def dec64 (c : Nat) : Val := Fmt.b64.decode c
def rn32 (v : Val) : Nat := Fmt.f32.rn v
def rn64 (v : Val) : Nat := Fmt.b64.rn v
def f32add (a b : Nat) : Nat := rn32 (Val.add (dec32 a) (dec32 b))
def f32sub (a b : Nat) : Nat := rn32 (Val.sub (dec32 a) (dec32 b))
def f32mul (a b : Nat) : Nat := rn32 (Val.mul (dec32 a) (dec32 b))
def f32div (a b : Nat) : Nat := rn32 (Val.div (dec32 a) (dec32 b))
def f32fma (a b c : Nat) : Nat := rn32 (Val.add (Val.mul (dec32 a) (dec32 b)) (dec32 c))
def f32lt (a b : Nat) : Bool := Val.lt (dec32 a) (dec32 b)
def f32neg (a : Nat) : Nat := rn32 (Val.neg (dec32 a))
def f32ofNat (n : Nat) : Nat := rn32 (Val.ofNat n)
def f64add (a b : Nat) : Nat := rn64 (Val.add (dec64 a) (dec64 b))
def f64sub (a b : Nat) : Nat := rn64 (Val.sub (dec64 a) (dec64 b))
def f64mul (a b : Nat) : Nat := rn64 (Val.mul (dec64 a) (dec64 b))
def f64div (a b : Nat) : Nat := rn64 (Val.div (dec64 a) (dec64 b))
def f32max (a b : Nat) : Nat := if f32lt a b then b else a
def f32one : Nat := 0x3F800000
def f32inf : Nat := 0x7F800000
def f32ninf : Nat := 0xFF800000
def f32nan : Nat := 0x7FC00000
def b64nan : Nat := 0x7FF8000000000000

/-- 1/sqrt(x) of R143: within 1 ulp, +infinity at +0, NaN below zero. At -0, of which the table says nothing, it is +infinity
too (DESIGN CHOICE, log entry 17). -/
def f32rsqrt (c : Nat) : Nat :=
  match dec32 c with
  | .nan => f32nan
  | .inf true => f32nan
  | .inf false => 0
  | .fin neg m e =>
    if m = 0 then f32inf
    else if neg then f32nan
    else
      let (v, exact) := rsqrtVal m e
      let t := match v with
        | .fin _ r q => (Fmt.f32.code true false r q).1
        | _ => 0
      let pick := (Config.rsqrtPick c).val
      if pick = 1 then t + 1 else if pick = 2 && exact then t - 1 else t

/-- Correctly rounded 1/x (R143). -/
def f32recip (c : Nat) : Nat :=
  match dec32 c with
  | .fin neg m _ => if m = 0 then Fmt.f32.infCode neg else f32div f32one c
  | _ => f32div f32one c

/-- Output formats of OFMT (R287): 0 E5M2, 1 E4M3, 2 BF16, 3 FP32. -/
def ofmt (n : Nat) : Fmt :=
  match n with
  | 0 => .e5m2
  | 1 => .e4m3
  | 2 => .bf16
  | _ => .f32

/-- Bytes of an element of OFMT. -/
def ofmtSize (n : Nat) : Nat :=
  match n with
  | 0 => 1
  | 1 => 1
  | 2 => 2
  | _ => 4

/-- Output conversion of R56, R57: the code written and the subindex of 2311 it counts in (0: none). `inf` is the
infinity option. -/
def convert (n : Nat) (inf : Bool) (v : Val) : Nat × Nat :=
  let f := ofmt n
  let excess (neg : Bool) : Nat × Nat :=
    match n with
    | 0 => if inf then (f.infCode neg, 3) else (f.maxCode neg, 2)
    | 1 => (f.maxCode neg, 1)
    | _ => (f.infCode neg, 3)
  match v with
  | .nan => (f.nan, 4)
  | .inf neg => excess neg
  | .fin neg m e => let (c, o) := f.code false neg m e; if o then excess neg else (c, 0)

/-- Saturating conversion without counting: QCAL elements (R189), P' and coded queries (R163, R165). -/
def convertSat (n : Nat) (v : Val) : Nat := (convert n false v).1

/-- Element formats by name, with their decoding; the codes are those of FORMAT in R182, then BF16 (6), FP32 (7). -/
def elemVal (fmt c : Nat) : Val :=
  match fmt with
  | 0 => Fmt.e4m3.decode c
  | 1 => Fmt.e5m2.decode c
  | 2 => Val.ofInt (toSigned 8 c)
  | 3 => Fmt.e4m3.decode c
  | 4 => Fmt.e5m2.decode c
  | 5 => Val.mul (Val.ofInt (toSigned 8 c)) (Val.pow2 (-6))
  | 6 => Fmt.bf16.decode c
  | _ => Fmt.f32.decode c

/-- Bytes of an element. -/
def elemSize (fmt : Nat) : Nat := if fmt = 6 then 2 else if fmt = 7 then 4 else 1

/-- rn to an integer. -/
def Val.toInt : Val → Int
  | .fin neg m e => let k : Nat := quant false m e 0; if neg then -(k : Int) else k
  | _ => 0

end Sys2Proof.Machine
end

