-- ==== Sys2Proof/Machine/Ports.lean ====
section
/-! DEFINITION. Requests at the hub ports (R240), translation (R243), and the write streams: output of launder 3 and window
slices, with their holds (R247). -/

namespace Sys2Proof.Machine

def State.setStrm (s : State) (x : Strm) : State := { s with strm := x }

-- DMA channels, as the ports and launders see them
def State.chan (s : State) (c : Nat) : Chan := FMap.get {} s.chans c
def State.setChan (s : State) (c : Nat) (x : Chan) : State := { s with chans := FMap.put {} s.chans c x }
def chKey (c sub : Nat) : Nat := okey (0x2220 + c) sub
def chHub (c : Nat) : Nat := 2 * c
def chHalf (c : Nat) : Nat := c / 16
/-- Ring numbers that mark the buffers and requests of channels, and the requests of window slices; `slot` is then the
descriptor's serial number, and the region. -/
def dmaRing : Nat := 255
def winRing : Nat := 254

-- translation, R243
def pageOf (a : Nat) : Nat := a / 65536
def TlbEnt.covers (e : TlbEnt) (half page : Nat) : Bool :=
  e.half = half && (if e.large then e.page / 32 = page / 32 else e.page = page)
def State.tlbHit (s : State) (half page : Nat) : Option TlbEnt := s.strm.tlb.find? (fun e => e.covers half page)
def Req.half (q : Req) : Nat := if q.hub < 32 then 0 else 1
def Req.pages (q : Req) : List Nat :=
  let a := pageOf q.addr
  let b := pageOf (q.addr + q.len - 1)
  if a = b then [a] else [a, b]
def State.mapped (s : State) (q : Req) : Bool := q.pages.all (fun p => (s.tlbHit q.half p).isSome)
/-- A write request lacks write permission (R247). -/
def State.noWrite (s : State) (q : Req) : Bool :=
  q.write && q.pages.any (fun p => (s.tlbHit q.half p).any (fun e => !e.write))

/-- A translation miss: one request to the fabric per page outstanding (R243). -/
def State.miss (s : State) (half page : Nat) : State :=
  if s.strm.misses.any (fun m => m.1 = half && m.2 = page) then s
  else ((s.setStrm { s.strm with misses := s.strm.misses ++ [(half, page)] }).emit (.translate half page)).bump64 (okey 0x2111 10)

/-- The translations that a request lacks are asked for. -/
def State.missFor (s : State) (q : Req) : State :=
  q.pages.foldl (fun s p => if (s.tlbHit q.half p).isSome then s else s.miss q.half p) s

/-- What translation says of a request now: it waits for a page, or lacks permission. -/
def State.judged (s : State) (q : Req) : Req :=
  { q with xheld := !(s.mapped q), stuck := if s.noWrite q then 2 else if s.mapped q then 0 else q.stuck }

-- write streams, R247
/-- The next write of a hub's write stream: the output of launder 3, or the window slice. -/
def State.nextWrite (s : State) (h : Nat) (w : Requester) : Option Req :=
  s.strm.reqs.find? (fun q => q.write && q.hub = h && q.who == w)

/-- The page at which a write cannot go on. -/
def State.badPage (s : State) (q : Req) : Nat :=
  (q.pages.find? (fun p => match s.tlbHit q.half p with
    | some e => !e.write
    | none => true)).getD 0

/-- A write stream is held at a request (R247). The records of both write streams of a hub are those of launder 3. -/
def State.holdWrite (s : State) (q : Req) : State :=
  let rec_ : FaultRec := { faddr := max q.addr (65536 * s.badPage q), cause := q.stuck, write := true, ring := q.ring, slot := q.slot, since := s.timeUs }
  let l := 4 * q.hub + 3
  let recs := if (FMap.get none s.strm.faultRecs l).isSome then s.strm.faultRecs else FMap.put none s.strm.faultRecs l (some rec_)
  let s := s.setStrm { s.strm with reqs := mapIf (fun r => r = q) (fun r => { r with told := true }) s.strm.reqs, faultRecs := recs }
  ((s.event 0x0111).bump32 (okey 0x2111 4)).orderEvent q.ring q.slot evHeld

/-- A hub's write streams that have come to a request that cannot be made are held there. -/
def State.judgeWrites (s : State) (h : Nat) : State :=
  [Requester.output, Requester.window].foldl (fun s w => match s.nextWrite h w with
    | some q => if q.stuck ≠ 0 && !q.told then s.holdWrite q else s
    | none => s) s

/-- A request becomes ready at its hub's port, or waits for its translation. -/
def State.enqueue (s : State) (q : Req) : State :=
  let s := s.missFor q
  (s.setStrm { s.strm with reqs := s.strm.reqs ++ [s.judged q] }).judgeWrites q.hub

/-- The 256-byte pieces of a run (R240). -/
def pieces (a : Nat) : Nat → Nat → List (Nat × Nat)
  | 0, _ => []
  | fuel + 1, n => if n = 0 then [] else (a, min n 256) :: pieces (a + min n 256) fuel (n - min n 256)

/-- Write requests of a write stream for the bytes from an address on. -/
def State.writeRun (s : State) (h : Nat) (who : Requester) (ring slot buf a : Nat) (l : List Byte) : State :=
  (pieces a l.length l.length).foldl (fun s p =>
    s.enqueue { hub := h, write := true, who := who, addr := p.1, len := p.2, data := (l.drop (p.1 - a)).take p.2, buf := buf,
                ring := ring, slot := slot }) s

/-- Writes of window slices to a region that have not arrived, in their order. -/
def State.winWrites (s : State) (n : Nat) : List Req :=
  (s.strm.tags.map Tag.req ++ s.strm.reqs).filter (fun q => q.write && q.ring = winRing && q.slot = n)

/-- Writes of window slices are on their way. -/
def State.winBusy (s : State) : Bool := (s.strm.tags.map Tag.req ++ s.strm.reqs).any (fun q => q.write && q.ring = winRing)

/-- Package memory as a load of a region's groups finds it: the load waits for the write-backs under way (R249), which no
value shows (R104). -/
def State.settled (s : State) (n : Nat) : List Host.Cell := (s.winWrites n).foldl (fun m q => writeBytes m q.addr q.data) s.mem

/-- The write-backs of a region under way are overtaken by its clear (R106). -/
def State.dropWin (s : State) (n : Nat) : State :=
  let mine (q : Req) : Bool := q.write && q.ring = winRing && q.slot = n
  s.setStrm { s.strm with reqs := s.strm.reqs.filter (fun q => !(mine q)),
                          tags := s.strm.tags.map (fun t => if mine t.req then { t with req := { t.req with data := [] } } else t) }

end Sys2Proof.Machine
end

