-- ==== Sys2Proof/Machine/Cache.lean ====
section
/-! DEFINITION. The Stockpile and KV window (R19, R20, R23): entry records as bits (R127), the copies that the Stockpile parts hold
(R126), and the key/value pages and blocks that the KV parts hold (R170). -/

namespace Sys2Proof.Machine

def enSegment (e : Nat) : Nat := bits e 0 8
def enBlock (e : Nat) : Nat := bits e 8 6
def enWidth (e : Nat) : Nat := bits e 14 18
def enTokens (e : Nat) : Nat := bits e 32 32
def enMbatch (e : Nat) : Nat := bits e 64 32
def enAddr (e : Nat) : Nat := bits e 108 52
def enSize (e : Nat) : Nat := bits e 160 32
def enRecipe (e : Nat) : Nat := bits e 192 12
def enLocal (e : Nat) : Bool := bit e 207
def enFormat (e : Nat) : Nat := bits e 208 2
def enOnchip (e : Nat) : Bool := bit e 210
def enState (e : Nat) : Nat := bits e 211 3
def enChain (e : Nat) : Nat := bits e 214 4
def enAnchor (e : Nat) : Nat := bits e 218 6
def enPins (e : Nat) : Nat := bits e 224 16
def enFver (e : Nat) : Nat := bits e 240 16

/-- Replace a field of a packed number. -/
def putField (x lo w v : Nat) : Nat := x - pack lo w (bits x lo w) + pack lo w v

def enSetState (e st : Nat) : Nat := putField e 211 3 st
def enSetAddr (e a : Nat) : Nat := putField e 108 52 a
def enSetOnchip (e : Nat) (b : Bool) : Nat := setBit e 210 b
def enSetPins (e n : Nat) : Nat := putField e 224 16 n
def enSetDrop (e anchor chain : Nat) : Nat := enSetOnchip (enSetState (putField (putField e 218 6 anchor) 214 4 chain) 5) false

-- states, R128
def enFree : Nat := 0
def enArriving : Nat := 1
def enHeld : Nat := 2
def enSpilling : Nat := 3
def enFar : Nat := 4
def enDropped : Nat := 5
def enRegen : Nat := 6
def retained (e : Nat) : Bool := enState e = 2 || enState e = 3 || enState e = 4 || enState e = 6

def State.entryRec (s : State) (n : Nat) : Nat := FMap.get 0 s.stock.ents n
def State.setStock (s : State) (x : Stock) : State := { s with stock := x }

/-- The GPE writes an entry record; the entry table in memory follows (R127). A copy goes with ONCHIP. -/
def State.setEntry (s : State) (n e : Nat) : State :=
  let copies := if enOnchip e then s.stock.copies else FMap.drop s.stock.copies n
  let s := s.setStock { s.stock with ents := FMap.put 0 s.stock.ents n e, copies := copies }
  if s.obj (okey 0x2410 8) = 0 then s else s.wrN (s.obj (okey 0x2410 8) + 32 * n) 32 e

-- the Stockpile parts, R20, R23, R126
/-- Units of 64 KiB of a block input of n units that lie in a half: it is striped in units, from the west half on (R23). -/
def stripe (n half : Nat) : Nat := (n + 1 - half) / 2
/-- Units of a half's Stockpile part, and bytes of its KV part (R20). -/
def State.partUnits (s : State) : Nat := 128 * s.obj (okey 0x2B20 1)
def State.kvBytes (s : State) : Nat := 65536 * (1024 - s.partUnits)
/-- Units of a half that copies of entries with p take. -/
def State.copyUnits (s : State) (half : Nat) (p : Nat → Bool) : Nat :=
  ((s.stock.ents.filter (fun e => enOnchip e.2 && p e.2)).map (fun e => stripe (enSize e.2) half)).sum
/-- n units more fit into both Stockpile parts beside the copies of entries with p. -/
def State.copyFits (s : State) (n : Nat) (p : Nat → Bool) : Bool :=
  [0, 1].all (fun half => decide (s.copyUnits half p + stripe n half ≤ s.partUnits))
/-- Bytes of cached copies (2412/01). -/
def State.onchipBytes (s : State) : Nat := ((s.stock.ents.filter (fun e => enOnchip e.2)).map (fun e => enSize e.2)).sum * 65536

/-- The entry whose copy serves a read of n bytes at a (R126). -/
def State.copyOf (s : State) (a n : Nat) : Option Nat :=
  (s.stock.copies.find? (fun c =>
    let e := s.entryRec c.1
    enOnchip e && decide (2 ≤ enState e) && decide (enAddr e ≤ a) && decide (a + n ≤ enAddr e + c.2.data.length))).map Prod.fst

/-- An error in a cached copy is repaired by refetch from the near copy, when the copy is read (R384, R389). -/
def State.mendCopy (s : State) (k : Nat) : State :=
  let c := FMap.get {} s.stock.copies k
  let a := enAddr (s.entryRec k)
  if c.bad then
    (((s.bump64 (okey 0x2E10 7)).bump64 (okey 0x2E10 2)).logRepair 0x0E13 { kind := 2, num := s.obj (okey 0x2E80 2), addr := a }).setStock
      { s.stock with copies := FMap.put {} s.stock.copies k { data := s.rdBytes a c.data.length } }
  else s

/-- Bytes of a copy, by package address. -/
def State.copyBytes (s : State) (k a n : Nat) : List Byte := ((FMap.get {} s.stock.copies k).data.drop (a - enAddr (s.entryRec k))).take n

/-- The state as the readers of an entry see memory: where the entry has a copy, its bytes are the copy's (R126). -/
def State.viewEntry (s : State) (k : Nat) : State :=
  if k < 16384 then s.wrBytes (enAddr (s.entryRec k)) (FMap.get {} s.stock.copies k).data else s

/-- The copy of an accepted arrival is on chip; an armed injection inverts the parity of a word of it (R398). -/
def State.keepCopy (s : State) (k : Nat) (data : List Byte) : State :=
  if !(enOnchip (s.entryRec k)) then s
  else
    let half := s.obj (okey 0x2E80 2) / 32
    let bad := s.injected 4 (s.obj (okey 0x2E80 2)) && decide (0 < stripe (enSize (s.entryRec k)) half)
    let s := if bad then s.disarm else s
    s.setStock { s.stock with copies := FMap.put {} s.stock.copies k { data := data, bad := bad } }

-- the KV parts, R20, R23, R170
/-- Bytes of a half's KV part in use. -/
def State.kvUsed (s : State) (half : Nat) : Nat := ((s.att.pages.filter (fun x => x.half = half)).map (fun x => x.data.length)).sum
def State.setPages (s : State) (l : List KvPage) : State := { s with att := { s.att with pages := l } }

/-- Make room for n bytes in a half's KV part; the page cached longest ago goes first (DESIGN CHOICE, log entry 32). `fuel`
bounds the pages dropped. -/
def State.kvRoom (s : State) (half n : Nat) : Nat → State
  | 0 => s
  | fuel + 1 =>
    if s.kvUsed half + n ≤ s.kvBytes then s
    else match s.att.pages.reverse.find? (fun x => x.half = half) with
      | none => s
      | some x => (s.setPages (s.att.pages.filter (fun y => y ≠ x))).kvRoom half n fuel

/-- Cache the bytes at an address in a half's KV part, when they fit (R170). -/
def State.kvKeep (s : State) (half a : Nat) (data : List Byte) : State :=
  if s.kvBytes < data.length then s
  else
    let s := s.setPages (s.att.pages.filter (fun x => !(x.half = half && x.addr = a)))
    let s := s.kvRoom half data.length (s.att.pages.length + 1)
    let bad := s.injected 4 (s.obj (okey 0x2E80 2)) && s.obj (okey 0x2E80 2) / 32 = half
    let s := if bad then s.disarm else s
    s.setPages ({ half := half, addr := a, data := data, bad := bad } :: s.att.pages)

/-- The bytes at an address as a half reads them: from its KV part, after repair from where they were cached from (R389), or from
memory, and then they are cached. -/
def State.kvRead (s : State) (half a n : Nat) : State × List Byte :=
  match s.att.pages.find? (fun x => x.half = half && x.addr = a && x.data.length = n) with
  | none => let l := s.rdBytes a n; (s.kvKeep half a l, l)
  | some x =>
    if x.bad then
      let l := s.rdBytes a n
      (((((s.bump64 (okey 0x2E10 7)).bump64 (okey 0x2E10 2)).logRepair 0x0E13 { kind := 2, num := s.obj (okey 0x2E80 2), addr := a }).setPages
        (mapIf (fun y => y = x) (fun y => { y with data := l, bad := false }) s.att.pages)), l)
    else (s, x.data)

/-- What was cached from an address is held no longer. -/
def State.kvDrop (s : State) (a : Nat) : State := s.setPages (s.att.pages.filter (fun x => x.addr ≠ a))

/-- A change of the split discards every cached copy and page of both halves (R20). -/
def State.dropCaches (s : State) : State :=
  (s.stock.ents.foldl (fun s e => if enOnchip e.2 then s.setEntry e.1 (enSetOnchip e.2 false) else s) s).setPages []

end Sys2Proof.Machine
end

