-- ==== Sys2Proof/Machine/Windrow.lean ====
section
/-! DEFINITION. The Windrow: regions and their descriptors (R100, R101), window slices (R103 to R106), masks (R108),
tie groups (R110), promotion of chunk values into groups (R41, R44 to R50, R52) and poison (R390). -/

namespace Sys2Proof.Machine

/-- Clear a range of package memory to zero bytes: unlisted bytes read 0. -/
def clearRange (m : List Host.Cell) (a n : Nat) : List Host.Cell := m.filter (fun c => c.1 < a || a + n ≤ c.1)

-- region descriptors, R100
def rgHibase (d : Nat) : Nat := bits d 0 52
def rgLobase (d : Nat) : Nat := bits d 64 52
def rgGwbase (d : Nat) : Nat := bits d 128 52
def rgRows (d : Nat) : Nat := bits d 192 20
def rgCols (d : Nat) : Nat := bits d 212 20
def rgTie (d : Nat) : Nat := bits d 232 8
def rgTied (d : Nat) : Bool := bit d 240
def rgFbit (d : Nat) : Bool := bit d 241
def rgScale (d : Nat) : Bool := bit d 242
def rgValid (d : Nat) : Bool := bit d 243
def rgMaskbase (d : Nat) : Nat := bits d 256 52
def rgMaskkind (d : Nat) : Nat := bits d 308 2
/-- Tile columns and groups of a region (R101). -/
def rgTileCols (d : Nat) : Nat := cdiv (rgCols d) 16
def rgGroups (d : Nat) : Nat := cdiv (rgRows d) 16 * rgTileCols d

/-- Number of descriptors in use, 2C20/02. -/
def State.regionCount (s : State) : Nat := s.obj (okey 0x2C20 2)

/-- The descriptor of a region as it stands in memory (R100). -/
def State.regionDesc (s : State) (n : Nat) : Nat := s.rdN (s.obj (okey 0x2C20 1) + 64 * n) 64

def State.region (s : State) (n : Nat) : Region := FMap.get {} s.win.regions n
def State.setRegion (s : State) (n : Nat) (x : Region) : State :=
  { s with win := { s.win with regions := FMap.put {} s.win.regions n x } }

/-- The GPE reads a descriptor: 2C91/02 keeps it; a descriptor at or beyond the count is never read (R101). -/
def State.readRegion (s : State) (n : Nat) : State :=
  if n < s.regionCount then s.setRegion n { s.region n with desc := s.regionDesc n } else s

/-- The refusals of R101 that do not depend on a product. -/
def State.regionBad (s : State) (n : Nat) : Bool :=
  let d := s.regionDesc n
  decide (s.regionCount ≤ n) || !(rgValid d) || rgRows d = 0 || rgCols d = 0 || rgMaskkind d = 3 || rgGroups d > 2 ^ 20

/-- Global group number (R102). -/
def groupKey (n g : Nat) : Nat := n * 2 ^ 20 + g

-- frames
def State.frame? (s : State) (k : Nat) : Option Frame := (s.win.frames.find? (fun e => e.1 = k)).map Prod.snd
def State.setFrames (s : State) (f : FMap Frame) : State := { s with win := { s.win with frames := f } }
def State.putFrame (s : State) (k : Nat) (f : Frame) : State := s.setFrames (FMap.put {} s.win.frames k f)
def State.dropFrame (s : State) (k : Nat) : State := s.setFrames (FMap.drop s.win.frames k)

-- group word, R45
def gwCount (g : Nat) : Nat := bits g 0 32
def gwPrescale (g : Nat) : Nat := bits g 32 20
def gwLapse (g : Nat) : Bool := bit g 52
def gwBittern (g : Nat) : Bool := bit g 53
def gwDeep (g : Nat) : Bool := bit g 54
def gwNonfin (g : Nat) : Bool := bit g 55
def gwMake (nonfin deep bittern lapse : Bool) (prescale count : Nat) : Nat :=
  pack 55 1 (b2n nonfin) + pack 54 1 (b2n deep) + pack 53 1 (b2n bittern) + pack 52 1 (b2n lapse) +
    pack 32 20 prescale + pack 0 32 count

/-- Frames a resident group occupies (R103). -/
def Frame.size (f : Frame) : Nat := if gwBittern f.gw then 2 else 1
/-- Occupied frames of a slice, and of all slices (2C21/04). -/
def State.sliceUsed (s : State) (h : Nat) : Nat := (s.win.frames.map (fun e => if e.2.hub = h then e.2.size else 0)).sum
def State.framesUsed (s : State) : Nat := (s.win.frames.map (fun e => e.2.size)).sum

/-- The 2 KiB of 256 words of 8 bytes. -/
def wordBytes (w : FMap Nat) : List Byte := (List.range 256).flatMap (fun i => leBytes 8 (FMap.get 0 w i))

/-- Read 256 words of 8 bytes. -/
def readWords (m : List Host.Cell) (a : Nat) : FMap Nat :=
  (List.range 256).foldl (fun w i => FMap.put 0 w i (leNat (readBytes m (a + 8 * i) 8))) []

/-- Write a resident group's hi words, group word and, in bittern mode, lo words to near memory (R53, R104), through the hub's
write port (R240). -/
def State.storeGroup (s : State) (k : Nat) (f : Frame) : State :=
  let n := k / 2 ^ 20
  let d := s.regionDesc n
  let g := k % 2 ^ 20
  let put (s : State) (a : Nat) (l : List Byte) : State := s.writeRun f.hub .window winRing n 0 a l
  let s := put s (rgHibase d + 2048 * g) (wordBytes f.hi)
  let s := if gwBittern f.gw then put s (rgLobase d + 2048 * g) (wordBytes f.lo) else s
  (put s (rgGwbase d + 8 * g) (leBytes 8 f.gw)).bump64 (okey 0x2C21 2)

/-- Write back every resident group that satisfies p and holds no parity error, keeping it resident or not. -/
def State.writeBackGood (s : State) (p : Nat → Bool) (keep : Bool) : State :=
  s.win.frames.foldl (fun s e =>
    if p e.1 && !e.2.bad then (let s := s.storeGroup e.1 e.2; if keep then s else s.dropFrame e.1) else s) s

/-- A region becomes poisoned: its resident groups are freed without write-back (R390). -/
def State.poison (s : State) (n : Nat) : State :=
  (s.setFrames (s.win.frames.filter (fun e => e.1 / 2 ^ 20 ≠ n))).setRegion n { s.region n with poisoned := true }

/-- A parity error met in group k of a hub's window (R390): its region is poisoned and function C becomes Faulted. The other
regions are written back when C leaves Faulted (R317). -/
def State.windrowError (s : State) (k hub : Nat) : State :=
  ((s.bump32 (okey 0x2E10 8)).poison (k / 2 ^ 20)).fault 12 0x0C40 { kind := 2, num := hub }

/-- Write a group back and free its frames; its words are read, so a parity error is met (R384). -/
def State.evict (s : State) (k : Nat) : State :=
  match s.frame? k with
  | none => s
  | some f => if f.bad then s.windrowError k f.hub else (s.storeGroup k f).dropFrame k

/-- The resident groups that satisfy p and hold a parity error. -/
def State.badGroups (s : State) (p : Nat → Bool) : FMap Frame := s.win.frames.filter (fun e => p e.1 && e.2.bad)

/-- The parity errors of the groups that satisfy p are met. -/
def State.meetErrors (s : State) (p : Nat → Bool) : State := (s.badGroups p).foldl (fun s e => s.windrowError e.1 e.2.hub) s

/-- Write back every resident group that satisfies p, keeping it resident or not (R105, R317); a parity error ends it. -/
def State.writeBackAll (s : State) (p : Nat → Bool) (keep : Bool) : State :=
  if (s.badGroups p).isEmpty then s.writeBackGood p keep else s.meetErrors p

/-- Function C has met a parity error and fallen (R390). -/
def State.windrowDown (s : State) : Bool := (s.fn 12).state == .faulted

/-- Flush of a region (R105). -/
def State.flushRegion (s : State) (n : Nat) : State := s.writeBackAll (fun k => k / 2 ^ 20 = n) true

/-- The group of a slice whose last promotion lies furthest in the past, other than `not`. -/
def State.oldest (s : State) (h not : Nat) : Option Nat :=
  (s.win.frames.foldl (fun (a : Option (Nat × Nat)) e =>
    if e.2.hub = h && e.1 ≠ not then
      (match a with
       | none => some (e.1, e.2.stamp)
       | some b => if e.2.stamp < b.2 then some (e.1, e.2.stamp) else a)
    else a) none).map Prod.fst

/-- Free frames until `need` more fit into a slice of 4,064 (R103); `fuel` bounds the evictions. -/
def State.makeFrames (s : State) (h not need : Nat) : Nat → State
  | 0 => s
  | fuel + 1 =>
    if s.sliceUsed h + need ≤ 4064 then s
    else match s.oldest h not with
      | none => s
      | some k => (s.evict k).makeFrames h not need fuel

/-- Load a group into the slice of a hub, making room first (R103). -/
def State.loadFresh (s : State) (h k : Nat) : State :=
  let d := s.regionDesc (k / 2 ^ 20)
  let g := k % 2 ^ 20
  let m := s.settled (k / 2 ^ 20)
  let gw := leNat (readBytes m (rgGwbase d + 8 * g) 8)
  let f : Frame := { hub := h, hi := readWords m (rgHibase d + 2048 * g), gw := gw, stamp := s.win.stamp + 1,
                     lo := if gwBittern gw then readWords m (rgLobase d + 2048 * g) else [] }
  let s := s.makeFrames h k f.size 4064
  if s.windrowDown then s
  else (({ s with win := { s.win with stamp := s.win.stamp + 1 } }).putFrame k f).bump64 (okey 0x2C21 1)

/-- Make a group resident in the slice of a hub (R103, R104). -/
def State.loadGroup (s : State) (h k : Nat) : State :=
  match s.frame? k with
  | some f => if f.hub = h then s else (s.evict k).loadFresh h k
  | none => s.loadFresh h k

/-- Count one promotion event in a group word (R48, R50, R52): the new word and whether LAPSE, BITTERN and DEEP were
set by it. -/
def countEvent (gw : Nat) (forced enable : Bool) : Nat × Bool × Bool × Bool :=
  let bittern (nf dp lp : Bool) (pre cnt : Nat) : Nat × Bool :=
    if cnt = 2 ^ 32 - 1 ∧ pre = 2 ^ 20 - 1 then (gwMake nf true true lp pre cnt, !dp)
    else if pre = 2 ^ 20 - 1 then (gwMake nf dp true lp 0 (cnt + 1), false)
    else (gwMake nf dp true lp (pre + 1) cnt, false)
  let nf := gwNonfin gw
  let cnt := gwCount gw
  if gwBittern gw then
    let (g, d) := bittern nf (gwDeep gw) (gwLapse gw) (gwPrescale gw) cnt
    (g, false, false, d)
  else if forced && cnt = 0 && !gwLapse gw then
    (gwMake nf false true false 1 0, false, true, false)
  else if cnt = 2 ^ 29 then
    if enable then (gwMake nf false true true 1 0, !gwLapse gw, true, false)
    else (gwMake nf false false true 0 (cnt + 1), !gwLapse gw, false, false)
  else (gwMake nf false false (gwLapse gw) 0 (min (cnt + 1) (2 ^ 32 - 1)), false, false, false)

/-- Plain promotion into binary64 (R41, R33). -/
def promote64 (t : Nat) (v : Val) : Nat :=
  match v with
  | .nan => b64nan
  | v => rn64 (Val.add (dec64 t) v)

/-- Bittern promotion (R49, R33). -/
def promoteBittern (hi lo : Nat) (v : Val) : Nat × Nat :=
  match v with
  | .nan => (b64nan, 0)
  | v =>
    let H := dec64 hi
    let L := dec64 lo
    let vh := dec64 (rn64 v)
    let vl := dec64 (rn64 (Val.sub v vh))
    let sum := Val.add H vh
    let sc := dec64 (rn64 sum)
    let e := Val.sub sum sc
    let t := dec64 (rn64 (Val.add (Val.add L e) vl))
    let nh := rn64 (Val.add sc t)
    if H.finite && vh.finite && sc.finite && (dec64 nh).finite then
      (nh, rn64 (Val.sub (Val.add sc t) (dec64 nh)))
    else (rn64 (Val.add (Val.add H L) v), 0)

/-- Promote one element of a frame. -/
def Frame.promote (f : Frame) (x : Nat × Val) : Frame :=
  let hi := FMap.get 0 f.hi x.1
  if gwBittern f.gw then
    let r := promoteBittern hi (FMap.get 0 f.lo x.1) x.2
    { f with hi := FMap.put 0 f.hi x.1 r.1, lo := FMap.put 0 f.lo x.1 r.2 }
  else { f with hi := FMap.put 0 f.hi x.1 (promote64 hi x.2) }

/-- Value a reader receives (R53). -/
def Frame.read (f : Frame) (i : Nat) : Nat :=
  let hi := FMap.get 0 f.hi i
  if gwBittern f.gw then rn64 (Val.add (dec64 hi) (dec64 (FMap.get 0 f.lo i))) else hi

/-- Counters, events and EVENTS bits of a promotion event (R33, R48 to R50, R52, R58, R297). -/
def State.countPromotion (s : State) (r slot : Nat) (lapse bit deep : Bool) (nf : Nat) : State :=
  let ev := s.obj (okey 0x2C10 2) = 1
  let s := s.bump 32 (okey 0x2C11 1) (b2n lapse)
  let s := s.bump 32 (okey 0x2C11 2) (b2n bit)
  let s := s.bump 32 (okey 0x2C11 3) (b2n deep)
  let s := s.bump 64 (okey 0x2C11 4) nf
  let s := if lapse then (s.eventIf ev 0x0C10).orderEvent r slot evLapse else s
  let s := if deep then (s.eventIf ev 0x0C11).orderEvent r slot evDeep else s
  if nf ≠ 0 then ((List.range nf).foldl (fun s _ => s.event 0x0C12) s).orderEvent r slot evNonfinite else s

/-- Write a group's words after a promotion event; an armed injection inverts the parity of one (R398). -/
def State.putPromoted (s : State) (hub key : Nat) (f : Frame) (vals : List (Nat × Val)) : State :=
  let inj := s.injected 3 hub
  let f1 := vals.foldl Frame.promote { f with stamp := s.win.stamp + 1, bad := inj }
  let s := if inj then s.disarm else s
  ({ s with win := { s.win with stamp := s.win.stamp + 1 } }).putFrame key f1

/-- Apply one promotion event to a group at its home hub for the work order in a slot of a ring (R44, R48 to R50,
R52, R33). An event that reaches no element is not counted (R98, R109). -/
def State.promoteEvent (s : State) (r slot hub key : Nat) (vals : List (Nat × Val)) : State :=
  if vals.isEmpty then s
  else
    let s := s.loadGroup hub key
    match s.frame? key with
    | none => s
    | some f =>
      if f.bad then s.windrowError key f.hub
      else
        let forced := rgFbit (s.regionDesc (key / 2 ^ 20)) || s.obj (okey 0x2C90 1) = 1
        let c := countEvent f.gw forced (s.obj (okey 0x2C10 1) = 1)
        let s := if c.2.2.1 && !gwBittern f.gw then s.makeFrames hub key 1 4064 else s
        if s.windrowDown then s
        else
          let nf := (vals.filter (fun x => x.2.isNan)).length
          let gw := if nf ≠ 0 then setBit c.1 55 true else c.1
          (s.putPromoted hub key { f with gw := gw } vals).countPromotion r slot c.2.1 c.2.2.1 c.2.2.2 nf

/-- Clear every group of a region (R46, R106), by clear flag or by the Harrow; the owner and the poison go with the
clear (R107, R390). -/
def State.clearRegion (s : State) (n : Nat) : State :=
  let d := s.regionDesc n
  let g := rgGroups d
  let s := s.dropWin n
  let m := clearRange (clearRange (clearRange s.mem (rgHibase d) (2048 * g)) (rgLobase d) (2048 * g)) (rgGwbase d) (8 * g)
  let frames := s.win.frames.map (fun e => if e.1 / 2 ^ 20 = n then (e.1, { e.2 with hi := [], lo := [], gw := 0, bad := false }) else e)
  ((({ s with mem := m }).setFrames frames).setRegion n { s.region n with owner := none, poisoned := false }).bump64 (okey 0x2C21 3)

/-- 2E40/01: poisoned regions. -/
def State.poisonedCount (s : State) : Nat := (s.win.regions.filter (fun e => e.2.poisoned)).length

/-- A group as a reader finds it: resident copy, else near memory (R53, R105). -/
def State.groupNow (s : State) (k : Nat) : Frame :=
  match s.frame? k with
  | some f => f
  | none =>
    let d := s.regionDesc (k / 2 ^ 20)
    let g := k % 2 ^ 20
    let m := s.settled (k / 2 ^ 20)
    let gw := leNat (readBytes m (rgGwbase d + 8 * g) 8)
    { hub := 0, hi := readWords m (rgHibase d + 2048 * g), gw := gw, stamp := 1,
      lo := if gwBittern gw then readWords m (rgLobase d + 2048 * g) else [] }

/-- Group and place within it of region element (i, j) (R101). -/
def rgElem (d i j : Nat) : Nat × Nat := (i / 16 * rgTileCols d + j / 16, 16 * (i % 16) + j % 16)

-- masks, R108
/-- Bytes of a region's mask. -/
def rgMaskBytes (d : Nat) : Nat := if rgMaskkind d = 1 then cdiv (rgRows d) 8 else if rgMaskkind d = 2 then cdiv (rgGroups d) 8 else 0
def State.readMask (s : State) (d : Nat) : List Byte := s.rdBytes (rgMaskbase d) (rgMaskBytes d)

/-- Region element (i, j) is trained under a mask as read. -/
def trained (m : List Byte) (d i j : Nat) : Bool :=
  let k := rgMaskkind d
  if k = 1 then bit (m.getD (i / 8) 0).toNat (i % 8)
  else if k = 2 then let g := (rgElem d i j).1; bit (m.getD (g / 8) 0).toNat (g % 8)
  else true

-- tie groups, R110
def State.tieEntry (s : State) (t : Nat) : Nat := s.rdN (s.obj (okey 0x2C20 3) + 64 * t) 64
def tieRegion (e : Nat) : Nat := bits e 0 12
def tieValid (e : Nat) : Bool := bit e 15
def tieUse (e k : Nat) : Nat := fld e (8 + 6 * k) 0 48
def useRow (u : Nat) : Nat := bits u 0 16
def useCol (u : Nat) : Nat := bits u 16 16
def useTurn (u : Nat) : Bool := bit u 32
def useValid (u : Nat) : Bool := bit u 33

/-- The region that a DW or dual draw promotes into, with the offsets of its use in tiles and whether it turns
(R111); none where the tie group or the use is not valid. -/
structure Target where
  region : Nat
  row : Nat := 0
  col : Nat := 0
  turn : Bool := false
deriving DecidableEq, Repr

def State.target? (s : State) (w : Nat) : Option Target :=
  if woUsetie w then
    let e := s.tieEntry (woTieGroup w)
    let u := tieUse e (woTuse w)
    if tieValid e && useValid u then some ⟨tieRegion e, useRow u, useCol u, useTurn u⟩ else none
  else some ⟨woTarget w, 0, 0, false⟩

/-- Region element that product element (i, o) promotes into (R111). -/
def Target.elem (t : Target) (i o : Nat) : Nat × Nat :=
  if t.turn then (16 * t.row + o, 16 * t.col + i) else (16 * t.row + i, 16 * t.col + o)

/-- The mapped product extent lies within the region (R101, R111). -/
def Target.fits (t : Target) (d i o : Nat) : Bool :=
  let (a, b) := if t.turn then (o, i) else (i, o)
  decide (16 * t.row + a ≤ rgRows d ∧ 16 * t.col + b ≤ rgCols d)

end Sys2Proof.Machine
end

