-- ==== Sys2Proof/Machine/Streams.lean ====
section
/-! DEFINITION. Streams and launders: the launder set (R226, R232, R233), stream descriptors and their runs (R236 to
R239), buffer places and credit (R229, R230), requests and tags (R240, R241), translation (R243 to R247), watch
windows (R249) and epochs (R250). -/

namespace Sys2Proof.Machine

-- launder entries, R232
/-- The reset entry of launder k of a hub. -/
def resetEntry (k : Nat) : Nat :=
  let waits := if k = 0 then 14 else if k = 1 then 13 else if k = 2 then 11 else 0
  let io := if k = 3 then 1 else 0
  let buf := if k = 2 then 8 else if k = 3 then 16 else 24
  pack 40 4 waits + pack 38 2 io + pack 36 2 io + pack 27 7 buf + pack 16 11 buf + pack 0 7 64

def State.entry (s : State) (l : Nat) : Nat := (FMap.get none s.strm.lset l).getD (resetEntry (l % 4))
def leDmach (e : Nat) : Nat := bits e 47 5
def leWaits (e : Nat) : Nat := bits e 40 4
def leCons (e : Nat) : Nat := bits e 38 2
def leProd (e : Nat) : Nat := bits e 36 2
def leBufmax (e : Nat) : Nat := bits e 27 7
def leRes (e : Nat) : Nat := bits e 16 11
def leDepth (e : Nat) : Nat := bits e 0 7

/-- An entry as it is loaded: reserved bits read as zero (R5). -/
def leClean (e : Nat) : Nat :=
  pack 47 5 (leDmach e) + pack 40 4 (leWaits e) + pack 38 2 (leCons e) + pack 36 2 (leProd e) + pack 27 7 (leBufmax e) +
    pack 16 11 (leRes e) + pack 0 7 (leDepth e)

/-- Permitted pairs of producer and consumer (R226). -/
def pairOk (e : Nat) : Bool :=
  let p := leProd e
  let c := leCons e
  (p = 0 && c = 0) || (p = 1 && c = 1) || (p = 2 && (c = 2 || c = 3))

/-- The first reason of R233 that an array of entries breaks for a hub; 0 when it is accepted. `fwd j` says that
launder j of the hub receives forwarded buffers (R11). -/
def setReason (e : Nat → Nat) (fwd : Nat → Bool) : Nat :=
  let ks := List.range 4
  if (ks.map (fun k => leRes (e k))).sum > 1536 then 1
  else if ks.any (fun k => ks.any (fun j => bit (leWaits (e k)) j && leRes (e j) < leBufmax (e j))) then 2
  else if ks.any (fun k => leDepth (e k) < 2 || leDepth (e k) > 64 || leBufmax (e k) < 1 || leBufmax (e k) > 64) then 3
  else if ks.any (fun k => !(pairOk (e k))) then 4
  else if ks.any (fun k => fwd k && leRes (e k) < leBufmax (e k)) then 5
  else 0

-- stream descriptors, R236
def sdBase (d : Nat) : Nat := fld d 0 0 52
def sdLrows (d : Nat) : Nat := fld d 8 0 20
def sdLcols (d : Nat) : Nat := fld d 12 0 20
def sdNdim (d : Nat) : Nat := fld d 16 0 3
def sdTiled (d : Nat) : Bool := bit d 131
def sdEsize (d : Nat) : Nat := 2 ^ fld d 16 4 2
def sdPrio (d : Nat) : Nat := fld d 16 6 2
def sdLaunder (d : Nat) : Nat := fld d 16 8 2
def sdGate (d : Nat) : Nat := fld d 16 10 3
def sdEpoch (d : Nat) : Bool := bit d 141
def sdBufu (d : Nat) : Nat := fld d 18 0 7
def sdFirstu (d : Nat) : Nat := fld d 19 0 7
def sdShift (d : Nat) : Int := toSigned 4 (fld d 20 0 4)
def sdEpaddr (d : Nat) : Nat := fld d 24 0 52
def sdSeglo (d : Nat) : Nat := fld d 32 0 32
def sdSeghi (d : Nat) : Nat := let x := fld d 36 0 32; if x = 2 ^ 32 - 1 then sdLrows d else x
def sdTrow0 (d : Nat) : Nat := fld d 40 0 32
def sdTcol0 (d : Nat) : Nat := fld d 44 0 32
def sdCount (d i : Nat) : Nat := fld d (48 + 12 * i) 0 32
def sdStride (d i : Nat) : Int := toSigned 64 (fld d (52 + 12 * i) 0 64)

def State.streamDesc (s : State) (a : Nat) : Nat := s.rdN a 128

/-- Extent of dimension i; 1 beyond NDIM. -/
def sdExt (d i : Nat) : Nat := if i < sdNdim d then sdCount d i else 1

/-- Reserved bits of R236. -/
def sdReserved (d : Nat) : Bool :=
  fld d 0 52 12 ≠ 0 || fld d 8 20 12 ≠ 0 || fld d 12 20 12 ≠ 0 || fld d 16 14 2 ≠ 0 || fld d 18 7 1 ≠ 0 ||
  fld d 19 7 1 ≠ 0 || fld d 20 4 4 ≠ 0 || fld d 21 0 24 ≠ 0 || fld d 24 52 12 ≠ 0 || fld d 120 0 64 ≠ 0 || sdGate d > 4 ||
  fld d 20 0 4 = 8

/-- Bytes of one run (R237). -/
def sdRunLen (d : Nat) : Nat := if sdTiled d then 256 * sdEsize d else sdExt d 0 * sdEsize d
/-- Number of runs. -/
def sdRuns (d : Nat) : Nat :=
  (if sdTiled d then sdExt d 0 else 1) * sdExt d 1 * sdExt d 2 * sdExt d 3 * sdExt d 4 * sdExt d 5

/-- Index vector of run k, i0 varying fastest; of an untiled run i0 is 0. -/
def sdIndex (d k : Nat) : List Nat :=
  let c0 := if sdTiled d then sdExt d 0 else 1
  let k1 := k / c0
  let k2 := k1 / sdExt d 1
  let k3 := k2 / sdExt d 2
  let k4 := k3 / sdExt d 3
  [k % c0, k1 % sdExt d 1, k2 % sdExt d 2, k3 % sdExt d 3, k4 % sdExt d 4, (k4 / sdExt d 4) % sdExt d 5]

/-- Sum of index times stride from dimension lo on. -/
def sdOffset (d : Nat) (ix : List Nat) (lo : Nat) : Int :=
  ((List.range 6).filter (fun i => lo ≤ i)).foldl (fun (a : Int) i => a + (ix.getD i 0 : Int) * sdStride d i) 0

/-- Address of run k with the given base (R237). -/
def sdRunAddr (d base k : Nat) : Nat :=
  let ix := sdIndex d k
  if sdTiled d then
    ((base : Int) + sdOffset d ix 2).toNat +
      256 * sdEsize d * ((sdTrow0 d + ix.getD 1 0) * cdiv (sdLcols d) 16 + sdTcol0 d + ix.getD 0 0)
  else ((base : Int) + sdOffset d ix 1).toNat

/-- A tile that contributes no delivered element is not fetched (R238). -/
def sdSkipped (d k : Nat) : Bool :=
  sdTiled d &&
    (let ix := sdIndex d k
     let r := 16 * (sdTrow0 d + ix.getD 1 0)
     let c := 16 * (sdTcol0 d + ix.getD 0 0)
     let hi := min (sdSeghi d) (sdLrows d)
     decide (sdLcols d ≤ c ∨ hi ≤ r ∨ r + 16 ≤ sdSeglo d))

/-- The refusals of R239 and R234 for a descriptor on the hubs of a mask. `esz` is the stored element size of an
operand of the arrays, `tiles` the tiles of a product operand's extent. -/
def State.streamBad (s : State) (d mask : Nat) (esz tiles : Option Nat) : Bool :=
  let es := (hubsOf mask).map (fun h => s.entry (4 * h + sdLaunder d))
  let first := if sdFirstu d = 0 then sdBufu d else sdFirstu d
  sdReserved d || sdNdim d = 0 || sdNdim d > 6 || (List.range 6).any (fun i => sdCount d i = 0) ||
  es.any (fun e => sdBufu d > leBufmax e) ||
  decide (sdRunLen d > 4096 * sdBufu d) || decide (sdRunLen d > 4096 * first) ||
  (sdTiled d && sdBase d % (256 * sdEsize d) ≠ 0) ||
  decide (sdSeghi d < sdSeglo d) ||
  (sdGate d ≠ 0 && (hubsOf mask).any (fun h => leCons (s.entry (4 * h + sdGate d - 1)) ≠ 3)) ||
  sdBufu d = 0 || decide (sdBufu d > 64) || decide (sdFirstu d > sdBufu d) ||
  esz.any (fun e => sdEsize d ≠ e) ||
  tiles.any (fun t => if sdTiled d then (List.range 6).any (fun i => decide (2 ≤ i) && decide (sdCount d i > 1))
    else decide (sdRuns d * sdRunLen d ≠ 256 * sdEsize d * t))

-- state of hubs and launders
def State.queue (s : State) (l : Nat) : Queue := FMap.get {} s.strm.queues l
def State.setQueue (s : State) (l : Nat) (q : Queue) : State := s.setStrm { s.strm with queues := FMap.put {} s.strm.queues l q }
def State.buf? (s : State) (i : Nat) : Option Buf := s.strm.bufs.find? (fun b => b.id = i)
def State.updBuf (s : State) (i : Nat) (f : Buf → Buf) : State :=
  s.setStrm { s.strm with bufs := mapIf (fun b => b.id = i) f s.strm.bufs }
def Stream.is (x : Stream) (l r slot role : Nat) : Bool := x.launder = l && x.ring = r && x.slot = slot && x.role = role
/-- The two stand for the same stream. -/
def Stream.same (x y : Stream) : Bool := x.is y.launder y.ring y.slot y.role
def State.stream? (s : State) (x : Stream) : Option Stream := s.strm.streams.find? (fun y => y.same x)
def State.updStream (s : State) (x : Stream) (f : Stream → Stream) : State :=
  s.setStrm { s.strm with streams := mapIf (fun y => y.same x) f s.strm.streams }

/-- A progress event in a hub (R235). -/
def State.moved (s : State) (h : Nat) : State := s.setHub h { s.hub h with movedAt := s.timeUs }

-- pacing, R270
/-- The pacing switch as it is tested at a burst boundary (R270). -/
def State.dmaSwitch (s : State) (c : Nat) (on : Bool) : Bool :=
  let mode := s.obj (chKey c 9)
  let fill := (s.queue (s.obj (chKey c 8))).q.length
  let lo := s.obj (chKey c 0x0A)
  let hi := s.obj (chKey c 0x0B)
  if mode = 1 then (if fill ≤ lo then true else if hi ≤ fill then false else on)
  else if mode = 2 then (if hi ≤ fill then true else if fill ≤ lo then false else on)
  else true

/-- Requests of a channel that have not been granted, and reads in flight: a burst is in progress. -/
def State.chanBusy (s : State) (c : Nat) : Bool :=
  s.strm.reqs.any (fun q => q.who == .dma && q.hub = chHub c) ||
    s.strm.tags.any (fun t => t.req.who == .dma && t.req.hub = chHub c && !t.req.write)

/-- A channel at a burst boundary sets its switch and its state by the fill level now (R270). -/
def State.repace (s : State) (c : Nat) : State :=
  let x := s.chan c
  if (x.state == .active || x.state == .paced) && x.haltCode = 0 && !(s.chanBusy c) then
    let on := s.dmaSwitch c x.switch
    (s.setChan c { x with switch := on, state := if on then .active else .paced }).bump 64 (okey 0x2211 6) (b2n (x.switch && !on))
  else s

/-- The channels that pace themselves by a launder. -/
def State.repaceAll (s : State) (l : Nat) : State :=
  (s.chans.filter (fun e => s.obj (chKey e.1 9) ≠ 0 && s.obj (chKey e.1 8) = l)).foldl (fun s e => s.repace e.1) s

/-- A handle is pushed into a launder. -/
def State.pushHandle (s : State) (l : Nat) (h : Handle) : State :=
  let q := s.queue l
  ((s.setQueue l { q with q := q.q ++ [h] }).moved (l / 4)).repaceAll l

/-- The head handle of a launder is popped; the consumer holds it if it is to be released (R228). -/
def State.popHandle (s : State) (l : Nat) (hold : Bool) : State :=
  let q := s.queue l
  match q.q with
  | [] => s
  | h :: t => ((s.setQueue l { q := t, held := if hold then q.held ++ [h] else q.held }).moved (l / 4)).repaceAll l

/-- A buffer's units return to its hub (R228). -/
def State.freeBuf (s : State) (i : Nat) : State := s.setStrm { s.strm with bufs := s.strm.bufs.filter (fun b => b.id ≠ i) }

-- credit
/-- Handles and buffers in filling that a launder holds (R230). -/
def State.fillOf (s : State) (l : Nat) : Nat :=
  (s.queue l).q.length + (s.strm.bufs.filter (fun b => b.launder = l && !b.pushed)).length

/-- First unit of the reserve region of launder l in its hub (R229). -/
def State.resBase (s : State) (l : Nat) : Nat :=
  ((List.range (l % 4)).map (fun j => leRes (s.entry (4 * (l / 4) + j)))).sum
/-- First unit of the pool of a hub. -/
def State.poolBase (s : State) (h : Nat) : Nat := ((List.range 4).map (fun j => leRes (s.entry (4 * h + j)))).sum

/-- First-fit place of n units in [lo, hi) beside the occupied (base, length) pairs; `fuel` bounds the moves. -/
def firstFit (occ : List (Nat × Nat)) (n hi : Nat) : Nat → Nat → Option Nat
  | 0, _ => none
  | fuel + 1, b =>
    if hi < b + n then none
    else match occ.find? (fun o => decide (o.1 < b + n) && decide (b < o.1 + o.2)) with
      | none => some b
      | some o => firstFit occ n hi fuel (o.1 + o.2)

/-- Units in use in a hub. -/
def State.occupied (s : State) (h : Nat) : List (Nat × Nat) :=
  (s.strm.bufs.filter (fun b => b.launder / 4 = h)).map (fun b => (b.base, b.len))

/-- Place of a buffer of n units of launder l: reserve region, else pool (R229). -/
def State.place (s : State) (l n : Nat) : Option Nat :=
  let occ := s.occupied (l / 4)
  let lo := s.resBase l
  match firstFit occ n (lo + leRes (s.entry l)) (occ.length + 1) lo with
  | some b => some b
  | none => firstFit occ n 1536 (occ.length + 1) (s.poolBase (l / 4))

/-- DEPTH leaves room for another handle or buffer in filling. -/
def State.depthLeft (s : State) (l : Nat) : Bool := decide (s.fillOf l < leDepth (s.entry l))

/-- The drain units of a hub have room for an output buffer of one unit in launder 3 (R226, R229; log entry 29). -/
def State.outRoom (s : State) (h : Nat) : Bool := s.depthLeft (4 * h + 3) && (s.place (4 * h + 3) 1).isSome

-- watch windows, R249
/-- Watch windows held by the buffers of a launder, and those that its buffers hold or are to hold. -/
def State.windows (s : State) (l : Nat) : Nat := (s.strm.bufs.filter (fun b => b.launder = l && b.granted && !b.read)).length
def State.claims (s : State) (l : Nat) : Nat := (s.strm.bufs.filter (fun b => b.launder = l && !b.read && b.fault.isNone && b.ring ≠ dmaRing && b.role ≠ 3)).length

/-- A watch window is free for launder l: its own reserved one, or one of the 64 that no reserve keeps; windows promised to
buffers in filling count as taken (R230, R249; log entry 30). -/
def State.windowFree (s : State) (l : Nat) : Bool :=
  let h := l / 4
  let own := s.claims l
  let keeps (k : Nat) : Bool := leProd (s.entry (4 * h + k)) = 0 && decide (leRes (s.entry (4 * h + k)) > 0)
  if own = 0 && keeps (l % 4) then true
  else
    let used := ((List.range 4).map (fun k => max (s.claims (4 * h + k)) (b2n (keeps k)))).sum
    let mine := if own = 0 then used + 1 else used - max own (b2n (keeps (l % 4))) + own + 1
    decide (mine ≤ 64)

def overlaps (a n b m : Nat) : Bool := decide (a < b + m) && decide (b < a + n)
/-- Span of a buffer, rounded outward to 256 bytes (R249). -/
def Buf.span (b : Buf) : Nat × Nat :=
  let lo := (b.runs.map Prod.fst).foldl min (b.runs.headD (0, 0)).1
  let hi := (b.runs.map (fun r => r.1 + r.2)).foldl max 0
  (lo / 256 * 256, cdiv hi 256 * 256)
/-- A write of n bytes at a falls into the window of a buffer. -/
def Buf.watched (b : Buf) (a n : Nat) : Bool :=
  b.granted && !b.read && !b.runs.isEmpty && overlaps a n b.span.1 (b.span.2 - b.span.1)

/-- The bytes of a buffer that have arrived, taken again from memory. -/
def Buf.refresh (b : Buf) (m : List Host.Cell) : Buf := { b with data := b.data.map (fun e => (e.1, FMap.get 0 m e.1)) }

/-- A buffer that a write has hit is fetched again (R249; the refetch takes no step, log entry 41). Where its stream checks an
epoch, the epoch is read again for a buffer that is not pushed yet (R250, R252). -/
def State.refetched (s : State) (b : Buf) : Buf :=
  let b := b.refresh s.mem
  match s.strm.streams.find? (fun x => x.ring = b.ring && x.slot = b.slot && x.role = b.role && sdEpoch x.desc) with
  | some x =>
    let e := s.rdN (sdEpaddr x.desc) 8
    if b.pushed || b.hop then b
    else if e % 2 = 1 then { b with epoch := e, waitEpoch := true, arrived := false, data := [] } else { b with epoch := e }
  | none => b

/-- Buffers that satisfy p are fetched again, and counted. -/
def State.refetch (s : State) (p : Buf → Bool) : State :=
  let n := (s.strm.bufs.filter p).length
  if n = 0 then s
  else (s.setStrm { s.strm with bufs := s.strm.bufs.map (fun b => if p b then s.refetched b else b) }).bump 64 (okey 0x2111 5) n

/-- A write that takes no request has arrived: it is in memory, and the watched buffers that it falls into are fetched again
(R248, R249). -/
def State.store (s : State) (a : Nat) (l : List Byte) : State := (s.wrBytes a l).refetch (fun b => b.watched a l.length)
def State.storeN (s : State) (a n v : Nat) : State := s.store a (leBytes n v)

/-- A write is issued under a tag: the watched buffers that it falls into are stale until it arrives (R249). -/
def State.markStale (s : State) (key a n : Nat) : State :=
  s.setStrm { s.strm with bufs := s.strm.bufs.map (fun b => if b.watched a n then { b with stale := key :: b.stale } else b) }

/-- The write under a tag has arrived. A buffer that no other pending write hits is fetched again. -/
def State.landedWrite (s : State) (key a : Nat) (l : List Byte) : State :=
  let s := s.wrBytes a l
  let last (b : Buf) : Bool := b.stale.contains key && (b.stale.erase key).isEmpty
  let s := s.refetch last
  s.setStrm { s.strm with bufs := s.strm.bufs.map (fun b => { b with stale := b.stale.erase key }) }

-- filling
/-- Run k of a stream is not fetched: it delivers no element (R238), or its block is masked (R109). -/
def Stream.skips (x : Stream) (k : Nat) : Bool := sdSkipped x.desc k || x.hidden.contains k

/-- The next run from run k on that is fetched; `fuel` is the number of runs from k. -/
def Stream.nextRun (x : Stream) : Nat → Nat → Option Nat
  | 0, _ => none
  | fuel + 1, k => if x.skips k then x.nextRun fuel (k + 1) else some k

/-- Runs from run k on that fit into `space` bytes: addresses and lengths, and the number of the run after the last. -/
def Stream.takeRuns (x : Stream) : Nat → Nat → Nat → List (Nat × Nat) × Nat
  | 0, k, _ => ([], k)
  | fuel + 1, k, space =>
    if x.skips k then
      (let (l, n) := x.takeRuns fuel (k + 1) space
       (l, if l.isEmpty then k else n))
    else if space < sdRunLen x.desc then ([], k)
    else let (l, n) := x.takeRuns fuel (k + 1) (space - sdRunLen x.desc); ((sdRunAddr x.desc x.base k, sdRunLen x.desc) :: l, if l.isEmpty then k + 1 else n)

/-- Length in units of the next buffer of a stream (R237). -/
def Stream.nextLen (x : Stream) : Nat := if x.seq = 0 && sdFirstu x.desc ≠ 0 then sdFirstu x.desc else sdBufu x.desc

/-- Launders that receive a stream's buffers: its own, and that of every hub of the mask for a broadcast source (R11). -/
def State.receivers (s : State) (x : Stream) : List Nat :=
  match s.order? x.ring x.slot with
  | none => [x.launder]
  | some o => if o.forwards x.role then (hubsOf (woMask o.raw)).map (fun h => 4 * h + x.launder % 4) else [x.launder]

/-- The stream's extent still has runs to fetch (R230). -/
def Stream.more (x : Stream) : Bool := !x.ended && !x.stopped && (x.nextRun (sdRuns x.desc - x.run) x.run).isSome

/-- The run-ahead conditions of R230. -/
def State.canFetch (s : State) (x : Stream) : Bool :=
  x.more && !x.gated && !x.held &&
  (s.receivers x).all (fun l => s.depthLeft l && (s.place l x.nextLen).isSome && s.windowFree l)

/-- Issue the requests of a buffer. What a cached copy of a Stockpile entry serves needs none (R126). -/
def State.issue (s : State) (b : Buf) : State :=
  b.runs.foldl (fun s r => (pieces r.1 r.2 r.2).foldl (fun s p =>
    match s.copyOf p.1 p.2 with
    | some k =>
      let s := s.mendCopy k
      let l := (s.copyBytes k p.1 p.2).zipIdx.map (fun e => (p.1 + e.2, e.1))
      s.updBuf b.id (fun b => { b with data := b.data ++ l })
    | none =>
      s.enqueue { hub := b.launder / 4, who := .stream (Fin.ofNat 256 b.launder) (Fin.ofNat 3 b.role), addr := p.1, len := p.2, buf := b.id,
                  launder := b.launder, role := b.role, ring := b.ring, slot := b.slot }) s) s

/-- The requests of a buffer are given up; those in flight complete for nobody. -/
def State.cancelReads (s : State) (i : Nat) : State :=
  let hit (q : Req) : Bool := q.buf = i && !q.write
  s.setStrm { s.strm with reqs := s.strm.reqs.filter (fun q => !(hit q)),
                          tags := s.strm.tags.map (fun t => if hit t.req then { t with req := { t.req with buf := 0 } } else t) }

/-- An epoch that does not settle (R250). -/
def State.epochFault (s : State) (b : Buf) : State := s.fault 1 0x0131 { kind := 2, num := b.launder / 4, slot := b.slot, ring := b.ring }

/-- Begin one try of filling a buffer: with EPOCH the epoch is read first (R250). -/
def State.tryFill (s : State) (x : Stream) (b : Buf) : State :=
  if sdEpoch x.desc then
    if s.obj (okey 0x2190 1) ≤ b.tries then s.epochFault b
    else
      let e := s.rdN (sdEpaddr x.desc) 8
      let s := (s.cancelReads b.id).updBuf b.id (fun b => { b with tries := b.tries + 1, epoch := e, data := [], waitEpoch := decide (e % 2 = 1) })
      if e % 2 = 1 then s else s.issue b
  else s.issue b

/-- Start the next buffer of a stream, in every hub that receives it (R230, R11). -/
def State.startBuf (s : State) (x : Stream) : State :=
  let len := x.nextLen
  let (runs, nxt) := x.takeRuns (sdRuns x.desc - x.run) x.run (4096 * len)
  let mk (l : Nat) (s : State) (hop : Bool) : State :=
    let b : Buf := { id := s.strm.bufCount + 1, launder := l, ring := x.ring, slot := x.slot, role := x.role, seq := x.seq, len := len,
                     base := (s.place l len).getD 0, firstRun := x.run, lastRun := nxt, runs := runs, hop := hop }
    (s.setStrm { s.strm with bufs := s.strm.bufs ++ [b], bufCount := s.strm.bufCount + 1 }).moved (l / 4)
  let id := s.strm.bufCount + 1
  let s := mk x.launder s false
  let s := ((s.receivers x).filter (fun l => l ≠ x.launder)).foldl (fun s l => mk l s true) s
  let s := s.updStream x (fun x => { x with run := nxt, seq := x.seq + 1 })
  match s.buf? id with
  | none => s
  | some b => s.tryFill x b

/-- A buffer and its copies in the hubs it is forwarded to, as long as none is pushed. -/
def State.copies (s : State) (b : Buf) : List Buf :=
  s.strm.bufs.filter (fun c => !c.pushed && (c.id = b.id || (c.hop && c.ring = b.ring && c.slot = b.slot && c.role = b.role && c.seq = b.seq)))

/-- Push the handle of a buffer, in every hub that receives it (R228). -/
def State.pushKind (s : State) (b : Buf) (kind : Nat) : State :=
  (s.copies b).foldl (fun s c =>
    (s.updBuf c.id (fun c => { c with data := b.data, pushed := true, granted := b.granted, fault := b.fault, read := b.fault.isSome })).pushHandle c.launder
      { kind := kind, seq := b.seq % 64, len := c.len, base := c.base, buf := c.id }) s

/-- After its last buffer a stream pushes its end-of-stream handle, once there is room for it (R228). -/
def State.pushEnd (s : State) (x : Stream) : State :=
  match s.stream? x with
  | none => s
  | some y =>
    if y.ended || y.stopped || y.gated || y.more || !((s.receivers y).all s.depthLeft) then s
    else
      let s := (s.receivers y).foldl (fun s l => s.pushHandle l { kind := 2, seq := y.seq % 64, len := 0, base := 0, buf := 0 }) s
      s.updStream y (fun y => { y with ended := true })

/-- Buffers of a stream that are not pushed yet, in stream order. -/
def State.filling (s : State) (x : Stream) : List Buf :=
  s.strm.bufs.filter (fun b => !b.pushed && !b.hop && x.is b.launder b.ring b.slot b.role)

/-- Push what a stream has ready, in stream order; a deferred fault takes its turn and ends the stream (R228, R244). `fuel`
bounds the buffers. -/
def State.pushReady (s : State) (x : Stream) : Nat → State
  | 0 => s
  | fuel + 1 =>
    match (s.filling x).head? with
    | none => s.pushEnd x
    | some b =>
      if b.fault.isSome then s.pushKind b 1
      else if b.arrived && b.stale.isEmpty then
        ((s.pushKind b 0).updStream x (fun x => { x with pushedRun := b.lastRun })).pushReady x fuel
      else s

/-- Push what every stream of a hub has ready. -/
def State.pushHub (s : State) (h : Nat) : State :=
  (s.strm.streams.filter (fun x => s.reaches x h)).foldl (fun s x => s.pushReady x (s.strm.bufs.length + 1)) s

/-- Push what every stream has ready. -/
def State.pushAll (s : State) : State :=
  s.strm.streams.foldl (fun s x => s.pushReady x (s.strm.bufs.length + 1)) s

/-- Requests or tags still name a buffer. -/
def State.outstanding (s : State) (i : Nat) : Bool :=
  s.strm.reqs.any (fun q => q.buf = i && !q.write) || s.strm.tags.any (fun t => t.req.buf = i && !t.req.write)

/-- The last byte of a buffer has arrived: with an epoch that changed it is fetched again (R250), else it takes its turn (R228). -/
def State.filled (s : State) (i : Nat) : State :=
  match s.buf? i with
  | none => s
  | some b =>
    if b.pushed || b.arrived || b.waitEpoch || b.fault.isSome || s.outstanding i then s
    else match s.strm.streams.find? (fun x => x.is b.launder b.ring b.slot b.role) with
      | none => s
      | some x =>
        if sdEpoch x.desc && s.rdN (sdEpaddr x.desc) 8 ≠ b.epoch then (s.bump64 (okey 0x2111 6)).tryFill x b
        else (s.updBuf i (fun b => { b with arrived := true })).pushReady x (s.strm.bufs.length + 1)

-- faults of streams
/-- The fetch of a run met an absent page: the buffer's place in the queue takes a deferred-fault handle, and the Rake fetches
nothing more for the stream (R244): what it had begun after that buffer is given up. -/
def State.deferFault (s : State) (i page : Nat) : State :=
  match s.buf? i with
  | none => s
  | some b =>
    match s.strm.streams.find? (fun x => x.is b.launder b.ring b.slot b.role) with
    | none => s
    | some x =>
      let starts := (b.runs.filter (fun r => decide (r.1 < 65536 * page + 65536) && decide (65536 * page < r.1 + r.2))).map (fun r => max r.1 (65536 * page))
      let fa := starts.foldl min (starts.headD (65536 * page))
      let later := (s.filling x).filter (fun c => decide (b.seq < c.seq))
      let s := (b :: later).foldl (fun s c => s.cancelReads c.id) s
      let s := s.setStrm { s.strm with
        bufs := s.strm.bufs.filter (fun c => !(!c.pushed && c.ring = b.ring && c.slot = b.slot && c.role = b.role && later.any (fun d => d.seq = c.seq) &&
          (c.hop || c.launder = b.launder))) }
      let s := s.updBuf i (fun b => { b with fault := some fa, granted := false, arrived := false, waitEpoch := false, data := [] })
      (s.updStream x (fun x => { x with stopped := true })).pushReady x (s.strm.bufs.length + 1)

/-- A stream is Held, and its work order still runs (R245, R252). -/
def State.heldStream (s : State) (x : Stream) : Bool := x.held && (s.order? x.ring x.slot).any (fun o => o.live)

/-- Streams now Held (2120/01): read streams, and write streams. -/
def State.heldCount (s : State) : Nat := (s.strm.streams.filter s.heldStream).length + (s.strm.reqs.filter (fun q => q.told)).length

/-- A launder's stream is Held. -/
def State.isHeld (s : State) (l : Nat) : Bool :=
  s.strm.streams.any (fun x => x.launder = l && s.heldStream x) || s.strm.reqs.any (fun q => q.told && 4 * q.hub + 3 = l)

/-- Drop all that a work order holds in streams (R244, R246, R295): deferred faults that no pan has read are counted. -/
def State.dropStreams (s : State) (r slot : Nat) : State :=
  let mine (b : Buf) : Bool := b.ring = r && b.slot = slot
  let ids := (s.strm.bufs.filter mine).map Buf.id
  let read (b : Buf) : Bool := s.strm.streams.any (fun x => x.held && x.ring = b.ring && x.slot = b.slot && x.role = b.role && (b.hop || x.launder = b.launder))
  let dropped := (s.strm.bufs.filter (fun b => mine b && b.pushed && b.fault.isSome && !(read b))).length
  let ls := (s.strm.streams.filter (fun x => x.ring = r && x.slot = slot)).flatMap s.receivers
  let keep (h : Handle) : Bool := if h.kind = 2 then false else !(ids.contains h.buf)
  let cut (e : Nat × Queue) : Nat × Queue :=
    if ls.contains e.1 || e.2.q.any (fun h => ids.contains h.buf) || e.2.held.any (fun h => ids.contains h.buf)
    then (e.1, { q := e.2.q.filter keep, held := e.2.held.filter keep }) else e
  let s := ids.foldl (fun s i => s.cancelReads i) s
  let s := s.setStrm { s.strm with
    bufs := s.strm.bufs.filter (fun b => !(mine b)),
    streams := s.strm.streams.filter (fun x => !(x.ring = r && x.slot = slot)),
    queues := (s.strm.queues.map cut).filter (fun e => e.2 != {}),
    faultRecs := s.strm.faultRecs.filter (fun e => !(e.2.any (fun f => f.ring = r && f.slot = slot))) }
  s.bump 64 (okey 0x2111 3) dropped

/-- A Held write stream of a work order that is aborted is dropped (R246, R295): the write it is held at, those behind it, and
the output that waits in its launder. -/
def State.dropHeldWrites (s : State) (r slot : Nat) : State :=
  let hs := (s.strm.reqs.filter (fun q => q.told && q.ring = r && q.slot = slot)).map Req.hub
  let gone (b : Buf) : Bool := b.ring = r && b.slot = slot && b.role = 3 && hs.contains (b.launder / 4)
  let ids := (s.strm.bufs.filter gone).map Buf.id
  let cut (q : Queue) : Queue := { q := q.q.filter (fun h => !(ids.contains h.buf)), held := q.held.filter (fun h => !(ids.contains h.buf)) }
  s.setStrm { s.strm with
    reqs := s.strm.reqs.filter (fun q => !(q.write && q.ring = r && q.slot = slot && hs.contains q.hub)),
    bufs := s.strm.bufs.filter (fun b => !(gone b)),
    queues := (s.strm.queues.map (fun e => (e.1, cut e.2))).filter (fun e => e.2 != {}),
    faultRecs := s.strm.faultRecs.filter (fun e => !(e.2.any (fun f => f.write && f.ring = r && f.slot = slot))) }

/-- Writes of a work order that have not arrived, in flight, waiting for a grant, or in an output buffer (R248). -/
def State.writesPending (s : State) (r slot : Nat) : Bool :=
  s.strm.reqs.any (fun q => q.write && q.ring = r && q.slot = slot) ||
  s.strm.tags.any (fun t => t.req.write && t.req.ring = r && t.req.slot = slot) ||
  s.strm.bufs.any (fun b => b.ring = r && b.slot = slot && b.role = 3 && !b.read)

/-- Open the streams of one operand on the hubs of a mask, with its descriptor in effect and the runs that the mask hides
(R231, R11, R109). -/
def State.openStreams (s : State) (r slot mask role daddr d base : Nat) (hidden : List Nat) : State :=
  let hs := match s.order? r slot with
    | some o => if o.forwards role then [woBhub o.raw] else hubsOf mask
    | none => hubsOf mask
  let mk (h : Nat) : Stream :=
    { launder := 4 * h + sdLaunder d, ring := r, slot := slot, role := role, daddr := daddr, desc := d,
      base := base, gated := decide (sdGate d ≠ 0), hidden := hidden }
  s.setStrm { s.strm with streams := s.strm.streams ++ hs.map mk }

/-- A byte of an operand as the feeders of a hub find it: in a buffer of the work order and role that has been popped
and is still held. -/
def State.feed (s : State) (h r slot role a : Nat) : Option Byte :=
  let held := (s.strm.queues.filter (fun e => e.1 / 4 = h)).flatMap (fun e => e.2.held.map Handle.buf)
  (s.strm.bufs.filter (fun b => held.contains b.id && b.ring = r && b.slot = slot && b.role = role)).findSome?
    (fun b => (b.data.find? (fun e => e.1 = a)).map Prod.snd)

/-- The drain units fill an output buffer of launder 3 with the pieces of a row and push its handle (R226, R228). An armed
injection inverts the parity of a word of it (R398). -/
def State.output (s : State) (hub r slot : Nat) (ws : List (Nat × List Byte)) : State :=
  if ws.isEmpty then s
  else
    let inj := s.injected 2 hub
    let l := 4 * hub + 3
    let b : Buf := { id := s.strm.bufCount + 1, launder := l, ring := r, slot := slot, role := 3, len := 1, base := (s.place l 1).getD 0,
                     runs := ws.map (fun w => (w.1, w.2.length)), data := ws.flatMap (fun w => w.2.zipIdx.map (fun e => (w.1 + e.2, e.1))),
                     arrived := true, pushed := true, bad := inj }
    let s := if inj then s.disarm else s
    (s.setStrm { s.strm with bufs := s.strm.bufs ++ [b], bufCount := b.id }).pushHandle l { kind := 0, seq := 0, len := 1, base := b.base, buf := b.id }

end Sys2Proof.Machine
end

