-- ==== Sys2Proof/Machine/Entries.lean ====
section
/-! DEFINITION. Stockpile entries: the record of R127, its states (R128), the allocations (R129), pins and releases
(R130). -/

namespace Sys2Proof.Machine

/-- FORMAT of R124 and IFMT as an element format of `elemVal`. -/
def inFmt (f : Nat) : Nat := if f = 0 then 0 else if f = 1 then 6 else 7

/-- The three allocations: near (0), far (1), chain scratch (2): base and size in bytes (R129). -/
def State.allocBase (s : State) (k : Nat) : Nat := s.obj (okey 0x2410 (1 + 2 * k))
def State.allocSize (s : State) (k : Nat) : Nat := s.obj (okey 0x2410 (2 + 2 * k))

/-- Allocation in which an entry's address lies, by its state (R128). -/
def enAlloc (e : Nat) : Option Nat :=
  let t := enState e
  if t = 1 ∨ t = 2 ∨ t = 3 then some 0 else if t = 4 then some 1 else if t = 6 then some 2 else none

/-- Units in use of an allocation: runs of (unit, length). Far runs of Spilling entries count, and scratch runs being written. -/
def State.allocUsed (s : State) (k : Nat) : List (Nat × Nat) :=
  (s.stock.ents.filter (fun e => enAlloc e.2 = some k)).map (fun e => ((enAddr e.2 - s.allocBase k) / 65536, enSize e.2)) ++
    (if k = 1 then s.stock.ents.filterMap (fun e =>
      if enState e.2 = 3 then some (FMap.get 0 s.stock.spill e.1, enSize e.2) else none) else []) ++
    (if k = 2 then s.stock.coming.map (fun e => ((enAddr e.2 - s.allocBase 2) / 65536, enSize e.2)) else [])

/-- First-fit place of n units in an allocation, as a unit number (R129). -/
def State.allocFit (s : State) (k n : Nat) : Option Nat :=
  let occ := s.allocUsed k
  firstFit occ n (s.allocSize k / 65536) (occ.length + 1) 0

/-- Bytes of an allocation in use (2412/02 to /04). -/
def State.allocBytes (s : State) (k : Nat) : Nat := ((s.allocUsed k).map Prod.snd).sum * 65536

/-- Release of an entry: its units and its cached copy return, its record takes its reset value (R130, R127). -/
def State.freeEntry (s : State) (n : Nat) : State :=
  if enState (s.entryRec n) = 0 then s
  else
    let s := s.setStock { s.stock with order := FMap.put 0 s.stock.order n 0, releasing := s.stock.releasing.filter (fun m => m ≠ n),
                                       fromFree := s.stock.fromFree.filter (fun m => m ≠ n), freed := true }
    (s.setEntry n 0).bump64 (okey 0x2411 7)

/-- Pin an entry (R130). -/
def State.pinEntry (s : State) (n : Nat) : State := s.setEntry n (enSetPins (s.entryRec n) (enPins (s.entryRec n) + 1))

/-- Unpin an entry; one whose release waits is freed when PINS falls to zero (R130). -/
def State.unpinEntry (s : State) (n : Nat) : State :=
  let p := enPins (s.entryRec n) - 1
  let s := s.setEntry n (enSetPins (s.entryRec n) p)
  if p = 0 && s.stock.releasing.contains n && enState (s.entryRec n) ≠ 3 then s.freeEntry n else s

/-- The release flag of a work order that completed with STATUS 0 (R130); a Spilling entry is freed after its copy (R134). -/
def State.releaseEntry (s : State) (n : Nat) : State :=
  if enPins (s.entryRec n) = 0 && enState (s.entryRec n) ≠ 3 then s.freeEntry n
  else s.setStock { s.stock with releasing := n :: s.stock.releasing }

/-- FORMAT of R124 for OFMT (R408): E4M3, BF16, FP32. -/
def ofmtFormat (o : Nat) : Nat := o - 1

/-- The record of an entry being written from T rows of a width in OFMT, at unit u of the chain scratch (R408); fields
not named keep what the entry holds. -/
def State.scratchRec (s : State) (n t width ofm u units : Nat) : Nat :=
  let e := s.entryRec n
  let e := putField (putField (putField (putField e 208 2 (ofmtFormat ofm)) 32 32 t) 14 18 width) 160 32 units
  enSetState (enSetAddr (putField (putField e 0 8 (n / 64)) 8 6 (n % 64)) (s.allocBase 2 + 65536 * u)) enRegen

/-- Units of a tile-blocked matrix (R124). -/
def unitsOf (t width size : Nat) : Nat := cdiv (cdiv t 16 * cdiv width 16 * 256 * size) 65536

/-- Displacement (R137); a return to Free is no release and is not counted in 2411/07 (DESIGN CHOICE, log entry 19): the unpinned Regenerated entry of a segment with the lowest BLOCK returns to Dropped, or to
Free if it was written from Free (R408). -/
def State.displace (s : State) (seg : Nat) : Option State :=
  match (s.stock.ents.filter (fun e => e.1 / 64 = seg && enState e.2 = 6 && enPins e.2 = 0)).head? with
  | none => none
  | some (n, e) =>
    if s.stock.fromFree.contains n then
      some ((s.setStock { s.stock with fromFree := s.stock.fromFree.filter (fun m => m ≠ n), order := FMap.put 0 s.stock.order n 0 }).setEntry n 0)
    else some (s.setEntry n (enSetState e enDropped))

/-- Place of n units in the chain scratch, displacing while it is full; `fuel` bounds the displacements. -/
def State.takeScratch (s : State) (seg n : Nat) : Nat → Option (State × Nat)
  | 0 => none
  | fuel + 1 =>
    match s.allocFit 2 n with
    | some u => some (s, u)
    | none => match s.displace seg with
      | none => none
      | some s => s.takeScratch seg n fuel

/-- Where the record of an entry that a work order is writing stands: by ring slot and entry. -/
def comeKey (r slot n : Nat) : Nat := (65536 * r + slot) * 16384 + n
def State.comingOf (s : State) (o : Order) (n : Nat) : Nat := FMap.get 0 s.stock.coming (comeKey o.ring o.slot n)
/-- Some admitted work order is writing the entry. -/
def State.isComing (s : State) (n : Nat) : Bool := s.stock.coming.any (fun e => e.1 % 16384 = n)
def State.setComing (s : State) (o : Order) (n e : Nat) : State :=
  s.setStock { s.stock with coming := FMap.put 0 s.stock.coming (comeKey o.ring o.slot n) e }

/-- Reserve chain scratch for an entry that a work order or a link of it will write; none when it does not fit (R137, R408). -/
def State.reserve (s : State) (o : Order) (n t width ofm : Nat) : Option State :=
  let units := unitsOf t width (ofmtSize ofm)
  match s.takeScratch (n / 64) units 65 with
  | none => none
  | some (s, u) => some (s.setComing o n (s.scratchRec n t width ofm u units))

/-- The entry has been written: it becomes Regenerated (R128, R408). -/
def State.arrived (s : State) (o : Order) (n : Nat) (rec_ : Nat → Nat) : State :=
  let e := s.comingOf o n
  if e = 0 then s
  else
    let old := s.entryRec n
    let s := s.setComing o n 0
    let s := if enState old = 0 then s.setStock { s.stock with fromFree := n :: s.stock.fromFree } else s
    s.setEntry n (enSetPins (rec_ e) (enPins old))

/-- Give up the scratch reserved for an entry. -/
def State.forsake (s : State) (o : Order) (n : Nat) : State := s.setComing o n 0

end Sys2Proof.Machine
end

