-- ==== Sys2Proof/Machine/Version.lean ====
section
/-! DEFINITION. Weight versions: the layer table and the version state of a layer (R115), pins (R116), the choice of
a target slot (R118, R119), VERSION SET, DROP and PUBLISH (R120, R121). -/

namespace Sys2Proof.Machine

/-- Address of a slot of a layer (R115). -/
def State.slotAddr (s : State) (layer slot : Nat) : Nat := bits (s.rdN (s.obj (okey 0x2320 3) + 32 * layer + 8 * slot) 8) 0 52

def State.layer (s : State) (l : Nat) : Layer := FMap.get {} s.seq.layers l
def State.setLayer (s : State) (l : Nat) (x : Layer) : State :=
  { s with seq := { s.seq with layers := FMap.put {} s.seq.layers l x } }

def Layer.ver (x : Layer) (slot : Nat) : Nat := if slot = 0 then x.ver0 else x.ver1
def Layer.pin (x : Layer) (slot : Nat) : Nat := if slot = 0 then x.pin0 else x.pin1
def Layer.valid (x : Layer) (slot : Nat) : Bool := if slot = 0 then x.valid0 else x.valid1
def Layer.setPin (x : Layer) (slot n : Nat) : Layer := if slot = 0 then { x with pin0 := n } else { x with pin1 := n }
def Layer.setVer (x : Layer) (slot v : Nat) : Layer := if slot = 0 then { x with ver0 := v } else { x with ver1 := v }
def Layer.setValid (x : Layer) (slot : Nat) (b : Bool) : Layer :=
  if slot = 0 then { x with valid0 := b } else { x with valid1 := b }

/-- CLAIM names a slot: 0b01 slot 0, 0b10 slot 1. -/
def Layer.claims (x : Layer) (slot : Nat) : Bool := x.claim = slot + 1

/-- Version state word 2320/02 (R115). -/
def Layer.word (x : Layer) : Nat :=
  pack 69 1 (b2n x.stall) + pack 67 2 x.claim + pack 66 1 (b2n x.valid1) + pack 65 1 (b2n x.valid0) +
    pack 64 1 (b2n x.newest) + pack 48 16 x.pin1 + pack 32 16 x.pin0 + pack 16 16 x.ver1 + pack 0 16 x.ver0

/-- The check of R116 passes. -/
def Layer.readable (x : Layer) (slot ver : Nat) : Bool :=
  x.valid slot && x.ver slot = ver && !(x.claims slot) && decide (x.pin slot < 0xFFFF)

/-- Release a pin of R116. -/
def State.unpin (s : State) (p : Option (Nat × Nat)) : State :=
  match p with
  | none => s
  | some (l, k) => s.setLayer l ((s.layer l).setPin k ((s.layer l).pin k - 1))

/-- Every weight slot that a work order pins is let go (R116, R136). -/
def State.unpinSlots (s : State) (o : Order) : State := o.linkSlots.foldl (fun s p => s.unpin (some p)) (s.unpin o.pinSlot)

/-- Target slot of an UPDATE or PRECOND (R118): none while the claim stands or every slot is pinned. -/
def State.updateTarget (s : State) (l : Nat) : Option Nat :=
  let x := s.layer l
  let nw := b2n x.newest
  if x.claim ≠ 0 then none
  else if x.pin (1 - nw) = 0 then some (1 - nw)
  else if x.pin nw = 0 && s.obj (okey 0x2380 1) = 0 then some nw
  else none

/-- The stall of R119: claim clear, no target. -/
def State.updateStalls (s : State) (l : Nat) : Bool := (s.layer l).claim = 0 && (s.updateTarget l).isNone

/-- SET and DROP refuse a pinned or claimed slot (R120). -/
def State.versionRefuses (s : State) (l slot : Nat) : Bool := decide ((s.layer l).pin slot > 0) || (s.layer l).claims slot

/-- PUBLISH: the states of `n` layers at 16-byte steps (R121). -/
def State.publish (s : State) (l a : Nat) : Nat → State
  | 0 => s
  | n + 1 => (s.wrN a 16 (s.layer l).word).publish (l + 1) (a + 16) n

end Sys2Proof.Machine
end

