-- ==== Sys2Proof/Machine/Product.lean ====
section
/-! DEFINITION. The geometry of a product (R60, R75, R94 to R97, R113), its operands as the feeders deliver them (R65,
R187, R236 to R238), the de-quantisation of a chunk (R184 to R187) and the anchor of window mode (R54). -/

namespace Sys2Proof.Machine

-- quantisation descriptors, R182
def qdQaddr (d : Nat) : Nat := fld d 0 0 52
def qdSaddr (d : Nat) : Nat := fld d 8 0 52
def qdZaddr (d : Nat) : Nat := fld d 16 0 52
def qdLsaddr (d : Nat) : Nat := fld d 24 0 52
def qdGaddr (d : Nat) : Nat := fld d 32 0 52
def qdSrcaddr (d : Nat) : Nat := fld d 40 0 52
def qdFlkaddr (d : Nat) : Nat := fld d 48 0 52
def qdFlkladdr (d : Nat) : Nat := fld d 56 0 52
def qdClipaddr (d : Nat) : Nat := fld d 64 0 52
def qdRows (d : Nat) : Nat := fld d 72 0 20
def qdCols (d : Nat) : Nat := fld d 76 0 20
def qdFormat (d : Nat) : Nat := fld d 80 0 3
def qdGran (d : Nat) : Nat := fld d 80 3 2
def qdZp (d : Nat) : Bool := bit d (8 * 80 + 5)
def qdAxis (d : Nat) : Nat := fld d 80 6 1
def qdGcode (d : Nat) : Nat := fld d 80 7 2
def qdG (d : Nat) : Nat := 32 * 2 ^ qdGcode d
def qdLearn (d : Nat) : Bool := bit d (8 * 80 + 9)
def qdAuto (d : Nat) : Bool := bit d (8 * 80 + 10)
def qdReq (d : Nat) : Bool := bit d (8 * 80 + 11)
def qdRewet (d : Nat) : Bool := bit d (8 * 80 + 12)
def qdValid (d : Nat) : Bool := bit d (8 * 80 + 15)
def qdNflk (d : Nat) : Nat := fld d 82 0 6
def qdSgregion (d : Nat) : Nat := fld d 84 0 12
def qdThresht (d : Nat) : Nat := fld d 86 0 16
def qdThreshc (d : Nat) : Nat := fld d 88 0 16

/-- Class of a QD's format: 1 for class I, 2 for class G, 0 for a reserved code. -/
def qdClass (d : Nat) : Nat := if qdFormat d ≤ 2 then 1 else if qdFormat d ≤ 5 then 2 else 0

/-- A QD as it stands in memory. -/
def State.qdMem (s : State) (n : Nat) : Nat := s.rdN (s.obj (okey 0x2610 1) + 128 * n) 128
/-- A QD as last read by the sequencer (2690/03). -/
def State.qd (s : State) (n : Nat) : Nat := FMap.get 0 s.qds n

/-- Byte offset of element (i, j) of a tile-blocked matrix of C columns and element size e (R65). -/
def tileOff (c e i j : Nat) : Nat := e * (256 * (i / 16 * cdiv c 16 + j / 16) + 16 * (i % 16) + j % 16)

/-- An operand of a product: its stream's role, element format (codes of `elemVal`), effective descriptor, base, the
extent the work order gives it, whether it is read turned (R66), its QD if it runs quantised. -/
structure Operand where
  role : Nat := 0
  fmt : Nat := 0
  desc : Nat := 0
  base : Nat := 0
  rows : Nat := 0
  cols : Nat := 0
  turned : Bool := false
  qd : Option Nat := none
deriving DecidableEq, Repr

/-- Package address of stored element (i, j) of an operand, or none where it is delivered as zero (R237, R238). -/
def Operand.addr (o : Operand) (i j : Nat) : Option Nat :=
  if o.rows ≤ i ∨ o.cols ≤ j then none
  else
    let e := sdEsize o.desc
    if sdTiled o.desc then
      let t : Int := (16 * sdTrow0 o.desc + i : Nat) - sdShift o.desc
      let c := 16 * sdTcol0 o.desc + j
      if t < 0 then none
      else
        let r := t.toNat
        if r < sdSeglo o.desc ∨ sdSeghi o.desc ≤ r ∨ sdLrows o.desc ≤ r ∨ sdLcols o.desc ≤ c then none
        else some (o.base + tileOff (sdLcols o.desc) e r c)
    else
      let off := tileOff o.cols e i j
      let n := sdRunLen o.desc
      some (sdRunAddr o.desc o.base (off / n) + off % n)

/-- The stored tile of element (i, j) is none of the tiles that the descriptor's runs name (R237): nothing says what is delivered
for it (log entry 31). -/
def Operand.outside (o : Operand) (i j : Nat) : Bool :=
  sdTiled o.desc &&
    (let r := (((16 * sdTrow0 o.desc + i : Nat) : Int) - sdShift o.desc).toNat / 16
     !(decide (sdTrow0 o.desc ≤ r) && decide (r < sdTrow0 o.desc + sdExt o.desc 1) && decide (j / 16 < sdExt o.desc 0)))

/-- A code that the stream does not fetch. -/
def Operand.open (o : Operand) (i j : Nat) : Nat := Config.unstated 31 [o.desc, i, j] % 256 ^ sdEsize o.desc

/-- Which product part a pan runs. -/
inductive PartKind where
  | dx | dw | product
deriving DecidableEq, Repr

/-- A product part: its dimensions M, N and K, chunk length in effect, shape, operands, window mode or bit-0 exponent,
class, and split factor. In a dual draw the part is that of one slab (R113). -/
structure Plan where
  kind : PartKind := .dx
  m : Nat := 0
  n : Nat := 0
  k : Nat := 0
  l : Nat := 32
  shape : Nat := 0
  st : Operand := {}
  mv : Operand := {}
  win : Bool := false
  w : Int := 0
  cls : Nat := 0
  z : Nat := 1
  /-- first output row and first reduction index of the slab -/
  row0 : Nat := 0
  red0 : Nat := 0
deriving DecidableEq, Repr

/-- Rows and columns of a shape's block (R75); shape 5 forms one row of 64 outputs. -/
def blockRows (shape : Nat) : Nat := match shape with
  | 0 => 16 | 1 => 32 | 2 => 64 | 3 => 16 | 4 => 256 | _ => 1
def blockCols (shape : Nat) : Nat := match shape with
  | 0 => 64 | 1 => 32 | 2 => 16 | 3 => 16 | 4 => 4 | _ => 64

/-- Arrays a shape uses: the four arrays, array 0, or the thin path (4). -/
def shapeArrays (shape : Nat) : List Nat := if shape = 3 then [0] else if shape = 5 then [4] else [0, 1, 2, 3]

/-- Cells of an array under a shape. -/
def shapeCells (shape : Nat) : Nat := if shape = 5 then 64 else 256
/-- Cells of one row of an array, as the drain unit takes them (R75, R77). -/
def rowCells (shape : Nat) : Nat := if shape = 4 ∨ shape = 5 then 64 else 16

/-- Block row and column of a cell of an array (R75, R77, R78). -/
def cellPlace (shape a n : Nat) : Nat × Nat :=
  match shape with
  | 0 => (n / 16, 16 * a + n % 16)
  | 1 => (16 * (a / 2) + n / 16, 16 * (a % 2) + n % 16)
  | 2 => (16 * a + n / 16, n % 16)
  | 3 => (n / 16, n % 16)
  | 4 => (64 * a + n % 64, n / 64)
  | _ => (0, n)

/-- Demand level of a shape (R371). -/
def shapeDemand (shape : Nat) : Nat := if shape ≤ 2 then 16 else if shape = 4 then 12 else if shape = 3 then 7 else 4

-- formats of a pair, R29: 0 E4M3, 1 E5M2, 2 INT8, 5 MXINT8, 6 BF16
def baseFmt (f : Nat) : Nat := if f = 3 then 0 else if f = 4 then 1 else f

/-- Bit-0 exponent of an exact pair; `some none` for window mode; none for a pair R30 refuses. -/
def pairWeight (f g : Nat) : Option (Option Int) :=
  let a := baseFmt f
  let b := baseFmt g
  if (a = 0 ∧ b = 1) ∨ (a = 1 ∧ b = 0) then some (some (-25))
  else if a = 0 ∧ b = 0 then some (some (-18))
  else if a = 2 ∧ b = 2 then some (some 0)
  else if a = 5 ∧ b = 5 then some (some (-12))
  else if (a = 6 ∧ (b = 0 ∨ b = 1 ∨ b = 6)) ∨ (b = 6 ∧ (a = 0 ∨ a = 1)) then some none
  else none

/-- A descriptor that reads a source as BF16 in place of its own BASE and ESIZE (R193). -/
def rewetDesc (d src : Nat) : Nat := d - pack 0 52 (sdBase d) + pack 0 52 src - pack (8 * 16 + 4) 2 (fld d 16 4 2) + pack (8 * 16 + 4) 2 1

/-- One operand as a work order names it: descriptor address, default format, QD. -/
def State.operand (s : State) (role daddr dflt : Nat) (qdn : Option Nat) (cls : Nat) (rewet : Bool) (base : Option Nat)
    (rows cols : Nat) (turned : Bool) : Operand :=
  let d := s.streamDesc daddr
  match (if cls = 0 then none else qdn) with
  | none => { role := role, fmt := dflt, desc := d, base := base.getD (sdBase d), rows := rows, cols := cols, turned := turned }
  | some n =>
    let q := s.qd n
    if rewet then
      { role := role, fmt := 6, desc := rewetDesc d (qdSrcaddr q), base := qdSrcaddr q, rows := rows, cols := cols, turned := turned }
    else { role := role, fmt := qdFormat q, desc := d, base := base.getD (sdBase d), rows := rows, cols := cols, turned := turned, qd := some n }

/-- Group size that limits the chunk length (R36). -/
def State.groupLimit (s : State) (cls : Nat) (o : Operand) (l : Nat) : Nat :=
  match o.qd with
  | some n => if cls = 2 then min l (qdG (s.qd n)) else l
  | none => l

def chunkLen (w : Nat) : Nat := 32 * 2 ^ woLcode w

/-- Complete a plan from its operands: chunk length, window mode and weight. A rewet work order runs as BF16 by BF16 in window
mode, its operands without a QD widened (R193). -/
def State.mkPlan (s : State) (p : Plan) (l : Nat) (rewet : Bool := false) : Plan :=
  let l := s.groupLimit p.cls p.st (s.groupLimit p.cls p.mv l)
  if rewet then { p with l := l, win := true } else
  match pairWeight p.st.fmt p.mv.fmt with
  | some (some w) => { p with l := l, w := w }
  | _ => { p with l := l, win := true }

/-- Height of a slab of a dual draw, or the whole of T (R113). -/
def slabHeight (k : Kind) (w : Nat) : Nat := if k = .dual then chunkLen w * 2 ^ woHcode w else woT w
def slabs (k : Kind) (w : Nat) : Nat := if k = .dual then woT w / slabHeight k w else 1

/-- The DX plan of a slab (R94, R113): dY as stored, W turned, reduced over o. -/
def State.dxPlan (s : State) (o : Order) (slab : Nat) : Plan :=
  let w := o.raw
  let rewet := o.rewet
  let cls := if rewet then 0 else woClass w
  let c := woClass w
  let h := slabHeight o.kind w
  s.mkPlan { kind := .dx, m := h, n := woI w, k := woO w, shape := woShape w, cls := cls, row0 := slab * h,
             st := s.operand 0 (woDydesc w) 1 (woQd w 0) c rewet none (woT w) (woO w) false,
             mv := s.operand 1 (woWdesc w) 0 (woQd w 1) c rewet (some (s.slotAddr (woLayer w) (woWslot w))) (woI w) (woO w) true }
    (chunkLen w) (rewet && c ≠ 0)

/-- The DW plan of a slab: X turned, dY as stored, reduced over t. In a dual draw dY is the stationary stream of the
DX part (role 0) and X the third stream (role 2). -/
def State.dwPlan (s : State) (o : Order) (slab : Nat) : Plan :=
  let w := o.raw
  let rewet := o.rewet
  let cls := if rewet then 0 else woClass w
  let c := woClass w
  let h := slabHeight o.kind w
  let dual := o.kind = .dual
  s.mkPlan { kind := .dw, m := woI w, n := woO w, k := h, shape := if dual then woShape2 w else woShape w, cls := cls, red0 := slab * h,
             z := if dual then 1 else 2 ^ woZcode w,
             st := s.operand (if dual then 2 else 0) (woXdesc w) 0 (woQd w 2) c rewet none (woT w) (woI w) true,
             mv := s.operand (if dual then 0 else 1) (woDydesc w) 1 (woQd w 0) c rewet none (woT w) (woO w) false }
    (chunkLen w) (rewet && c ≠ 0)

/-- The PRODUCT plan (R140): X and W as stored, reduced over i. `xbase` replaces the descriptor's BASE when an entry is
read, `xfmt` is the input's format. -/
def State.productPlan (s : State) (o : Order) (xbase : Option Nat) (xfmt : Nat) : Plan :=
  let w := o.raw
  let rewet := o.rewet
  let cls := if rewet then 0 else woClass w
  let c := woClass w
  s.mkPlan { kind := .product, m := woT w, n := woO w, k := woI w, shape := woShape w, cls := cls,
             st := s.operand 0 (woA w 0) xfmt (woBqd w 0) c rewet xbase (woT w) (woI w) false,
             mv := s.operand 1 (woA w 1) 0 (woBqd w 1) c rewet (some (s.slotAddr (woLayer w) (woWslot w))) (woI w) (woO w) false }
    (chunkLen w) (rewet && c ≠ 0)

def Plan.toWindrow (p : Plan) : Bool := p.kind == .dw

-- block sets, R95
def Plan.setRows (p : Plan) : Nat := if p.toWindrow && p.shape = 5 then 16 else blockRows p.shape
def Plan.setCols (p : Plan) : Nat := if p.toWindrow && p.shape = 4 then 16 else blockCols p.shape
def Plan.sets (p : Plan) : Nat := cdiv p.m p.setRows * cdiv p.n p.setCols
/-- First output row and column of set b. -/
def Plan.setOrigin (p : Plan) (b : Nat) : Nat × Nat := (b / cdiv p.n p.setCols * p.setRows, b % cdiv p.n p.setCols * p.setCols)
/-- Blocks of set b: those of its up to 4 or 16 that the product reaches. -/
def Plan.blocks (p : Plan) (b : Nat) : Nat :=
  let (r, c) := p.setOrigin b
  if p.toWindrow && p.shape = 4 then min 4 (cdiv (p.n - c) 4)
  else if p.toWindrow && p.shape = 5 then min 16 (p.m - r)
  else 1
/-- First output row and column of block k of set b. -/
def Plan.origin (p : Plan) (b k : Nat) : Nat × Nat :=
  let (r, c) := p.setOrigin b
  if p.toWindrow && p.shape = 4 then (r, c + 4 * k) else if p.toWindrow && p.shape = 5 then (r + k, c) else (r, c)

/-- Chunks of a block's reduction, and those of part z (R96). -/
def Plan.chunks (p : Plan) : Nat := cdiv p.k p.l
def Plan.first (p : Plan) (z : Nat) : Nat := z * p.chunks / p.z
/-- Passes of chunk j (R61). -/
def Plan.passes (p : Plan) (j : Nat) : Nat := cdiv (min p.l (p.k - j * p.l)) 16

/-- A part dealt to a pan: slab, whether it is the DW part of a dual draw, block set, part number. -/
structure Part where
  slab : Nat := 0
  dw : Bool := false
  b : Nat := 0
  z : Nat := 0
deriving DecidableEq, Repr

/-- Parts of a plan that are dealt to pan u of n pans (R96). -/
def Plan.dealt (p : Plan) (u n : Nat) : Nat := (p.sets * p.z + n - 1 - u) / n

/-- What a set of plans a work order runs: the plan of a part. PRODUCT takes its input from `xin`. -/
def State.partPlan (s : State) (o : Order) (pt : Part) : Plan :=
  match o.kind with
  | .dx => s.dxPlan o 0
  | .dw => s.dwPlan o 0
  | .dual => if pt.dw then s.dwPlan o pt.slab else s.dxPlan o pt.slab
  | _ =>
    let ent := woEntin o.raw
    if ent < 16384 then s.productPlan o (some (enAddr (s.entryRec ent))) (inFmt (enFormat (s.entryRec ent)))
    else s.productPlan o none (inFmt (woIfmt o.raw))

end Sys2Proof.Machine
end

