-- ==== Sys2Proof/Machine/Pans.lean ====
section
/-! DEFINITION. What a pan does for a product work order: the parts dealt to it (R96, R97, R113), the values its cells
form (R31, R33, R54, R55, R186), hand-off and promotion (R37, R41, R98, R99, R188, R194), crusts (R82 to R89). -/

namespace Sys2Proof.Machine

/-- Number of pan p among the pans of a mask (R95). -/
def panIndex (mask p : Nat) : Nat := 64 * ((hubsOf mask).findIdx (fun h => h = p / 64)) + p % 64

/-- Part k of pan u of n (R96, R113). -/
def State.partAt (s : State) (o : Order) (u n k : Nat) : Option Part :=
  match o.kind with
  | .dual =>
    let nd := (s.dxPlan o 0).dealt u n
    let nw := (s.dwPlan o 0).dealt u n
    if nd + nw = 0 then none
    else
      let slab := k / (nd + nw)
      let r := k % (nd + nw)
      if slabs .dual o.raw ≤ slab then none
      else if r < nd then some { slab := slab, b := u + r * n }
      else some { slab := slab, dw := true, b := u + (r - nd) * n }
  | _ =>
    let p := s.partPlan o {}
    let q := u + k * n
    if p.sets * p.z ≤ q then none else some { dw := p.toWindrow, b := q / p.z, z := q % p.z }

-- flakes, R188
/-- The flake list of the X operand of a plan: its columns, in ascending order. -/
def State.flakes (s : State) (p : Plan) : List Nat :=
  if p.kind == .dx then []
  else match p.st.qd with
    | none => []
    | some n => let d := s.qd n; (List.range (qdNflk d)).map (fun k => s.rdN (qdFlkladdr d + 4 * k) 4)

/-- Zero point of unit u of an operand (R185, R186). -/
def State.zeroPoint (s : State) (o : Operand) (u : Nat) : Int :=
  match o.qd with
  | none => 0
  | some n => let d := s.qd n
    if qdZp d then toSigned 8 (s.rd8 (qdZaddr d + (if qdGran d = 0 then 0 else u))).toNat else 0

/-- Output element (i, o) is formed by the arrays or the thin path: inside the product and, in DW, trained under the mask
that the work order read at its admission (R98, R109). Coordinates are those of the whole product. -/
def State.formed (s : State) (ord : Order) (p : Plan) (i j : Nat) : Bool :=
  decide (i < p.row0 + p.m) && decide (j < p.n) &&
  (if p.toWindrow then
    match s.target? ord.raw with
    | none => false
    | some t => let (x, y) := t.elem i j; trained ord.mask (s.regionDesc t.region) x y
   else true)

/-- All elements of a block set are masked: its parts are skipped (R109). -/
def State.setSkipped (s : State) (ord : Order) (p : Plan) (b : Nat) : Bool :=
  p.toWindrow &&
    (let (r, c) := p.setOrigin b
     (List.range p.setRows).all (fun i => (List.range p.setCols).all (fun j => !(s.formed ord p (r + i) (c + j)))))

/-- Tile columns of an operand of DW that only parts skipped under the mask use: those of X, by output row, or of dY, by output
column (R109). -/
def State.hiddenCols (s : State) (ord : Order) (p : Plan) (x : Bool) : List Nat :=
  if ord.mask.isEmpty then []
  else (List.range (cdiv (if x then p.m else p.n) 16)).filter (fun q => (List.range p.sets).all (fun b =>
    let (r, c) := p.setOrigin b
    !(if x then overlaps r p.setRows (16 * q) 16 else overlaps c p.setCols (16 * q) 16) || s.setSkipped ord p b))

/-- Runs of an operand's stream that hold nothing but hidden tile columns. -/
def Operand.hiddenRuns (o : Operand) (cols : List Nat) : List Nat :=
  if cols.isEmpty then []
  else (List.range (sdRuns o.desc)).filter (fun k =>
    if sdTiled o.desc then cols.contains ((sdIndex o.desc k).getD 0 0)
    else
      let t := 256 * sdEsize o.desc
      let n := sdRunLen o.desc
      (List.range ((k * n + n - 1) / t + 1 - k * n / t)).all (fun i => cols.contains ((k * n / t + i) % cdiv o.cols 16)))

/-- The first part from k on that is not skipped; `fuel` bounds the search. -/
def State.nextPart (s : State) (o : Order) (u n : Nat) : Nat → Nat → Nat
  | 0, k => k
  | fuel + 1, k =>
    match s.partAt o u n k with
    | none => k
    | some pt => if s.setSkipped o (s.partPlan o pt) pt.b then s.nextPart o u n fuel (k + 1) else k

/-- Bound on the parts of a pan. -/
def State.partBound (s : State) (o : Order) : Nat :=
  slabs o.kind o.raw * ((s.dxPlan o 0).sets + (s.dwPlan o 0).sets * (s.dwPlan o 0).z + (s.partPlan o {}).sets) + 1

/-- Cursor at the first pass of part k. -/
def State.startOf (s : State) (o : Order) (u n k : Nat) : Cursor :=
  let k := s.nextPart o u n (s.partBound o) k
  match s.partAt o u n k with
  | none => { part := k }
  | some pt => { part := k, chunk := (s.partPlan o pt).first pt.z }

/-- Cursor at the pass after a cursor's (R97). -/
def State.nextPass (s : State) (o : Order) (u n : Nat) (c : Cursor) : Cursor :=
  match s.partAt o u n c.part with
  | none => c
  | some pt =>
    let p := s.partPlan o pt
    if c.pass + 1 < p.passes c.chunk then { c with pass := c.pass + 1, beat := 0 }
    else if c.blk + 1 < p.blocks pt.b then { c with blk := c.blk + 1, pass := 0, beat := 0 }
    else if c.chunk + 1 < p.first (pt.z + 1) then { c with chunk := c.chunk + 1, blk := 0, pass := 0, beat := 0 }
    else s.startOf o u n (c.part + 1)

/-- From a cursor on, the first pass that an array takes part in: parts of a dual draw whose shape leaves it out are passed
over (R75, R113); `fuel` bounds the parts. -/
def State.passFor (s : State) (o : Order) (u n a : Nat) : Nat → Cursor → Cursor
  | 0, c => c
  | fuel + 1, c =>
    match s.partAt o u n c.part with
    | none => c
    | some pt => if (shapeArrays (s.partPlan o pt).shape).contains a then c else s.passFor o u n a fuel (s.startOf o u n (c.part + 1))

/-- The pass of array a after a cursor's. -/
def State.nextLoad (s : State) (o : Order) (u n a : Nat) (c : Cursor) : Cursor :=
  s.passFor o u n a (s.partBound o) (s.nextPass o u n c)

/-- A cursor stands at a boundary at which a stop takes effect (R81). -/
def Cursor.atBoundary (c : Cursor) : Bool := c.beat = 0 && c.pass = 0 && c.blk = 0

-- operand elements
/-- Who asks for operands: a pan's feeders for a work order; `source` lets them read a tile again from memory, as the resume
of a crust does (R88). -/
structure Feeder where
  pan : Nat
  ring : Nat
  slot : Nat
  source : Bool := false
deriving DecidableEq, Repr

/-- Where the operand area of a pan store keeps a byte of a work order's tiles (log entry 9). -/
def areaKey (r slot a : Nat) : Nat := (r * 65536 + slot) * 2 ^ 52 + a

/-- The stream of a role of a work order is Held on a hub (R245). -/
def State.roleHeld (s : State) (h r slot role : Nat) : Bool :=
  s.strm.streams.any (fun x => x.held && x.ring = r && x.slot = slot && x.role = role && s.reaches x h)

/-- A byte as a pan's feeders find it: in the stream buffers of the hub, in the operand area of the pan store (R14, R64), or,
at a resume, at its source. While a word of the area has an inverted parity bit, the area gives none: the error is met, and the pan
parks (R384, R388). -/
def State.panByte (s : State) (f : Feeder) (role a : Nat) : Option Byte :=
  match s.feed (f.pan / 64) f.ring f.slot role a with
  | some b => some b
  | none =>
    match (s.pan f.pan).area.find? (fun e => !(s.pan f.pan).flipped && e.1 = areaKey f.ring f.slot a) with
    | some e => some e.2
    | none => if f.source && !(s.roleHeld (f.pan / 64) f.ring f.slot role) then some (s.rd8 a) else none

/-- Code of stationary element (output row x, reduction index k) as a pan's feeders deliver it; none while its bytes are not
at hand. -/
def State.opCode (s : State) (f : Feeder) (o : Operand) (x k : Nat) : Option Nat :=
  let (i, j) := if o.turned then (k, x) else (x, k)
  match o.addr i j with
  | none => some 0
  | some a =>
    if o.outside i j then some (o.open i j)
    else (List.range (sdEsize o.desc)).foldr (fun b acc =>
      match acc, s.panByte f o.role (a + b) with
      | some v, some y => some (v * 256 + y.toNat)
      | _, _ => none) (some 0)

/-- A stationary position is a flake: a reduction position of PRODUCT, an output row of DW (R188). -/
def State.flakeAt (s : State) (p : Plan) (x k : Nat) : Bool :=
  match p.kind with
  | .product => (s.flakes p).contains k
  | .dw => (s.flakes p).contains x
  | .dx => false

/-- Stationary code with flakes replaced: z_a or zero, whatever is stored (R188). -/
def State.stCode (s : State) (f : Feeder) (p : Plan) (x k : Nat) : Option Nat :=
  if s.flakeAt p x k then some ((s.zeroPoint p.st x + 256).toNat % 256)
  else s.opCode f p.st x k

/-- Moving code: the moving operand holds its reduction index along its rows, or, turned, along its columns. -/
def State.mvCode (s : State) (f : Feeder) (p : Plan) (y k : Nat) : Option Nat :=
  s.opCode f { p.mv with turned := !p.mv.turned } y k

/-- The 16 codes that a cell's register takes for a pass: its stationary row, or, on the thin path, its lane's own
operand (R60, R77, R78). -/
def State.regOf (s : State) (f : Feeder) (p : Plan) (row col k0 : Nat) : Option (List Nat) :=
  (List.range 16).foldr (fun b acc =>
    let k := k0 + b
    let v := if p.red0 + p.k ≤ k then some 0
      else if p.shape = 5 then s.mvCode f p col k else s.stCode f p row k
    match acc, v with
    | some l, some c => some (c :: l)
    | _, _ => none) (some [])

/-- The code a beat brings to a cell. -/
def State.beatOf (s : State) (f : Feeder) (p : Plan) (row col k : Nat) : Option Nat :=
  if p.red0 + p.k ≤ k then some 0
  else if p.shape = 5 then s.stCode f p row k else s.mvCode f p col k

/-- First output row and column of the block of a cursor, in the whole product. -/
def Plan.blockAt (p : Plan) (pt : Part) (c : Cursor) : Nat × Nat := let (r, k) := p.origin pt.b c.blk; (p.row0 + r, k)
/-- Reduction index of beat 0 of a cursor's pass. -/
def Plan.redAt (p : Plan) (c : Cursor) : Nat := p.red0 + c.chunk * p.l + 16 * c.pass

-- anchors, R54
/-- Unbiased exponent of a finite code's value; subnormals count with -126; none for a zero. An infinity or a NaN, whose
exponent R54 does not give, counts with 128 (DESIGN CHOICE, log entry 11); its chunk is non-finite (R33). -/
def expOf (fmt code : Nat) : Option Int :=
  match elemVal fmt code with
  | .fin _ m e => if m = 0 then none else some (max (e + (m.log2 : Int)) (-126))
  | _ => some 128

/-- The larger of two optional exponents. -/
def maxExp : Option Int → Option Int → Option Int
  | none, b => b
  | a, none => a
  | some a, some b => some (max a b)

/-- Largest exponent of a list of codes; none inside while a code is not at hand. -/
def maxCodes (fmt : Nat) (l : List (Option Nat)) : Option (Option Int) :=
  l.foldl (fun acc c => match acc, c with
    | some m, some c => some (maxExp m (expOf fmt c))
    | _, _ => none) (some none)

/-- The anchor of array a for the chunk of a cursor (R54), by the codes delivered; none while the chunk is not at hand.
An array that holds only zeros on one side takes anchor 0: its products are zeros. -/
def Plan.anchor (p : Plan) (st mv : Nat → Nat → Option Nat) (pt : Part) (c : Cursor) (a : Nat) : Option Int :=
  let (r0, c0) := p.blockAt pt c
  let k0 := p.red0 + c.chunk * p.l
  let n := min p.l (p.k - c.chunk * p.l)
  let places := (List.range (shapeCells p.shape)).map (cellPlace p.shape a)
  let rows := (places.map Prod.fst).eraseDups
  let cols := (places.map Prod.snd).eraseDups
  let sts := rows.flatMap (fun x => (List.range n).map (fun k => st (r0 + x) (k0 + k)))
  let mvs := cols.flatMap (fun y => (List.range n).map (fun k => mv (c0 + y) (k0 + k)))
  match maxCodes p.st.fmt sts, maxCodes p.mv.fmt mvs with
  | some (some x), some (some y) => some (x + y)
  | some _, some _ => some 0
  | _, _ => none

/-- The anchor as a pan's feeders find it. -/
def State.anchorOf (s : State) (f : Feeder) (p : Plan) (pt : Part) (c : Cursor) (a : Nat) : Option Int :=
  p.anchor (s.stCode f p) (s.mvCode f p) pt c a

-- cells
/-- The exact product of two values in units of 2^w, or rounded to the window (R29, R55); none when non-finite (R33). -/
def valUnits (x y : Val) (w : Int) : Option Int :=
  match x, y with
  | .fin s m e, .fin t n f => let k : Nat := quant false (m * n) (e + f) w; some (if s != t then -(k : Int) else k)
  | _, _ => none

/-- The product of two codes in units of 2^w. -/
def productUnits (f g a b : Nat) (w : Int) : Option Int := valUnits (elemVal f a) (elemVal g b) w

/-- A cell adds the product of a beat (R60, R31, R33, R186). -/
def Cell.add (c : Cell) (p : Plan) (real formed : Bool) (reg beat : Nat) : Cell :=
  let w := if p.win then c.anchor - 49 else p.w
  let (sa, sb) := if p.shape = 5 then (beat, reg) else (reg, beat)
  let sums : Cell := if real then { c with sumA := c.sumA + toSigned 8 sa, sumB := c.sumB + toSigned 8 sb, cnt := c.cnt + 1 } else c
  if !formed then sums
  else match productUnits p.st.fmt p.mv.fmt sa sb w with
    | some u => { sums with brine := sums.brine + BitVec.ofInt 64 u }
    | none => { sums with nonfin := true }

/-- A cell meets the oldest beat of its slot (R68): none on a tag that matches neither register. -/
def Cell.swap (c : Cell) (b : Beat) : Option Cell :=
  if c.act.tag = b.tag then some c
  else if c.full && c.shd.tag = b.tag then some { c with act := c.shd, full := false }
  else none

/-- Lane of the broadcast that a cell takes its beats from, within its array (R60, R77, R78), and the lanes of an array. -/
def laneOf (shape n : Nat) : Nat := if shape = 4 then n / 64 else if shape = 5 then 0 else n % 16
def laneCount (shape : Nat) : Nat := if shape = 4 then 4 else if shape = 5 then 1 else 16

/-- Number of the cell that stands for a lane. -/
def laneHead (shape lane : Nat) : Nat := if shape = 4 then 64 * lane else lane

/-- The tag of pass k of the work order on an array (R63). -/
def Arr.tagOf (y : Arr) (k : Nat) : Nat := (y.tag + 256 - (y.loaded - k) % 256) % 256

/-- Cells of an array, all mapped; the map keeps its canonical form. -/
def mapCells (cnt : Nat) (m : FMap Cell) (f : Nat → Cell → Cell) : FMap Cell :=
  (List.range cnt).filterMap (fun n => let c := f n (FMap.get {} m n); if c = {} then none else some (n, c))

def Pan.arr (x : Pan) (a : Nat) : Arr := FMap.get {} x.arrs a
def Pan.setArr (x : Pan) (a : Nat) (y : Arr) : Pan := { x with arrs := FMap.put {} x.arrs a y }

/-- Every lane has caught up and every slot is empty; quiet: no chunk waits for its hand-off either. -/
def Pan.slotsEmpty (x : Pan) : Bool := x.arrs.all (fun e => e.2.lag.isEmpty && e.2.cells.all (fun c => c.2.slot.isEmpty))
def Pan.quiet (x : Pan) : Bool := x.slotsEmpty && x.arrs.all (fun e => e.2.cells.all (fun c => !c.2.ended))

-- de-quantisation
/-- Scale of output unit u of an operand: FP32 of class I (R184, R185), or the group exponent of class G (R187). -/
def State.scaleOf (s : State) (cls : Nat) (o : Operand) (u k : Nat) : Val :=
  match o.qd with
  | none => .fin false 1 0
  | some n =>
    let d := s.qd n
    if cls = 2 then
      let (i, j) := if o.turned then (k, u) else (u, k)
      let a := if qdAxis d = 0 then qdSaddr d + tileOff (cdiv (qdCols d) (qdG d)) 1 i (j / qdG d)
        else qdSaddr d + tileOff (qdCols d) 1 (i / qdG d) j
      let e := (s.rd8 a).toNat
      if e = 255 then .nan else Val.pow2 ((e : Int) - 127)
    else dec32 (s.rdN (qdSaddr d + 4 * (if qdGran d = 0 then 0 else u)) 4)

/-- The scale factor s of a chunk promoted for output (i, j). -/
def State.chunkScale (s : State) (p : Plan) (i j k0 : Nat) : Val :=
  Val.mul (s.scaleOf p.cls p.st i k0) (s.scaleOf p.cls { p.mv with turned := !p.mv.turned } j k0)

/-- The value of a cell's chunk for output (i, j): zero-point correction, weight and scale (R41, R186). -/
def State.chunkValue (s : State) (p : Plan) (c : Cell) (i j k0 : Nat) : Val :=
  if c.nonfin then .nan
  else
    let b := c.brine.toInt
    let za := s.zeroPoint p.st i
    let zb := s.zeroPoint p.mv j
    let b := if p.cls = 1 then b - zb * c.sumA - za * c.sumB + c.cnt * za * zb else b
    let w := if p.win then c.anchor - 49 else p.w
    Val.mul (Val.mul (Val.ofInt b) (Val.pow2 w)) (s.chunkScale p i j k0)

-- flake contributions, R188
/-- Source value of flake k of row t (BF16 at FLKADDR, ROWS × NFLK). -/
def State.flakeVal (s : State) (d t k : Nat) : Nat := s.rdN (qdFlkaddr d + tileOff (qdNflk d) 2 t k) 2

/-- An element of the other operand, taken from memory. -/
def State.memCode (s : State) (o : Operand) (i j : Nat) : Nat := match o.addr i j with
  | none => 0
  | some a => if o.outside i j then o.open i j else s.rdN a (sdEsize o.desc)

/-- Unbiased exponent of a value, as `expOf` of a code. -/
def Val.expo : Val → Option Int
  | .fin _ m e => if m = 0 then none else some (max (e + (m.log2 : Int)) (-126))
  | _ => some 128

/-- Window sum of pairs of values, as a lane of the thin path forms it, with the largest exponents of both sides (R54, R55).
A non-finite pair makes the chunk non-finite also where the other side is all zeros: R33 is taken before R54's +0 (DEDUCED,
log entry 12). -/
def windowSum (ea eb : Option Int) (l : List (Val × Val)) : Val :=
  if l.any (fun x => !x.1.finite || !x.2.finite) then .nan
  else match ea, eb with
    | some x, some y =>
      let w := x + y - 49
      let t := l.foldl (fun (a : Int) z => a + (valUnits z.1 z.2 w).getD 0) 0
      Val.mul (Val.ofInt t) (Val.pow2 w)
    | _, _ => Val.zero

/-- Largest exponent of a list of values. -/
def maxVals (l : List Val) : Option Int := l.foldl (fun m v => maxExp m v.expo) none

/-- An element of the other operand for the thin path: output column j, reduction index k, its zero point taken off (R186,
R188; log entry 27). -/
def State.otherVal (s : State) (p : Plan) (j k : Nat) : Val :=
  let (a, b) := if p.mv.turned then (j, k) else (k, j)
  Val.sub (elemVal p.mv.fmt (s.memCode p.mv a b)) (Val.ofInt (s.zeroPoint p.mv j))

/-- The flake pairs of output row i: source value and reduction index, of the chunk at k0 of n positions (R188). -/
def State.flakePairs (s : State) (p : Plan) (i k0 n : Nat) : List (Val × Nat) :=
  match p.st.qd with
  | none => []
  | some q =>
    let d := s.qd q
    let fl := s.flakes p
    match p.kind with
    | .product =>
      ((List.range fl.length).filter (fun k => decide (k0 ≤ fl.getD k 0) && decide (fl.getD k 0 < k0 + n))).map (fun k =>
        (Fmt.bf16.decode (s.flakeVal d i k), fl.getD k 0))
    | .dw =>
      if fl.contains i then (List.range n).map (fun t => (Fmt.bf16.decode (s.flakeVal d (k0 + t) (fl.findIdx (fun x => x = i))), k0 + t)) else []
    | .dx => []

/-- The thin path's contribution to output (i, j) for the chunk at k0 of n positions, with the products formed; `cols` are the
output columns of its lanes, over which the anchor is common (R54, R188). The other operand's scale applies (R34, R41). -/
def State.flakeValue (s : State) (p : Plan) (i j : Nat) (cols : List Nat) (k0 n : Nat) : Option (Val × Nat) :=
  let ps := s.flakePairs p i k0 n
  if ps.isEmpty then none
  else
    let ea := maxVals (ps.map Prod.fst)
    let eb := maxVals (cols.flatMap (fun y => ps.map (fun x => s.otherVal p y x.2)))
    let v := windowSum ea eb (ps.map (fun x => (x.1, s.otherVal p j x.2)))
    some (Val.mul v (s.scaleOf p.cls { p.mv with turned := !p.mv.turned } j k0), ps.length)

/-- Output columns that the lanes of the thin path cover beside a block that begins at column c0. -/
def Plan.laneCols (p : Plan) (c0 : Nat) : List Nat := ((List.range (blockCols p.shape)).map (fun y => c0 + y)).filter (fun y => decide (y < p.n))

-- scale gradients, R194, R195
/-- The QD whose learned scales a product forms gradients for: QSW in DW, QSX in DX; class I, LEARN, not a rewet. -/
def State.learnQd (s : State) (o : Order) (p : Plan) : Option Nat :=
  if o.rewet || woClass o.raw ≠ 1 then none
  else match (if p.kind == .dw then woQd o.raw 3 else if p.kind == .dx then woQd o.raw 4 else none) with
    | none => none
    | some n => if qdLearn (s.qd n) then some n else none

/-- Scale unit of element (i, j) of a QD's tensor, and the place of that unit in SGREGION. -/
def qdUnit (d i j : Nat) : Nat := if qdGran d = 0 then 0 else if qdGran d = 1 then i else j
def qdUnitElem (d u : Nat) : Nat × Nat := if qdGran d = 1 then (u, 0) else (0, u)

/-- A unit is flat by the clip record's bitmap (R190, R191). -/
def State.flatUnit (s : State) (d u : Nat) : Bool := bit (s.rd8 (qdClipaddr d + 32 + 4 * qdCols d + u / 8)).toNat (u % 8)

/-- Number of the promotion event of part z, chunk c of a slab within one set (R98): rounds ascend, then parts. -/
def Plan.eventNo (p : Plan) (slab z c : Nat) : Nat := (slab * p.chunks + (c - p.first z)) * p.z + z

/-- Add a promotion to those waiting at their home hubs. -/
def State.addPromo (s : State) (x : Promo) : State := { s with win := { s.win with promos := s.win.promos ++ [x] } }

/-- The scale-gradient contribution of one element (R194). `blk` numbers the block, `ev` its chunk event. -/
def State.scalePromo (s : State) (o : Order) (p : Plan) (ev ord i j : Nat) (v : Val) : State :=
  match s.learnQd o p with
  | none => s
  | some n =>
    let d := s.qd n
    let u := qdUnit d i j
    if s.flatUnit d u then s
    else
      let g := Fmt.bf16.decode (s.rdN (qdGaddr d + tileOff (qdCols d) 2 i j) 2)
      let x := if p.kind == .dw then dec64 (rn64 (Val.mul v g)) else Val.mul v g
      let e := qdUnitElem d u
      let (gr, el) := rgElem (s.regionDesc (qdSgregion d)) e.1 e.2
      s.addPromo { ring := o.ring, slot := o.slot, event := ev, group := groupKey (qdSgregion d) gr, elem := el, ord := ord, v := x }

/-- Number of a scale-gradient event: slab, block set, then the chunk order of its blocks (R195). -/
def Plan.scaleEvent (p : Plan) (slab b z c blk : Nat) : Nat :=
  if p.kind == .dw then (((slab * p.sets + b) * p.chunks + (c - p.first z)) * p.z + z) * 16 + blk else (slab * p.sets + b) * 16

/-- One FP32 promotion (R41, R33). -/
def promote32 (d : Nat) (v : Val) : Nat := match v with
  | .nan => f32nan
  | v => rn32 (Val.add (dec32 d) v)

/-- Count a converted output (R56, R57): the counter, and event 0x0310 for the first one of the work order. -/
def State.countOut (s : State) (r slot sub : Nat) : State :=
  if sub = 0 then s
  else
    let s := s.bump64 (okey 0x2311 sub)
    if sub = 4 then s
    else if (s.order? r slot).any (fun o => bit o.events evSaturated) then s
    else (s.event 0x0310).orderEvent r slot evSaturated

/-- Output base and format of a product that writes memory. -/
def State.outBase (s : State) (o : Order) : Nat × Nat :=
  match o.kind with
  | .boil _ =>
    if woEntout o.raw < 16384 then (enAddr (s.comingOf o (woEntout o.raw)), woBOfmt o.raw) else (woA o.raw 3, woBOfmt o.raw)
  | _ => (woDxbase o.raw, woOfmt o.raw)

/-- Join pieces that lie end to end. -/
def joinWrites : List (Nat × List Byte) → List (Nat × List Byte)
  | [] => []
  | (a, l) :: t =>
    match joinWrites t with
    | (b, m) :: u => if a + l.length = b then (a, l ++ m) :: u else (a, l) :: (b, m) :: u
    | [] => [(a, l)]

/-- A non-finite chunk promoted into an FP32 total is counted like one promoted into the Windrow (R33). -/
def State.countNonfinite (s : State) (r slot : Nat) (v : Val) : State :=
  if v.isNan then ((s.bump64 (okey 0x2C11 4)).event 0x0C12).orderEvent r slot evNonfinite else s

/-- Place of a cell's output in the whole product, and the chunk's first position and length. -/
def Plan.outAt (p : Plan) (pt : Part) (a n : Nat) (c : Cursor) : Nat × Nat :=
  ((p.blockAt pt c).1 + (cellPlace p.shape a n).1, (p.blockAt pt c).2 + (cellPlace p.shape a n).2)
def Plan.chunkAt (p : Plan) (c : Cursor) : Nat × Nat := (p.red0 + c.chunk * p.l, min p.l (p.k - c.chunk * p.l))

/-- The thin path's part of a cell's chunk, for a plan with quantised operands. -/
def State.flakeOf (s : State) (p : Plan) (pt : Part) (a n : Nat) (c : Cursor) : Option (Val × Nat) :=
  if p.cls = 0 then none
  else s.flakeValue p (p.outAt pt a n c).1 (p.outAt pt a n c).2 (p.laneCols (p.blockAt pt c).2) (p.chunkAt c).1 (p.chunkAt c).2

/-- Pan, array and row as one number. -/
def rowKey (pn a row : Nat) : Nat := (5 * pn + a) * 16 + row

/-- A value for the Windrow goes from a row to its home hub (R98). -/
def State.handPromo (s : State) (o : Order) (p : Plan) (pt : Part) (src a n : Nat) (c : Cursor) (v : Val) : State :=
  match s.target? o.raw with
  | none => s
  | some t =>
    let (u, w) := t.elem (p.outAt pt a n c).1 (p.outAt pt a n c).2
    let (g, e) := rgElem (s.regionDesc t.region) u w
    let (x, y) := cellPlace p.shape a n
    s.addPromo { ring := o.ring, slot := o.slot, event := p.eventNo pt.slab pt.z c.chunk, group := groupKey t.region g, elem := e,
                 ord := x * blockCols p.shape + y, v := v, src := src, part := c.part }

/-- The thin path hands off a flake row's chunk in DW (R82, R188). -/
def State.handFlake (s : State) (o : Order) (p : Plan) (pt : Part) (src a n : Nat) (c : Cursor) : State :=
  match s.flakeOf p pt a n c with
  | none => s
  | some f => (s.bump 64 (okey 0x2611 8) f.2).handPromo o p pt src a n c f.1

/-- One cell of a row is handed to the drain unit (R37, R41, R82, R98, R99, R188, R194). The state, the pan's drain
registers, and the pieces of output written. `thin`: a flake row's own chunk goes too. -/
def State.handCell (s : State) (o : Order) (p : Plan) (pt : Part) (src a n : Nat) (thin : Bool) (c : Cell) (drain : FMap Nat) :
    State × FMap Nat × List (Nat × List Byte) :=
  let (i, j) := p.outAt pt a n c.at_
  let (x, y) := cellPlace p.shape a n
  let ord := x * blockCols p.shape + y
  if !(s.formed o p i j) then (s, drain, [])
  else if p.toWindrow then
    (if s.flakeAt p i 0 then (if thin then s.handFlake o p pt src a n c.at_ else s, drain, [])
     else
       let v := s.chunkValue p c i j (p.chunkAt c.at_).1
       let s := s.handPromo o p pt src a n c.at_ v
       (s.scalePromo o p (p.scaleEvent pt.slab pt.b pt.z c.at_.chunk c.at_.blk) ord i j v, drain, []))
  else
    let v := s.chunkValue p c i j (p.chunkAt c.at_).1
    let fl := s.flakeOf p pt a n c.at_
    let s := s.countNonfinite o.ring o.slot v
    let s := match fl with
      | some f => (s.bump 64 (okey 0x2611 8) f.2).countNonfinite o.ring o.slot f.1
      | none => s
    let key := 256 * (a % 4) + n
    let d := promote32 (FMap.get 0 drain key) v
    let d := match fl with
      | some f => promote32 d f.1
      | none => d
    if c.at_.chunk + 1 < p.first (pt.z + 1) then (s, FMap.put 0 drain key d, [])
    else
      let (base, fm) := s.outBase o
      let (code, sub) := convert fm (woInf o.raw) (dec32 d)
      let s := s.countOut o.ring o.slot sub
      let s := s.scalePromo o p (p.scaleEvent pt.slab pt.b 0 0 0) ord i j (dec32 d)
      (s, FMap.put 0 drain key 0, [(base + tileOff p.n (ofmtSize fm) i j, leBytes (ofmtSize fm) code)])

/-- The cell whose place stands for a row at its hand-off: rows of 64 cells begin at another cell than rows of 16 (R75, R77). -/
def Arr.rowHead (y : Arr) (row : Nat) : Cell :=
  let c := FMap.get ({} : Cell) y.cells (16 * row)
  if c.ended then c else FMap.get {} y.cells (64 * row)

/-- A cell after its hand-off: the next chunk begins at zero (R31, R37). -/
def Cell.emptied (c : Cell) : Cell := { act := c.act, shd := c.shd, full := c.full, slot := c.slot }

/-- Cells of a row of an array, by number. -/
def rowOf (shape row : Nat) : List Nat := (List.range (rowCells shape)).map (fun k => row * rowCells shape + k)

/-- Hand off one row of an array (R37). -/
def State.handRow (s : State) (o : Order) (pn a row : Nat) (thin : Bool) : State :=
  let x := s.pan pn
  let y := x.arr a
  match s.partAt o (panIndex (woMask o.raw) pn) (pansOf (woMask o.raw)) ((y.rowHead row).at_.part) with
  | none => s
  | some pt0 =>
    let p := s.partPlan o pt0
    let ns := rowOf p.shape row
    let (s, d, ws) := ns.foldl (fun (acc : State × FMap Nat × List (Nat × List Byte)) n =>
      let (s, d, w) := acc.1.handCell o p pt0 (rowKey pn a row) a n thin (FMap.get {} y.cells n) acc.2.1
      (s, d, acc.2.2 ++ w)) (s, x.drain, [])
    let cells := mapCells (shapeCells p.shape) y.cells (fun n c => if ns.contains n then c.emptied else c)
    let s := s.setPan pn { (s.pan pn).setArr a { y with cells := cells } with drain := d }
    s.output (pn / 64) o.ring o.slot (joinWrites ws)

-- crust headers, R85
def ckValid (c : Nat) : Bool := bit c 0
def ckCause (c : Nat) : Nat := bits c 1 3
def ckKeep (c : Nat) : Nat := bits c 4 4
def ckDrain (c : Nat) : Nat := bits c 8 4
def ckBf16 (c : Nat) : Nat := bits c 12 1
def ckShape (c : Nat) : Nat := bits c 13 3
def ckLcode (c : Nat) : Nat := bits c 16 3
def ckRing (c : Nat) : Nat := bits c 32 4
def ckSlot (c : Nat) : Nat := bits c 36 16
def ckChunk (c : Nat) : Nat := bits c 64 32
def ckBlock (c : Nat) : Nat := bits c 96 32
def ckPass (c : Nat) : Nat := bits c 160 32

/-- The slot holds a crust (VALID, R85); the slot once it no longer does: header and body stay as they are otherwise. -/
def Crust.valid (c : Crust) : Bool := ckValid c.hdr
def Crust.dropped (c : Crust) : Crust := { c with hdr := setBit c.hdr 0 false }

/-- Number of crusts a pan holds. -/
def Pan.crusts (x : Pan) : Nat := b2n x.crust0.valid + b2n x.crust1.valid

/-- Word n of array a's section of a crust (R84). -/
def Crust.word (c : Crust) (a n : Nat) : Nat :=
  if !c.park && bit (ckDrain c.hdr) a then FMap.get 0 c.drain (256 * a + n)
  else if c.park || bit (ckKeep c.hdr) a then (FMap.get {} (FMap.get {} c.arrs a).cells n).brine.toNat
  else 0

/-- The 8 KiB of a crust slot (R84): brine form 8 bytes a cell, drain form 4 bytes a cell with the upper half zero. A slot that
has never been written reads zeros (DESIGN CHOICE, log entry 14). -/
def Crust.body (c : Crust) : List Byte :=
  (List.range 4).flatMap (fun a =>
    if !c.park && bit (ckDrain c.hdr) a then (List.range 256).flatMap (fun n => leBytes 4 (c.word a n)) ++ List.replicate 1024 0
    else (List.range 256).flatMap (fun n => leBytes 8 (c.word a n)))

/-- Brine of all cells, in the same layout (4000 + p/07). -/
def Pan.liveBrine (x : Pan) : List Byte :=
  (List.range 4).flatMap (fun a => (List.range 256).flatMap (fun n => leBytes 8 (FMap.get {} (x.arr a).cells n).brine.toNat))

/-- Passes of the block completed up to the boundary that ends chunk j of a part. -/
def Plan.passesTo (p : Plan) (pt : Part) (j : Nat) : Nat :=
  (((List.range (j + 1)).filter (fun i => decide (p.first pt.z ≤ i))).map p.passes).sum * p.blocks pt.b

/-- An array that has left a work order: its active registers, its next tag (loads not used are loaded again) and whether it
ripples next stay. -/
def Arr.rest (y : Arr) : Arr :=
  { rippleNext := y.rippleNext, tag := y.tagOf y.pass
    cells := y.cells.filterMap (fun e => let c : Cell := { act := e.2.act }; if c = {} then none else some (e.1, c)) }

/-- A pan that has left a work order: what stays is its crusts, its level and step, and what its arrays keep. -/
def Pan.clear (x : Pan) : Pan :=
  { x with state := .idle, job := none, cur := {}, issued := false, stopCause := 0, resumeHeld := false, drain := [],
           demand := 0, arrs := x.arrs.filterMap (fun e => if e.2.rest = {} then none else some (e.1, e.2.rest)) }

/-- A crust of a work order. -/
def Crust.holds (c : Crust) (r slot : Nat) : Bool := c.valid && ckRing c.hdr = r && ckSlot c.hdr = slot
def Pan.holdsCrust (x : Pan) (r slot : Nat) : Bool := x.crust0.holds r slot || x.crust1.holds r slot

/-- Discard the crusts of a pan that satisfy p (R89): the pan and how many. -/
def Pan.discardIf (x : Pan) (p : Crust → Bool) : Pan × Nat :=
  let mine (c : Crust) : Bool := c.valid && p c
  ({ x with crust0 := if mine x.crust0 then x.crust0.dropped else x.crust0, crust1 := if mine x.crust1 then x.crust1.dropped else x.crust1 },
   b2n (mine x.crust0) + b2n (mine x.crust1))

/-- Discard the crusts of a work order that a pan holds. -/
def Pan.discard (x : Pan) (r slot : Nat) : Pan × Nat := x.discardIf (fun c => c.holds r slot)

/-- Discard the crusts that satisfy p in every pan, and count them (2D10/03). -/
def State.discardCrusts (s : State) (p : Crust → Bool) : State :=
  ({ s with pans := FMap.mapv {} s.pans (fun _ x => (x.discardIf p).1) }).bump 64 (okey 0x2D10 3)
    (s.pans.map (fun (e : Nat × Pan) => (e.2.discardIf p).2)).sum

/-- The operand area without the tiles of a work order (R14). -/
def Pan.dropArea (x : Pan) (r slot : Nat) : Pan :=
  { x with area := x.area.filter (fun e => e.1 < areaKey r slot 0 || areaKey r slot (2 ^ 52) ≤ e.1) }

/-- A pan has nothing left to do for a product work order. -/
def State.panFinished (s : State) (o : Order) (pn : Nat) : Bool :=
  let x := s.pan pn
  (s.partAt o (panIndex (woMask o.raw) pn) (pansOf (woMask o.raw)) x.cur.part).isNone && x.quiet && !(x.holdsCrust o.ring o.slot)

end Sys2Proof.Machine
end

