-- ==== Sys2Proof/Machine/Checks.lean ====
section
/-! DEFINITION. The checks that the sequencer makes on a work order before admission (R286, R406, R407) and those of the
chapters that define the work orders. Each answers the codes of the checks in order; the first that fails is CODE. -/

namespace Sys2Proof.Machine

/-- The code of the first failed check. -/
def firstBad (l : List (Bool × Nat)) : Option Nat := (l.find? (fun c => c.1)).map Prod.snd

/-- Kinds with a field LCODE (R406): every value is a chunk length. Kinds with OFMT narrower outputs have every code
defined. This is the list of the fields whose codes or ranges can be broken (R286), by kind. -/
def fieldsBad (k : Kind) (w : Nat) : Bool :=
  (k.shaped && (woShape w > 5 || woClass w = 3 || (woBcast w && !(bit (woMask w) (woBhub w))))) ||
  (match k with
   | .dx => woT w = 0 || woI w = 0 || woO w = 0
   | .dw => woT w = 0 || woI w = 0 || woO w = 0 || woZcode w = 7
   | .dual => woT w = 0 || woI w = 0 || woO w = 0 || woShape2 w > 5
   | .boil b =>
     if 9 ≤ b then woRot w = 3
     else
       let entry (e : Nat) : Bool := !(decide (e < 16384) || e = 0xFFFD)
       woT w = 0 || woI w = 0 || entry (woEntin w) || entry (woEntout w) || (woEntin w = 0xFFFD && woIfmt w = 3 && b ≠ 0) ||
         (b = 0 && (woO w = 0 || (woEntin w = 0xFFFD && woIfmt w = 3))) || ((b = 5 || b = 6) && woFn w > 7)
   | .attb => woRot w = 3
   | .vpub => woCount w = 0 || decide (4096 < woVlayer w + woCount w) || woPubbase w % 16 ≠ 0
   | .stream => woSetbase w % 64 ≠ 0
   | _ => false)

/-- Width limits of R141. -/
def widthBad (b d : Nat) : Bool :=
  if b = 1 ∨ b = 2 then decide (65536 < d) else if b = 3 ∨ b = 4 then decide (262144 < d) else false

/-- Quantisation descriptors that a work order names, by position in its map, with the extent and the role of the
tensor: scale units and group axes permitted, and whether flakes are (R183, R184, R187, R188). -/
structure Named where
  qd : Nat
  rows : Nat
  cols : Nat
  grans : List Nat
  axes : List Nat
  flakes : Bool

def named (k : Kind) (w : Nat) : List Named :=
  let t := woT w
  let i := woI w
  let o := woO w
  let mk (q : Option Nat) (r c : Nat) (g a : List Nat) (f : Bool) : List Named :=
    match q with
    | none => []
    | some n => [⟨n, r, c, g, a, f⟩]
  if woClass w = 0 then []
  else match k with
    | .dx => mk (woQd w 0) t o [0, 1] [0] false ++ mk (woQd w 1) i o [0, 1] [0] false ++ mk (woQd w 4) t i [0, 1, 2] [0, 1] true
    | .dw => mk (woQd w 0) t o [0, 2] [1] false ++ mk (woQd w 2) t i [0, 2] [1] true ++ mk (woQd w 3) i o [0, 1, 2] [0, 1] true
    | .dual => mk (woQd w 0) t o [0] [] false ++ mk (woQd w 1) i o [0, 1] [0] false ++ mk (woQd w 2) t i [0, 2] [1] true ++
        mk (woQd w 3) i o [0, 1, 2] [0, 1] true ++ mk (woQd w 4) t i [0, 1, 2] [0, 1] true
    | .boil 0 => mk (woBqd w 0) t i [0, 1] [0] true ++ mk (woBqd w 1) i o [0, 2] [1] false
    | _ => []

/-- The cases of R183 that concern one descriptor. -/
def State.qdBad (s : State) (cls : Nat) (x : Named) : Bool :=
  let d := s.qdMem x.qd
  decide (s.obj (okey 0x2610 2) ≤ x.qd) || !(qdValid d) || qdClass d ≠ cls || qdNflk d > 32 ||
  (cls = 1 && (qdGran d = 3 || !(x.grans.contains (qdGran d)))) ||
  (cls = 2 && (qdGcode d = 3 || !(x.axes.contains (qdAxis d)) || qdLearn d)) ||
  (qdZp d && qdFormat d ≠ 2) || decide (qdRows d < x.rows) || decide (qdCols d < x.cols) ||
  (!x.flakes && qdNflk d ≠ 0)

/-- A descriptor that reads as d is to be rewet (R193). -/
def State.rewets (s : State) (d : Nat) : Bool :=
  qdReq d || s.obj (okey 0x2690 1) = 1 || (qdAuto d && qdRewet d && s.obj (okey 0x2610 3) = 1)
/-- A descriptor in memory is to be rewet (R193). -/
def State.toRewet (s : State) (n : Nat) : Bool := s.rewets (s.qdMem n)

/-- The sequencer reads the descriptors that a work order names (2690/03). -/
def State.readQds (s : State) (l : List Nat) : State :=
  l.foldl (fun s n => if n < s.obj (okey 0x2610 2) then { s with qds := FMap.put 0 s.qds n (s.qdMem n) } else s) s

/-- The product plans of a work order. -/
def State.plansOf (s : State) (o : Order) : List Plan :=
  match o.kind with
  | .dx => [s.dxPlan o 0]
  | .dw => [s.dwPlan o 0]
  | .dual => [s.dxPlan o 0, s.dwPlan o 0]
  | .boil 0 => [s.partPlan o {}]
  | _ => []

/-- The pair of a plan is none of R29 (R30, R183), with the code. -/
def pairBad (p : Plan) : Bool × Nat :=
  ((pairWeight p.st.fmt p.mv.fmt).isNone, if p.st.qd.isSome || p.mv.qd.isSome then 0x0620 else 0x0320)

/-- An operand of a rewet work order cannot be widened to BF16: it is INT8 or MX and has no QD (R193). -/
def widenBad (p : Plan) : Bool × Nat :=
  (!([0, 1, 6].contains (baseFmt p.st.fmt) && [0, 1, 6].contains (baseFmt p.mv.fmt)), 0x0621)

/-- The element pairs of a work order, as its QDs have them, also where it is to be rewet (R183), and the widening of R193. -/
def State.pairsBad (s : State) (o : Order) : List (Bool × Nat) :=
  (s.plansOf { o with rewet := false }).map pairBad ++ (if o.rewet then (s.plansOf o).map widenBad else [])

/-- A QD that is to be rewet has no source (R193). -/
def State.sourceBad (s : State) (o : Order) : List (Bool × Nat) :=
  if o.rewet then (named o.kind o.raw).map (fun x => (s.rewets (s.qd x.qd) && qdSrcaddr (s.qd x.qd) = 0, 0x0621)) else []

/-- The two class G operands differ in G (R183). -/
def State.groupBad (s : State) (p : Plan) : Bool :=
  p.cls = 2 && (match p.st.qd, p.mv.qd with
    | some a, some b => qdGcode (s.qd a) ≠ qdGcode (s.qd b)
    | _, _ => false)

/-- Stream descriptors of the operands of a product, with stored element size and tiles of the extent (R239). -/
def State.productStreams (s : State) (o : Order) : List (Nat × Nat × Nat) :=
  let w := o.raw
  let tiles (r c : Nat) : Nat := cdiv r 16 * cdiv c 16
  let dy := (woDydesc w, 1, tiles (woT w) (woO w))
  let x := (woXdesc w, 1, tiles (woT w) (woI w))
  let wt := (woWdesc w, 1, tiles (woI w) (woO w))
  match o.kind with
  | .dx => [dy, wt]
  | .dw => [dy, x]
  | .dual => [dy, wt, x]
  | .boil 0 =>
    let f := if (woBqd w 0).isSome && woClass w ≠ 0 then 0
      else if woEntin w < 16384 then inFmt (enFormat (s.entryRec (woEntin w))) else inFmt (woIfmt w)
    [(woA w 0, elemSize f, tiles (woT w) (woI w)), (woA w 1, 1, tiles (woI w) (woO w))]
  | _ => []

def State.streamsBad (s : State) (o : Order) : Bool :=
  (s.productStreams o).any (fun x => s.streamBad (s.streamDesc x.1) (woMask o.raw) (some x.2.1) (some x.2.2))

/-- Refusals of R101, R111, R107 and R390 for the target of a DW or dual draw. -/
def State.targetBad (s : State) (r w : Nat) : List (Bool × Nat) :=
  match s.target? w with
  | none => [(true, 0x0331)]
  | some t =>
    let d := s.regionDesc t.region
    let x := s.region t.region
    [(s.regionBad t.region, 0x0332),
     (rgTied d && !(woUsetie w && woTieGroup w = rgTie d), 0x0331),
     (!(t.fits d (woI w) (woO w)), if woUsetie w then 0x0331 else 0x0332),
     (x.owner.any (fun q => q ≠ r), 0x0330),
     (x.poisoned && !(woClear w), 0x0C41)]

/-- Refusals of R101, R107, R195 and R390 for the region of a learned scale. -/
def State.scaleBad (s : State) (r : Nat) (dw : Bool) (w q : Nat) : List (Bool × Nat) :=
  let d := s.qd q
  let n := qdSgregion d
  let g := s.regionDesc n
  [(s.regionBad n, 0x0332),
   (!(rgScale g) || rgTied g || rgRows g ≠ (if qdGran d = 1 then qdRows d else 1) || rgCols g ≠ (if qdGran d = 2 then qdCols d else 1), 0x0622),
   ((s.region n).owner.any (fun q => q ≠ r), 0x0330),
   (dw && (s.region n).poisoned && !(woClear w), 0x0C41)]

/-- The learned-scale descriptors whose gradients a work order forms. -/
def State.learned (s : State) (o : Order) : List Nat := (s.plansOf o).filterMap (fun p => s.learnQd o p)

/-- The version check of R116. -/
def State.slotBad (s : State) (w : Nat) : Bool := !((s.layer (woLayer w)).readable (woWslot w) (woExpver w))

/-- Kinds that read weights (R116). -/
def Kind.readsWeights : Kind → Bool
  | .dx | .dual => true
  | .boil k => k = 0
  | _ => false

/-- Limits of R152, with the ring size of R153. -/
def State.attBad (s : State) (w : Nat) : Bool :=
  let n := s.obj (okey 0x2510 1)
  woRingm1 w + 1 ≠ n || woTq w = 0 || woTq w % 1024 ≠ 0 || decide (4194304 < n * woTq w) ||
  woHd w = 0 || woHd w % 16 ≠ 0 || decide (256 < woHd w) || woHkv w = 0 || decide (64 < woHkv w) || decide (4 < woGcode w) ||
  decide (256 < woHkv w * 2 ^ woGcode w)

/-- Region of parameter gradients (R148): the shape of R288. -/
def paramRegionBad (b w d : Nat) : Bool :=
  let rows := if b = 2 then (if woLayerNorm w then 2 else 1) else woTaps w
  rgRows d ≠ rows || rgCols d ≠ woI w

-- Harrow, R200, R204, R211
def hrRegion (h : Nat) : Nat := bits h 0 12
def hrValid (h : Nat) : Bool := bit h 15
def hrSgroup (h : Nat) : Nat := fld h 2 0 6
def hrPrecok (h : Nat) : Bool := bit h 24
def hrUnver (h : Nat) : Bool := bit h 25
def hrFwdfmt (h : Nat) : Nat := fld h 3 2 2
def hrMom (h : Nat) : Bool := bit h 28
def hrFrzkind (h : Nat) : Nat := fld h 3 5 2
def hrFrzbase (h : Nat) : Nat := fld h 8 0 52
def hrMset (h k : Nat) : Nat := fld h (16 + 8 * k) 0 52
def hrPaddr (h : Nat) : Nat := fld h 32 0 52

/-- The Harrow record of a layer (R200). -/
def State.harrowRec (s : State) (l : Nat) : Nat := s.rdN (s.obj (okey 0x2710 1) + 128 * l) 128

/-- Address of a schedule entry (R211), and its points. -/
def State.schedAt (s : State) (g : Nat) : Nat := s.obj (okey 0x2710 2) + 1024 * g
/-- Points of a curve: steps and values. -/
def State.curve (s : State) (a n : Nat) : List (Nat × Nat) := (List.range n).map (fun k => (s.rdN (a + 8 * k) 4, s.rdN (a + 8 * k + 4) 4))

def rising : List (Nat × Nat) → Bool
  | a :: b :: t => decide (a.1 < b.1) && rising (b :: t)
  | _ => true

/-- A value of a curve is negative or not finite; -0 counts as not negative. -/
def curveValueBad (c : Nat) : Bool := !((dec32 c).finite) || Val.lt (dec32 c) Val.zero

/-- beta in [0, 1), or in [0, 1] for BS. -/
def betaBad (one : Bool) (c : Nat) : Bool :=
  !((dec32 c).finite) || Val.lt (dec32 c) Val.zero || (if one then Val.lt (dec32 f32one) (dec32 c) else !(Val.lt (dec32 c) (dec32 f32one)))

/-- A schedule entry is invalid (R211). -/
def State.schedBad (s : State) (g : Nat) : Bool :=
  let a := s.schedAt g
  let lr := s.curve (a + 64) (s.rdN a 1 % 64 + 1)
  let wd := s.curve (a + 320) (s.rdN (a + 1) 1 % 64 + 1)
  !(bit (s.rdN (a + 2) 1) 0) || decide (32 < lr.length) || decide (32 < wd.length) || !(rising lr) || !(rising wd) ||
  betaBad false (s.rdN (a + 4) 4) || betaBad false (s.rdN (a + 8) 4) || betaBad true (s.rdN (a + 12) 4) ||
  lr.any (fun x => curveValueBad x.2) || wd.any (fun x => curveValueBad x.2)

/-- A layer is a matrix (R200). -/
def rgMatrix (d : Nat) : Bool := decide (rgRows d ≠ 1 ∧ rgCols d ≠ 1)

/-- The cases of R204, with those of R101 and R390. -/
def State.harrowBad (s : State) (k : Kind) (w h : Nat) : List (Bool × Nat) :=
  let l := woLayer w
  let n := hrRegion h
  let d := s.regionDesc n
  let x := s.layer l
  [(decide (s.obj (okey 0x2710 3) ≤ l), 0x0720), (decide (s.regionCount ≤ n), 0x0720), (!(hrValid h) || !(rgValid d), 0x0720),
   (s.schedBad (hrSgroup h), 0x0720), (!(hrUnver h) && hrFwdfmt h = 3, 0x0720), (k == .precond && !(hrPrecok h), 0x0720),
   (hrUnver h && rgMatrix d, 0x0720), (!(hrUnver h) && !(x.valid (b2n x.newest)), 0x0720),
   (hrMset h 0 = 0 || (hrUnver h && hrPaddr h = 0), 0x0720),
   (!(hrUnver h) && (hrMset h 1 = 0 || s.slotAddr l 0 = 0 || s.slotAddr l 1 = 0), 0x0720),
   ((hrFrzkind h = 1 || hrFrzkind h = 2) && hrFrzbase h = 0, 0x0720), (rgMatrix d && woStagebase w = 0, 0x0720),
   (s.regionBad n, 0x0332), ((s.region n).poisoned, 0x0C41)]

/-- Entry of launder l in the set that a STREAM has read (R232). -/
def Order.newEntry (o : Order) (l : Nat) : Nat := leClean (leNat ((o.mask.drop (8 * l)).take 8))

/-- Descriptors of the moving operands that a broadcast source hub forwards (R11, R114). -/
def Order.forwarded (o : Order) : List Nat :=
  match o.kind with
  | .dx => [woWdesc o.raw]
  | .dw => [woDydesc o.raw]
  | .dual => [woDydesc o.raw, woWdesc o.raw]
  | .boil 0 => [woA o.raw 1]
  | _ => []

/-- The reason of the first hub whose entries are refused (R233). Launders that receive forwarded buffers are those of the work
orders that have been read and are not over. -/
def State.setBad (s : State) (q : Order) : Nat :=
  let fwd (h j : Nat) : Bool := s.seq.orders.any (fun o => o.kind.shaped && woBcast o.raw && o.onHub h && woBhub o.raw ≠ h && !o.over &&
    o.forwarded.any (fun d => sdLaunder (s.streamDesc d) = j))
  ((hubsOf (woMask q.raw)).map (fun h => setReason (fun k => q.newEntry (4 * h + k)) (fwd h))).foldl (fun a b => if a = 0 then b else a) 0

/-- The checks that depend on the state of a PRODUCT's input entry are made when the entry can be read (R408). -/
def State.lateChecks (s : State) (o : Order) : List (Bool × Nat) :=
  match o.kind with
  | .boil 0 => if woEntin o.raw < 16384 then s.pairsBad o ++ [(s.streamsBad o, 0x0121)] else []
  | _ => []

/-- All checks before admission of a work order just read on ring r, in the model's order (log entry 45). -/
def State.checks (s : State) (o : Order) : List (Bool × Nat) :=
  let w := o.raw
  let k := o.kind
  let r := o.ring
  let early : Bool := match k with
    | .boil 0 => decide (16384 ≤ woEntin w)
    | _ => true
  let head : List (Bool × Nat) := [(woMask w = 0, 0x0320), (woPre w && !k.preOk, 0x0320), (fieldsBad k w, 0x0320)]
  let ver : List (Bool × Nat) := if k.readsWeights then [(s.slotBad w, 0x0340)] else []
  let qds : List (Bool × Nat) := (named k w).map (fun x => (s.qdBad (woClass w) x, 0x0620))
  let plans := s.plansOf { o with rewet := false }
  let prod : List (Bool × Nat) := plans.map (fun p => (s.groupBad p, 0x0620)) ++ (if early then s.pairsBad o ++ [(s.streamsBad o, 0x0121)] else [])
  let own : List (Bool × Nat) := match k with
    | .dw => [(decide ((s.dwPlan o 0).chunks < 2 ^ woZcode w), 0x0320)] ++ s.targetBad r w
    | .dual => [(slabHeight k w % 16 ≠ 0 || woT w % slabHeight k w ≠ 0, 0x0320)] ++ s.targetBad r w
    | .boil b =>
      if 9 ≤ b then [(s.attBad w, 0x0520)]
      else [(widthBad b (woI w), 0x0320), (decide (woEntout w < 16384) && woBOfmt w = 0, 0x0414)] ++
        (if b = 2 ∨ b = 8 then
          let d := s.regionDesc (woRegion w)
          [(s.regionBad (woRegion w), 0x0332), (paramRegionBad b w d, 0x0320), ((s.region (woRegion w)).owner.any (fun q => q ≠ r), 0x0330)]
         else [])
    | .attb => [(s.attBad w, 0x0520)]
    | .qcal =>
      let d := s.qdMem (woQcalQd w)
      [(s.qdBad (qdClass d) ⟨woQcalQd w, 0, 0, [0, 1, 2], [0, 1], true⟩ || qdClass d = 0, 0x0620)]
    | .update => s.harrowBad k w o.harrow
    | .precond => s.harrowBad k w o.harrow
    | .fence => if woFlush w then [(s.regionBad (woFregion w), 0x0332)] else []
    | .vset => [(s.versionRefuses (woVlayer w) (woVslot w), 0x0340)]
    | .vdrop => [(s.versionRefuses (woVlayer w) (woVslot w), 0x0340)]
    | .stream => [(s.setBad o ≠ 0, 0x0120)]
    | _ => []
  let sc := (s.learned o).flatMap (fun q => s.scaleBad r (k == .dw || k == .dual) w q)
  head ++ ver ++ qds ++ s.sourceBad o ++ prod ++ own ++ sc

end Sys2Proof.Machine
end

