-- ==== Sys2Proof/Machine/PanCmds.lean ====
section
/-! DEFINITION. Commands of the pans: stationary loads and ripples (R67, R72 to R74), beats (R68 to R70), hand-off (R37),
promotion events (R44, R98, R194), stops and crusts (R81 to R90), parks (R388). -/

namespace Sys2Proof.Machine

/-- The work order that a pan runs, if its cells compute it: a product, admitted, or ended by a fault or an abort while the
pan goes on to its boundary (R81, R295). -/
def State.panOrder (s : State) (pn : Nat) : Option Order :=
  match (s.pan pn).job with
  | none => none
  | some (r, slot) =>
    match s.order? r slot with
    | none => none
    | some o =>
      if (o.kind.isProduct || o.kind == .boil 0) && (o.phase == .admitted || (o.over && (s.pan pn).state == .stopping)) then some o else none

/-- The feeders of a pan for a work order. -/
def Order.feeder (o : Order) (pn : Nat) : Feeder := { pan := pn, ring := o.ring, slot := o.slot }

/-- Number of a pan among a work order's pans, and how many those are. -/
def Order.place (o : Order) (pn : Nat) : Nat := panIndex (woMask o.raw) pn
def Order.pans (o : Order) : Nat := pansOf (woMask o.raw)

/-- The part and the plan at a cursor. -/
def State.planAt (s : State) (o : Order) (pn : Nat) (c : Cursor) : Option (Part × Plan) :=
  (s.partAt o (o.place pn) o.pans c.part).map (fun pt => (pt, s.partPlan o pt))

/-- The registers of an array for the pass of a cursor, by cell; none while an element is not at hand. -/
def State.loadOf (s : State) (o : Order) (f : Feeder) (a : Nat) (c : Cursor) (tag : Nat) : Option (List Reg) :=
  match s.planAt o f.pan c with
  | none => none
  | some (pt, p) =>
    if !((shapeArrays p.shape).contains a) then none
    else
      let (r0, c0) := p.blockAt pt c
      (List.range (shapeCells p.shape)).foldr (fun n acc =>
        let (x, y) := cellPlace p.shape a n
        match acc, s.regOf f p (r0 + x) (c0 + y) (p.redAt c) with
        | some l, some v => some ({ tag := tag, vals := v } :: l)
        | _, _ => none) (some [])

/-- The next load of array a of a pan ripples (R72); the thin path has no ripple. -/
def State.ripples (s : State) (x : Pan) (a : Nat) : Bool := decide (a < 4) && ((x.arr a).rippleNext || s.obj (okey 0x2D90 1) = 1)

/-- A pan lacks a tile that the next load or a lane of the next beat needs. -/
def State.lacks (s : State) (o : Order) (pn : Nat) : Bool :=
  let x := s.pan pn
  match s.planAt o pn x.cur with
  | none => false
  | some (pt, p) =>
    let f := o.feeder pn
    let (r0, c0) := p.blockAt pt x.cur
    (shapeArrays p.shape).any (fun a =>
      (s.loadOf o f a (x.arr a).next 0).isNone ||
      (List.range (laneCount p.shape)).any (fun k =>
        (s.beatOf f p (r0 + (cellPlace p.shape a (laneHead p.shape k)).1) (c0 + (cellPlace p.shape a (laneHead p.shape k)).2)
          (p.redAt x.cur + x.cur.beat)).isNone))

/-- A pan that lacks a tile behind the deferred fault of a Held stream has reached it, and is Held (R245; log entry 26). -/
def State.starve (s : State) (o : Order) (pn : Nat) : State :=
  let x := s.pan pn
  if s.heldFor pn x && s.lacks o pn then s.setPan pn x.hold else s

/-- A pan whose feeders work: its work order runs, and the pan is clocked; one that goes to its boundary is clocked to the
end of its stop (R376, R377). -/
def State.panOn (s : State) (x : Pan) : Bool := (x.state == .running && s.running 8) || x.state == .stopping

/-- An array after a load of pass `y.next` that has put `cells` into its cells. -/
def State.loadedArr (s : State) (o : Order) (pn a : Nat) (y : Arr) (cells : FMap Cell) : Arr :=
  { y with cells := cells, next := s.nextLoad o (o.place pn) o.pans a y.next, loaded := y.loaded + 1, tag := (y.tag + 1) % 256 }

/-- STATIONARY_LOAD (R67): one write of the shadows of every cell of an array, once all have swapped. -/
def execStationaryLoad (pn : PanNo) (a : Fin 5) (s : State) : Host.Outcome State Fault Refusal :=
  let x := s.pan pn.val
  let y := x.arr a.val
  match s.panOrder pn.val with
  | none => .next s
  | some o =>
    if s.panOn x && !(s.ripples x a.val) && y.cells.all (fun c => !c.2.full) then
      match s.loadOf o (o.feeder pn.val) a.val y.next y.tag with
      | none => .next (s.starve o pn.val)
      | some l =>
        let cells := mapCells l.length y.cells (fun n c => { c with shd := l.getD n {}, full := true })
        .next (s.setPan pn.val (x.setArr a.val (s.loadedArr o pn.val a.val y cells)))
    else .next s

/-- One array's part of a ripple load: active registers and brine are replaced (R73); the brine words are zero (R74; log
entry 22). -/
def State.rippleArray (s : State) (o : Order) (f : Feeder) (a : Nat) (x : Pan) : Option Pan :=
  let y := x.arr a
  match s.loadOf o f a y.next y.tag with
  | none => none
  | some l =>
    let cells := mapCells l.length y.cells (fun n c => { c with act := l.getD n {}, full := false, brine := 0 })
    some (x.setArr a { s.loadedArr o f.pan a y cells with rippleNext := false })

/-- A ripple load of a list of arrays. -/
def State.rippleArrays (s : State) (o : Order) (f : Feeder) (l : List Nat) (x : Pan) : Option Pan :=
  l.foldl (fun acc a => acc.bind (fun x => s.rippleArray o f a x)) (some x)

/-- RIPPLE_LOAD (R72 to R74): all arrays of the pass that ripple load at once, after the last beat of the old pass. -/
def execRippleLoad (pn : PanNo) (s : State) : Host.Outcome State Fault Refusal :=
  let x := s.pan pn.val
  match s.panOrder pn.val with
  | none => .next s
  | some o =>
    match s.planAt o pn.val x.cur with
    | none => .next s
    | some (_, p) =>
      let l := (shapeArrays p.shape).filter (fun a => s.ripples x a)
      if s.panOn x && !l.isEmpty && decide (2 ≤ x.level) && x.cur.beat = 0 && x.quiet &&
          l.all (fun a => (x.arr a).loaded = (x.arr a).pass && (x.arr a).next == x.cur) then
        match s.rippleArrays o (o.feeder pn.val) l x with
        | none => .next (s.starve o pn.val)
        | some x' => .next ((s.setPan pn.val x').bump64 (okey 0x2D10 6) |>.bump 64 (okey 0x2D10 6) (l.length - 1))
      else .next s

-- beats
/-- The anchor that a beat carries: formed at the first beat of a chunk, kept to its end; none while the chunk is not at
hand (R54). -/
def State.beatAnchor (s : State) (f : Feeder) (pt : Part) (p : Plan) (a : Nat) (c : Cursor) (old : Int) : Option Int :=
  if !p.win then some 0 else if c.pass = 0 ∧ c.beat = 0 then s.anchorOf f p pt c a else some old

/-- A lane of an array takes the beat of a cursor: it enters the slot of every cell of the lane (R63, R70). None while the
operand of the pass is not loaded (R69), a slot is full, or the feeder lacks the tile. -/
def State.laneBeat (s : State) (f : Feeder) (pt : Part) (p : Plan) (a lane : Nat) (at_ : Lag) (y : Arr) : Option (Arr × Int) :=
  let c := at_.cur
  let (r0, c0) := p.blockAt pt c
  let (i, j) := cellPlace p.shape a (laneHead p.shape lane)
  let mine (n : Nat) : Bool := laneOf p.shape n = lane
  if !(decide (at_.pass < y.loaded) && (List.range (shapeCells p.shape)).all (fun n => !(mine n) || decide ((FMap.get {} y.cells n).slot.length < 4))) then none
  else match s.beatAnchor f pt p a c at_.anchor, s.beatOf f p (r0 + i) (c0 + j) (p.redAt c + c.beat) with
    | some an, some m =>
      let b : Beat := { tag := y.tagOf at_.pass, k := c.beat, m := m, last := c.beat = 15 && c.pass + 1 = p.passes c.chunk,
                        anchor := an, at_ := { c with beat := 0 } }
      some ({ y with cells := mapCells (shapeCells p.shape) y.cells (fun n d => if mine n then { d with slot := d.slot ++ [b] } else d) }, an)
    | _, _ => none

/-- Place of a lane after its beat: the next beat, or the first of its array's next pass. -/
def State.lagNext (s : State) (o : Order) (pn a : Nat) (l : Lag) : Lag :=
  if l.cur.beat < 15 then { l with cur := { l.cur with beat := l.cur.beat + 1 } }
  else { l with cur := s.nextLoad o (o.place pn) o.pans a l.cur, pass := l.pass + 1 }

/-- The broadcast gives its beat to an array: the lanes that can take it do, the others lag behind from here (R70). -/
def State.arrayBeat (s : State) (f : Feeder) (pt : Part) (p : Plan) (c : Cursor) (a : Nat) (y : Arr) : Arr :=
  (List.range (laneCount p.shape)).foldl (fun y lane =>
    if (FMap.get none y.lag lane).isSome then y
    else
      let l : Lag := { cur := c, pass := y.pass, anchor := y.anchor }
      match s.laneBeat f pt p a lane l y with
      | some (y', an) => { y' with anchor := an }
      | none => { y with lag := FMap.put none y.lag lane (some l) }) y

/-- Demand level of the work at a cursor (R371). -/
def State.demandAt (s : State) (o : Order) (pn : Nat) (c : Cursor) : Nat :=
  match s.planAt o pn c with
  | none => 0
  | some (_, p) => shapeDemand p.shape

/-- The broadcast may give its next beat (R81, R353, R372): not past the boundary of a stop or of a quiesce. -/
def State.mayIssue (s : State) (x : Pan) : Bool :=
  s.panOn x && decide (x.demand ≤ x.level) && (x.state == .running || !x.cur.atBoundary) && (s.live || !x.cur.atBoundary)

/-- Lanes that lag behind in a part of another shape hold the broadcast back: a lane is not the same cells there. -/
def State.lagShape (s : State) (o : Order) (pn : Nat) (y : Arr) (shape : Nat) : Bool :=
  y.lag.all (fun e => match e.2.bind (fun l => s.planAt o pn l.cur) with
    | some (_, p) => p.shape = shape
    | none => true)

/-- The moving feeder issues its next beat to the arrays of the shape and moves on (R63, R69, R70), if cell n of array a takes
it. -/
def State.issueBeat (s : State) (o : Order) (pn a n : Nat) : Option Pan :=
  let x := s.pan pn
  match s.planAt o pn x.cur with
  | none => none
  | some (pt, p) =>
    let f := o.feeder pn
    let lane := laneOf p.shape n
    let as := shapeArrays p.shape
    let mine := x.arr a
    if !(s.mayIssue x && as.contains a && as.all (fun a => s.lagShape o pn (x.arr a) p.shape)) ||
        (s.laneBeat f pt p a lane { cur := x.cur, pass := mine.pass, anchor := mine.anchor } mine).isNone then none
    else
      let x := as.foldl (fun (x : Pan) a => x.setArr a (s.arrayBeat f pt p x.cur a (x.arr a))) x
      if x.cur.beat < 15 then some { x with cur := { x.cur with beat := x.cur.beat + 1 }, issued := true }
      else
        let nx := s.nextPass o (o.place pn) o.pans x.cur
        let x := as.foldl (fun (x : Pan) a => x.setArr a { x.arr a with pass := (x.arr a).pass + 1 }) x
        some { x with cur := nx, issued := true, demand := s.demandAt o pn nx }

/-- A lane has caught up with the broadcast (R70). -/
def Arr.caughtUp (y : Arr) (l : Lag) (cur : Cursor) : Bool :=
  l.pass = y.pass && (if l.cur.beat = 0 then cur.beat = 0 || !(l.cur == { cur with beat := 0 }) else l.cur == cur)

/-- A lane that lags takes its next beat (R70). -/
def State.lagBeat (s : State) (o : Order) (pn a lane : Nat) (l : Lag) (pt : Part) (p : Plan) : Option Pan :=
  let x := s.pan pn
  if !(s.panOn x && decide (x.demand ≤ x.level)) then none
  else match s.laneBeat (o.feeder pn) pt p a lane l (x.arr a) with
    | none => none
    | some (y, an) =>
      let l' := s.lagNext o pn a { l with anchor := an }
      if y.caughtUp l' x.cur then some (x.setArr a { y with anchor := an, lag := FMap.put none y.lag lane none })
      else some (x.setArr a { y with lag := FMap.put none y.lag lane (some l') })

/-- The lane of a cell that lags: its number, place and plan. -/
def State.lagOf (s : State) (o : Order) (pn a n : Nat) : Option (Nat × Lag × Part × Plan) :=
  ((s.pan pn).arr a).lag.findSome? (fun e => match e.2 with
    | none => none
    | some l => match s.planAt o pn l.cur with
      | some (pt, p) => if laneOf p.shape n = e.1 then some (e.1, l, pt, p) else none
      | none => none)

/-- The feeder gives cell n of array a its next beat: the broadcast's, or, where its lane lags, the lane's own. -/
def State.beatFor (s : State) (o : Order) (pn a n : Nat) : Option Pan :=
  match s.lagOf o pn a n with
  | some (lane, l, pt, p) => s.lagBeat o pn a lane l pt p
  | none => s.issueBeat o pn a n

/-- Fault 0x0D20: the pan stops without a crust, its chunk is lost, and the array's next load ripples (R68, R93). -/
def State.tagMismatch (s : State) (o : Order) (pn a : Nat) : State :=
  let x := s.pan pn
  let y := x.clear.setArr a { (x.clear.arr a) with rippleNext := true }
  let s := (s.setPan pn { y with job := x.job, state := .stopped, stopCause := causeFault }).bump32 (okey 0x2D10 5)
  s.fault 13 0x0D20 { kind := 1, num := pn, slot := o.slot, ring := o.ring }

/-- A cell consumes the oldest beat of its slot (R68, R60); it forms no product for an output that is masked or a flake row
(R109, R188). -/
def State.consume (s : State) (o : Order) (pn a n : Nat) : State :=
  let x := s.pan pn
  let y := x.arr a
  let c := FMap.get {} y.cells n
  match c.slot with
  | [] => s
  | b :: t =>
    if c.ended then s
    else match s.planAt o pn b.at_ with
      | none => s
      | some (pt, p) =>
        match c.swap b with
        | none => s.tagMismatch o pn a
        | some c =>
          let (i, j) := p.outAt pt a n b.at_
          let real : Bool := decide (p.redAt b.at_ + b.k < p.red0 + p.k)
          let forms : Bool := s.formed o p i j && !(p.toWindrow && s.flakeAt p i 0)
          let c := { c with anchor := b.anchor, slot := t, ended := b.last, at_ := b.at_ }
          s.setPan pn (x.setArr a { y with cells := FMap.put {} y.cells n (c.add p real forms (c.act.vals.getD b.k 0) b.m) })

/-- BEAT (R68, R70): a cell with an empty slot meets the beat that the feeder gives it next. -/
def execBeat (pn : PanNo) (a : Fin 5) (cell : Fin 256) (s : State) : Host.Outcome State Fault Refusal :=
  match s.panOrder pn.val with
  | none => .next s
  | some o =>
    if !(s.panOn (s.pan pn.val)) then .next s
    else if (FMap.get {} ((s.pan pn.val).arr a.val).cells cell.val).slot.isEmpty then
      match s.beatFor o pn.val a.val cell.val with
      | none => .next (s.starve o pn.val)
      | some x => .next ((s.setPan pn.val x).consume o pn.val a.val cell.val)
    else .next (s.consume o pn.val a.val cell.val)

/-- At a stop boundary a chunk for the Windrow stays in its array (R82), unless it ends the pan's work (R81). -/
def State.keeps (s : State) (o : Order) (pn a : Nat) : Bool :=
  let x := s.pan pn
  x.state == .stopping && decide (a < 4) && x.cur.atBoundary && (s.planAt o pn x.cur).isSome

/-- A row stalls (R70): the drain unit still holds the brine of an earlier chunk of it, whose turn at its home hub has not come
(R98), or has no room for its output in launder 3 (R229, R247). -/
def State.rowWaits (s : State) (o : Order) (p : Plan) (pt : Part) (src : Nat) (c : Cursor) : Bool :=
  if p.toWindrow then s.win.promos.any (fun q => q.src = src &&
    !(q.ring = o.ring && q.slot = o.slot && q.part = c.part && q.event = p.eventNo pt.slab pt.z c.chunk))
  else decide (p.first (pt.z + 1) ≤ c.chunk + 1) && !(s.outRoom (src / 5120))

/-- CHUNK_HANDOFF (R37, R82). -/
def execChunkHandoff (pn : PanNo) (a : Fin 5) (row : Fin 16) (s : State) : Host.Outcome State Fault Refusal :=
  let x := s.pan pn.val
  let y := x.arr a.val
  match s.panOrder pn.val with
  | none => .next s
  | some o =>
    let c := (y.rowHead row.val).at_
    match s.planAt o pn.val c with
    | none => .next s
    | some (pt, p) =>
      let kept := p.toWindrow && s.keeps o pn.val a.val && c.blk + 1 = p.blocks pt.b
      if s.panOn x && (rowOf p.shape row.val).all (fun n => (FMap.get ({} : Cell) y.cells n).ended) &&
          decide (rowCells p.shape * row.val < shapeCells p.shape) && !kept && (s.live || !x.cur.atBoundary) &&
          !(s.rowWaits o p pt (rowKey pn.val a.val row.val) c) then
        .next (s.handRow o pn.val a.val row.val true)
      else .next s

-- promotion events
/-- Product element that a region element stands for under a use (R111). -/
def Target.inv (t : Target) (x y : Nat) : Option (Nat × Nat) :=
  if x < 16 * t.row ∨ y < 16 * t.col then none
  else if t.turn then some (y - 16 * t.col, x - 16 * t.row) else some (x - 16 * t.row, y - 16 * t.col)

/-- Region element of place e of group g. -/
def groupElem (d g e : Nat) : Nat × Nat := (16 * (g / rgTileCols d) + e / 16, 16 * (g % rgTileCols d) + e % 16)

/-- Block set of a plan in which product element (i, j) lies. -/
def Plan.setOf (p : Plan) (i j : Nat) : Nat := i / p.setRows * cdiv p.n p.setCols + j / p.setCols

/-- Product elements formed that promote into group g of the target region. -/
def State.groupFormed (s : State) (o : Order) (p : Plan) (t : Target) (g : Nat) : List (Nat × Nat) :=
  let d := s.regionDesc t.region
  (List.range 256).filterMap (fun e =>
    match t.inv (groupElem d g e).1 (groupElem d g e).2 with
    | none => none
    | some (i, j) => if s.formed o p i j then some (i, j) else none)

/-- Numbers of the events of a plan's sets (R98), from `lo` on, in ascending order. -/
def Plan.events (p : Plan) (slabCount lo : Nat) : List Nat :=
  (List.range (slabCount * p.chunks * p.z)).filter (fun n =>
    decide (lo ≤ n) && (let z := n % p.z; decide (p.first z + n / p.z % p.chunks < p.first (z + 1))))

/-- The plans of a work order by slab whose drain meets the Windrow. -/
def State.dwPlan? (s : State) (o : Order) : Option Plan :=
  match o.kind with
  | .dw | .dual => some (s.dwPlan o 0)
  | _ => none

/-- Insert by rising `ord`, after equals. -/
def insPromo (x : Promo) : List Promo → List Promo
  | [] => [x]
  | y :: t => if x.ord < y.ord then x :: y :: t else y :: insPromo x t

/-- Promotions of one event, in the order of the block (R194). -/
def State.promosOf (s : State) (r slot key ev : Nat) : List Promo :=
  (s.win.promos.filter (fun x => x.ring = r && x.slot = slot && x.group = key && x.event = ev)).foldl (fun l x => insPromo x l) []

/-- Apply an event's promotions at a home hub, and note it as the last applied to the group. -/
def State.applyEvent (s : State) (r slot hub key ev : Nat) (vals : List (Nat × Val)) : State :=
  let s := { s with win := { s.win with promos := s.win.promos.filter (fun x => !(x.ring = r && x.slot = slot && x.group = key && x.event = ev)) } }
  let s := s.updOrder r slot (fun o => { o with applied := FMap.put 0 o.applied key (ev + 1) })
  s.promoteEvent r slot hub key vals

/-- The next event of a target group (R98), if all its promotions have been handed off. -/
def State.targetEvent (s : State) (o : Order) (p : Plan) (t : Target) (key : Nat) : State :=
  let els := s.groupFormed o p t (key % 2 ^ 20)
  match els, (p.events (slabs o.kind o.raw) (FMap.get 0 o.applied key)).head? with
  | (i, j) :: _, some ev =>
    let ps := s.promosOf o.ring o.slot key ev
    let hub := panAt (woMask o.raw) (p.setOf i j * p.z % pansOf (woMask o.raw)) / 64
    if ps.length = els.length then s.applyEvent o.ring o.slot hub key ev (ps.map (fun x => (x.elem, x.v))) else s
  | _, _ => s

-- scale-gradient events
/-- The block that a scale-gradient event number names: slab, set, chunk, part, block. -/
def Plan.scaleOf (p : Plan) (n : Nat) : Nat × Nat × Nat × Nat × Nat :=
  let blk := n % 16
  let m := n / 16
  if p.kind == .dw then
    let z := m % p.z
    let q := m / p.z
    let b := q / p.chunks
    (b / p.sets, b % p.sets, p.first z + q % p.chunks, z, blk)
  else (m / p.sets, m % p.sets, 0, 0, blk)

/-- Event n of a plan exists: its block and its chunk do. -/
def Plan.scaleReal (p : Plan) (n : Nat) : Bool :=
  let (_, b, c, z, blk) := p.scaleOf n
  decide (blk < p.blocks b) && (!(p.kind == .dw) || decide (c < p.first (z + 1)))

/-- Contributions that a scale-gradient event brings to group g of its region. -/
def State.scaleCount (s : State) (o : Order) (p : Plan) (q g n : Nat) : Nat :=
  let (slab, b, _, _, blk) := p.scaleOf n
  let (r, c) := p.origin b blk
  let d := s.qd q
  let r0 := (if p.kind == .dx then slab * slabHeight o.kind o.raw else 0) + r
  let p' := if p.kind == .dx then { p with row0 := slab * slabHeight o.kind o.raw } else p
  let fl := if p.kind == .dw then s.flakes p else []
  ((List.range (blockRows p.shape)).map (fun x => ((List.range (blockCols p.shape)).filter (fun y =>
    let i := r0 + x
    let j := c + y
    let u := qdUnit d i j
    let e := qdUnitElem d u
    s.formed o p' i j && !(s.flatUnit d u) && !(fl.contains i) && (rgElem (s.regionDesc (qdSgregion d)) e.1 e.2).1 = g)).length)).sum

/-- Scale-gradient event numbers of a plan that bring something to a group, from `lo` on. -/
def State.scaleEvents (s : State) (o : Order) (p : Plan) (q g lo : Nat) : Option Nat :=
  let total := slabs o.kind o.raw * p.sets * (if p.kind == .dw then p.chunks * p.z else 1) * 16
  ((List.range (total - lo)).map (fun k => lo + k)).find? (fun n => p.scaleReal n && decide (0 < s.scaleCount o p q g n))

/-- Sum of an element's contributions, from +0 by rn in binary64 (R194). -/
def sum64 (l : List Promo) : Val := dec64 (l.foldl (fun a x => rn64 (Val.add (dec64 a) x.v)) 0)

/-- The next scale-gradient event of a group (R194, R195). -/
def State.scaleStep (s : State) (o : Order) (p : Plan) (q key : Nat) : State :=
  let g := key % 2 ^ 20
  match s.scaleEvents o p q g (FMap.get 0 o.applied key) with
  | none => s
  | some ev =>
    let ps := s.promosOf o.ring o.slot key ev
    if ps.length = s.scaleCount o p q g ev then
      let els := (ps.map Promo.elem).eraseDups
      (s.applyEvent o.ring o.slot (woShome o.raw) key ev (els.map (fun e => (e, sum64 (ps.filter (fun x => x.elem = e)))))).bump 64
        (okey 0x2611 9) els.length
    else s

/-- The next event of a group for a work order, once it is complete. -/
def State.promoStep (s : State) (o : Order) (group : Nat) : State :=
  let rg := group / 2 ^ 20
  let scale (p : Plan) : Option State := match s.learnQd o p with
    | some q => if qdSgregion (s.qd q) = rg then some (s.scaleStep o p q group) else none
    | none => none
  match s.dwPlan? o, s.target? o.raw with
  | some p, some t =>
    if t.region = rg then s.targetEvent o p t group
    else match scale p with
      | some s' => s'
      | none => if o.kind == .dual then (scale (s.dxPlan o 0)).getD s else s
  | _, _ => if o.kind == .dx then (scale (s.dxPlan o 0)).getD s else s

/-- A work order has promotion events left for a group (R98, R195). -/
def State.owes (s : State) (o : Order) (group : Nat) : Bool :=
  let rg := group / 2 ^ 20
  let lo := FMap.get 0 o.applied group
  let scale (p : Plan) : Bool := match s.learnQd o p with
    | some q => qdSgregion (s.qd q) = rg && (s.scaleEvents o p q (group % 2 ^ 20) lo).isSome
    | none => false
  match s.dwPlan? o, s.target? o.raw with
  | some p, some t =>
    if t.region = rg then !(s.groupFormed o p t (group % 2 ^ 20)).isEmpty && !(p.events (slabs o.kind o.raw) lo).isEmpty
    else scale p || (o.kind == .dual && scale (s.dxPlan o 0))
  | _, _ => o.kind == .dx && scale (s.dxPlan o 0)

/-- An earlier work order of the owner ring has events left for the group: the promotions of successive work orders reach a
group in ring order (R107, R112). -/
def State.turnWaits (s : State) (o : Order) (group : Nat) : Bool :=
  s.seq.orders.any (fun q => q.live && q.ring = o.ring && decide (q.seq < o.seq) && s.owes q group)

/-- PROMOTION_EVENT (R44, R98, R107, R194): the next event of a group, once it is complete and its turn has come. -/
def execPromotionEvent (r : RingNo) (slot group : Nat) (s : State) : Host.Outcome State Fault Refusal :=
  match s.order? r.val slot with
  | none => .next s
  | some o => if o.live && s.cfg.snap.state ≠ 2 && !(s.turnWaits o group) then .next (s.promoStep o group) else .next s

-- stops
/-- STOP_REQUEST (R81, R86, R90, R91): causes of R85; a pan that holds a crust takes no pre-emption or test stop. -/
def execStopRequest (pn : PanNo) (cause : Nat) (s : State) : Host.Outcome State Fault Refusal :=
  let x := s.pan pn.val
  if cause = 2 ∨ cause = 3 ∨ ((cause = 1 ∨ cause = 4) ∧ x.crusts = 0) then .next (s.setPan pn.val (x.request cause)) else .next s

/-- The crust saved last, which a resume takes (R86), and the pan without it: VALID clears, the rest of the slot stays. -/
def Pan.newest (x : Pan) : Option Crust :=
  if x.crust1.valid && (!x.crust0.valid || decide (x.crust0.gen < x.crust1.gen)) then some x.crust1
  else if x.crust0.valid then some x.crust0 else none
def Pan.dropNewest (x : Pan) : Pan :=
  if x.crust1.valid && (!x.crust0.valid || decide (x.crust0.gen < x.crust1.gen)) then { x with crust1 := x.crust1.dropped }
  else { x with crust0 := x.crust0.dropped }

/-- Put a crust into the lowest free slot (R86). -/
def Pan.putCrust (x : Pan) (c : Crust) : Pan :=
  if !x.crust0.valid then { x with crust0 := { c with gen := if x.crust1.valid then x.crust1.gen + 1 else 0 } }
  else { x with crust1 := { c with gen := x.crust0.gen + 1 } }

/-- Place of a crust (R85): part and chunk that end at the boundary before a cursor. -/
def State.lastChunk (s : State) (o : Order) (pn : Nat) (c : Cursor) : Nat × Nat :=
  let u := panIndex (woMask o.raw) pn
  let n := pansOf (woMask o.raw)
  let here := match s.partAt o u n c.part with
    | some pt => decide ((s.partPlan o pt).first pt.z < c.chunk)
    | none => false
  if here then (c.part, c.chunk - 1)
  else
    let ks := (List.range c.part).filter (fun k => match s.partAt o u n k with
      | some pt => !(s.setSkipped o (s.partPlan o pt) pt.b)
      | none => false)
    let k := ks.getLastD 0
    match s.partAt o u n k with
    | some pt => (k, (s.partPlan o pt).first (pt.z + 1) - 1)
    | none => (k, 0)

/-- Bits of the arrays that a shape uses; the drain registers of the thin path are those of section 0 (R79). -/
def sectionBits (shape : Nat) : Nat := ((shapeArrays shape).map (fun a => if a < 4 then 2 ^ a else 1)).sum

/-- An array holds a chunk that is not promoted. -/
def Arr.holdsChunk (y : Arr) : Bool := y.cells.any (fun c => c.2.ended)

/-- The header of a crust (R85). The stop latency is a free value (log entry 51). -/
def State.crustHeader (s : State) (o : Order) (pn : Nat) : Nat :=
  let x := s.pan pn
  let tags := ((List.range 4).map (fun a => pack (128 + 8 * a) 8 ((x.arr a).tagOf (x.arr a).pass))).sum
  let base := pack 0 1 1 + pack 1 3 x.stopCause + pack 16 3 (woLcode o.raw) + pack 32 4 o.ring + pack 36 16 o.slot + tags +
    pack 192 16 (Config.unstated 51 [s.draws])
  let (k, j) := if x.issued then s.lastChunk o pn x.cur else (x.cur.part, 0)
  match s.planAt o pn { part := k } with
  | none => base
  | some (pt, p) =>
    let keep := if p.toWindrow && x.issued then ((List.range 4).map (fun a => if (x.arr a).holdsChunk then 2 ^ a else 0)).sum else 0
    let drain := if p.toWindrow then 0 else sectionBits p.shape
    base + pack 4 4 keep + pack 8 4 drain + pack 12 1 (b2n p.win) + pack 13 3 p.shape +
      pack 64 32 (if x.issued then j else 2 ^ 32 - 1) + pack 96 32 k + pack 160 32 (if x.issued then p.passesTo pt j else 0)

/-- The thin path hands off the flake rows of the chunk that the crust keeps (R82, R197). -/
def State.handFlakes (s : State) (o : Order) (pn : Nat) : State :=
  (List.range 4).foldl (fun s a =>
    (List.range 256).foldl (fun s n =>
      let c := FMap.get {} ((s.pan pn).arr a).cells n
      match s.planAt o pn c.at_ with
      | some (pt, p) =>
        let (i, j) := p.outAt pt a n c.at_
        if c.ended && p.toWindrow && s.flakeAt p i 0 && s.formed o p i j then
          s.handFlake o p pt (rowKey pn a (n / rowCells p.shape)) a n c.at_
        else s
      | none => s) s) s

/-- The cause of a pan's stop has ended (R377, R376, R294); a test stop ends with the test resume alone. -/
def State.causeOver (s : State) (x : Pan) : Bool :=
  match x.job with
  | none => false
  | some q =>
    (s.order? q.1 q.2).any Order.live &&
    (if x.stopCause = causePre then !(s.seq.orders.any (fun o => o.preempts.contains q))
     else if x.stopCause = causeFault then s.running 8
     else if x.stopCause = causeEmergency then s.running 8 && !s.weir.emergency
     else false)

/-- A pan that has come to rest after its cause has ended resumes at once (log entry 25). -/
def State.settleStop (s : State) (pn : Nat) : State :=
  let x := s.pan pn
  if x.state == .stopped && !s.anyWedged && !(s.hub (pn / 64)).autonomous && s.causeOver x then s.setPan pn x.resuming else s

/-- A pan whose streams are not Held any more goes on, outside an emergency (R90, R246, R252). -/
def State.unholdPan (s : State) (pn : Nat) : State :=
  let x := s.pan pn
  if s.heldFor pn x || s.weir.emergency then s else (s.setPan pn x.unheld).settleStop pn

/-- The crust is written and the pan is Stopped (R83, R85). The cells keep what they hold. -/
def State.saveCrust (s : State) (o : Order) (pn : Nat) : State :=
  let x := s.pan pn
  let hdr := s.crustHeader o pn
  let inj := s.injected 5 pn
  let c : Crust := { hdr := hdr, arrs := x.arrs, drain := x.drain, cur := x.cur, bad := inj }
  let s := if inj then s.disarm else s
  let s := ((s.handFlakes o pn).setPan pn { x.putCrust c with state := .stopped, demand := 0 }).bump64 (okey 0x2D10 1)
  let lat := bits hdr 192 16
  ((s.setObj (okey 0x2D10 4) (max (s.obj (okey 0x2D10 4)) lat)).draw).settleStop pn

/-- All that a stopping pan must hand off at its boundary has been: what is left is what its crust keeps (R82). -/
def State.atRest (s : State) (o : Order) (pn : Nat) : Bool :=
  let x := s.pan pn
  x.slotsEmpty && x.arrs.all (fun e => e.2.cells.all (fun c => !c.2.ended ||
    (match s.planAt o pn c.2.at_ with
     | some (pt, p) => p.toWindrow && decide (e.1 < 4) && c.2.at_.blk + 1 = p.blocks pt.b
     | none => false)))

/-- CRUST_SAVE (R81 to R86): a Stopping pan at its boundary; after its last chunk it goes on to its end instead. A Boiler
phase stops at a tile boundary and saves no crust (R210). -/
def execCrustSave (pn : PanNo) (s : State) : Host.Outcome State Fault Refusal :=
  let x := s.pan pn.val
  match x.job with
  | none => .next s
  | some (r, slot) =>
    match s.order? r slot with
    | none => .next s
    | some o =>
      if !(x.state == .stopping) || !x.cur.atBoundary || decide (2 ≤ x.crusts) then .next s
      else if o.kind.isProduct || o.kind == .boil 0 then
        (match s.planAt o pn.val x.cur with
         | none => .next (s.setPan pn.val { x with state := .running, stopCause := 0 })
         | some _ => if s.atRest o pn.val then .next (s.saveCrust o pn.val) else .next s)
      else .next ((s.setPan pn.val { x with state := .stopped, demand := 0 }).settleStop pn.val)

/-- The header checks of R88. -/
def State.crustOk (s : State) (o : Order) (pn : Nat) (c : Crust) : Bool :=
  let h := c.hdr
  decide (ckRing h = o.ring ∧ ckSlot h = o.slot ∧ ckLcode h = woLcode o.raw) &&
    (match s.planAt o pn { part := ckBlock h } with
     | none => false
     | some (pt, p) =>
       decide (ckShape h = p.shape ∧ ckBf16 h = b2n p.win) &&
         decide (ckPass h = (if ckChunk h = 2 ^ 32 - 1 then 0 else p.passesTo pt (ckChunk h))))

/-- Step 4 of R88: every array with KEEP set hands off its brine. -/
def State.handKept (s : State) (o : Order) (pn : Nat) (hdr : Nat) : State :=
  (List.range 4).foldl (fun s a =>
    if bit (ckKeep hdr) a then
      (List.range 16).foldl (fun s row =>
        if (((s.pan pn).arr a).rowHead row).ended then s.handRow o pn a row false else s) s
    else s) s

/-- An array as step 2 of R88 finds it: the brine of its section if it is in brine form, else zero, and its next load that of
the pass at which the pan goes on, under the tag that TAGS names if the pass uses it. -/
def Arr.restored (y : Arr) (old : Arr) (kept inUse : Bool) (next : Cursor) : Arr :=
  let cells := (List.range 256).filterMap (fun n =>
    let d : Cell := FMap.get {} old.cells n
    let c : Cell := if kept then { d with slot := [], act := (FMap.get {} y.cells n).act, shd := {}, full := false }
      else { act := (FMap.get {} y.cells n).act }
    if c = {} then none else some (n, c))
  { cells := cells, next := next, tag := if inUse then old.tagOf old.pass else y.tagOf y.pass, loaded := old.pass, pass := old.pass,
    rippleNext := y.rippleNext }

/-- Steps 2 to 5 of R88 for a product: none while the operand of the next pass cannot be read again. -/
def State.restore (s : State) (o : Order) (pn : Nat) (c : Crust) : Option State :=
  let x := s.pan pn
  match s.planAt o pn c.cur with
  | none => none
  | some (_, p) =>
    let l := shapeArrays p.shape
    let arrs := (List.range 5).foldl (fun (m : FMap Arr) a =>
      FMap.put {} m a ((x.arr a).restored (FMap.get {} c.arrs a) (bit (ckKeep c.hdr) a && decide (a < 4)) (l.contains a && decide (a < 4))
        (s.passFor o (o.place pn) o.pans a (s.partBound o) c.cur))) []
    let y := { x.dropNewest with arrs := arrs, drain := c.drain, cur := c.cur, state := .running, stopCause := 0,
                                 issued := decide (ckChunk c.hdr ≠ 2 ^ 32 - 1), demand := shapeDemand p.shape }
    let s' := (s.setPan pn y).handKept o pn c.hdr
    match s'.rippleArrays o { o.feeder pn with source := true } l (s'.pan pn) with
    | none => none
    | some x' => some (((s'.setPan pn x').bump64 (okey 0x2D10 2)).bump 64 (okey 0x2D10 6) (l.filter (fun a => decide (a < 4))).length)

/-- The crust is lost (R90): fault 0x0D22. -/
def State.crustLost (s : State) (o : Order) (pn : Nat) : State :=
  let s := (s.setPan pn { (s.pan pn).dropNewest with state := .stopped, stopCause := causeFault }).bump64 (okey 0x2D10 3)
  s.fault 13 0x0D22 { kind := 1, num := pn, slot := o.slot, ring := o.ring }

/-- CRUST_RESUME (R88, R90, R252, R376): the first beat follows with BEAT. -/
def execCrustResume (pn : PanNo) (parityError : Bool) (s : State) : Host.Outcome State Fault Refusal :=
  let x := s.pan pn.val
  match x.job with
  | none => .next s
  | some (r, slot) =>
    match s.order? r slot with
    | none => .next s
    | some o =>
      if !(x.state == .resuming) || !(s.running 8) || decide (x.level < 2) || !(o.phase == .admitted) then .next s
      else if !(o.kind.isProduct || o.kind == .boil 0) then .next (s.setPan pn.val { x with state := .running, stopCause := 0, demand := o.boilDemand })
      else match x.newest with
      | none => .next (s.setPan pn.val { x with state := .running, stopCause := 0 })
      | some c =>
      if parityError || c.bad then .next (s.crustLost o pn.val)
      else if !(s.crustOk o pn.val c) then
        .next ((s.setPan pn.val { x with state := .stopped, stopCause := causeFault }).fault 13 0x0D21
          { kind := 1, num := pn.val, slot := o.slot, ring := o.ring })
      else match s.restore o pn.val c with
        | some t => .next t
        | none => .next (if s.heldFor pn.val x then s.setPan pn.val x.hold else s)

-- what a pan still reads
/-- Bytes of an operand area (R14). -/
def areaSize : Nat := 245760

/-- Addresses of a buffer's runs. -/
def Buf.covers (b : Buf) (a : Nat) : Bool := b.runs.any (fun r => decide (r.1 ≤ a) && decide (a < r.1 + r.2))

/-- Addresses that an operand's elements take in a buffer of its role; `l` names the elements as stored. -/
def Operand.within (o : Operand) (b : Buf) (l : List (Nat × Nat)) : List Nat :=
  if o.role ≠ b.role then []
  else l.flatMap (fun e => match o.addr e.1 e.2 with
    | none => []
    | some a => ((List.range (sdEsize o.desc)).map (fun k => a + k)).filter b.covers)

/-- Bytes of a buffer that the pass of a cursor reads. -/
def Plan.wants (p : Plan) (pt : Part) (c : Cursor) (b : Buf) : List Nat :=
  let (r0, c0) := p.blockAt pt c
  let ks := ((List.range 16).map (fun k => p.redAt c + k)).filter (fun k => decide (k < p.red0 + p.k))
  let xs := (List.range (blockRows p.shape)).flatMap (fun x => ks.map (fun k => if p.st.turned then (k, r0 + x) else (r0 + x, k)))
  let ys := (List.range (blockCols p.shape)).flatMap (fun y => ks.map (fun k => if p.mv.turned then (c0 + y, k) else (k, c0 + y)))
  p.st.within b xs ++ p.mv.within b ys

/-- Bytes of a buffer that a pan reads from a cursor on; `fuel` bounds the passes. -/
def State.wantsFrom (s : State) (o : Order) (u n : Nat) (b : Buf) : Nat → Cursor → List Nat
  | 0, _ => []
  | fuel + 1, c =>
    match s.partAt o u n c.part with
    | none => []
    | some pt => (s.partPlan o pt).wants pt c b ++ s.wantsFrom o u n b fuel (s.nextPass o u n c)

/-- Bound on the passes of a pan. -/
def State.passBound (s : State) (o : Order) : Nat := s.partBound o * 16 * (woT o.raw + woI o.raw + woO o.raw + 16)

/-- Bytes of a buffer that a pan has not done with: from its place, and from those of lanes that lag (R228). -/
def State.stillWants (s : State) (o : Order) (pn : Nat) (b : Buf) : List Nat :=
  let x := s.pan pn
  let lags := x.arrs.flatMap (fun e => e.2.lag.filterMap (fun l => l.2.map Lag.cur))
  ((x.cur :: lags).flatMap (fun c => s.wantsFrom o (o.place pn) o.pans b (s.passBound o) c)).eraseDups

/-- A pan has done with a buffer, or takes what it still wants of it into its operand area, if it fits there (R14, R64, R228; log
entry 9). The dY of a dual draw stays in its buffers until every pan has finished with it (R114). -/
def State.takeTiles (s : State) (o : Order) (b : Buf) (pn : Nat) : Option State :=
  let x := s.pan pn
  let l := s.stillWants o pn b
  let new := l.filterMap (fun a => (b.data.find? (fun e => e.1 = a)).map (fun e => (areaKey o.ring o.slot a, e.2)))
  if l.isEmpty then some s
  else if (o.kind == .dual && b.role = 0) || decide (areaSize < x.area.length + new.length) then none
  else
    let inj := s.injected 1 pn && !new.isEmpty
    some ((if inj then s.disarm else s).setPan pn { x with area := x.area ++ new, flipped := x.flipped || inj })

/-- Every pan of a hub lets a buffer of its work order go: none while one of them still reads from it. A pre-empted work order
keeps its buffers. -/
def State.letGo (s : State) (h : Nat) (b : Buf) : Option State :=
  match s.order? b.ring b.slot with
  | none => some s
  | some o =>
    if o.over then some s
    else if o.phase == .preempted then none
    else ((List.range 64).map (fun k => 64 * h + k)).foldl (fun acc pn => acc.bind (fun s => s.takeTiles o b pn)) (some s)

/-- The brine of all cells goes into a free crust slot while a pan parks (R388). -/
def Pan.park (x : Pan) : Pan :=
  let c (old : Crust) : Crust := { old with arrs := x.arrs, park := true }
  if !x.crust0.valid then { x with crust0 := c x.crust0 } else { x with crust1 := c x.crust1 }

/-- A word that cannot be repaired was read for the save of a crust: the pan stops without one (R399; log entry 100). -/
def Pan.loseSave (x : Pan) : Pan := if x.state == .stopping && x.cur.atBoundary && x.slotsEmpty then { x with state := .stopped, demand := 0 } else x

/-- PARK (R387, R388, R396, R399): the error is counted, and repaired or not by what the word held. -/
def execPark (pn : PanNo) (holds : ParkHold) (offset : Nat) (again : Bool) (s : State) : Host.Outcome State Fault Refusal :=
  let x := s.pan pn.val
  match x.job with
  | none => .next s
  | some (r, slot) =>
    let l : Loc := { kind := 1, num := pn.val, addr := offset, slot := slot, ring := r }
    let s := (if s.injected 1 pn.val then s.disarm else s).bump64 (okey 0x2E10 1)
    let s := s.setPan pn.val { x with flipped := false }
    let x := s.pan pn.val
    let mid := !(x.cur.atBoundary && x.slotsEmpty)
    let lost := ((s.setPan pn.val x.loseSave).bump32 (okey 0x2E10 5)).fault 13 0x0D41 l
    let parked := if mid then ((s.setPan pn.val x.park).bump64 (okey 0x2E10 4)).bump 64 (okey 0x2D10 6) (x.arrs.filter (fun e => decide (e.1 < 4) && !e.2.cells.isEmpty)).length else s
    let stuck := again || (mid && decide (2 ≤ x.crusts))
    match holds with
    | .streamTile => if stuck then .next lost else .next ((parked.bump64 (okey 0x2E10 2)).logRepair 0x0E10 l)
    | .computedTile => if stuck then .next lost else .next ((parked.bump64 (okey 0x2E10 3)).logRepair 0x0E11 l)
    | .accumulated => .next lost
    | .earlierData => .next lost
    | .crustSlot =>
      if x.newest.isNone then .next s
      else .next (((s.setPan pn.val x.dropNewest).bump64 (okey 0x2D10 3)).fault 13 0x0D22 l)

end Sys2Proof.Machine
end

