-- ==== Sys2Proof/Machine/Stockpile.lean ====
section
/-! DEFINITION. The Stockpile port: arrivals (R124 to R126), make_room (R131), deepening (R132), back-pressure (R133),
spills and offload (R128, R131). Arrivals that the port has not accepted are kept in order of presentation. -/

namespace Sys2Proof.Machine

-- arrival header, R124
def arEntry (h : Nat) : Nat := 64 * fld h 0 0 8 + fld h 1 0 6
def arFormat (h : Nat) : Nat := fld h 2 0 2
def arTokens (h : Nat) : Nat := fld h 12 0 32
def arWidth (h : Nat) : Nat := fld h 16 0 18
def arBytes (h : Nat) : Nat := cdiv (arTokens h) 16 * cdiv (arWidth h) 16 * 256 * elemSize (inFmt (arFormat h))
def arSize (h : Nat) : Nat := cdiv (arBytes h) 65536

/-- The header is refused (R125). -/
def State.arrivalBad (s : State) (h : Nat) : Bool :=
  arTokens h = 0 || arWidth h = 0 || arFormat h = 3 || decide (s.allocSize 0 < arSize h * 65536)

/-- The entry record of an accepted arrival at near unit u (R127); the pins of its entry stay (R130). -/
def State.arrivalRec (s : State) (h u : Nat) : Nat :=
  pack 224 16 (enPins (s.entryRec (arEntry h))) +
  pack 0 8 (fld h 0 0 8) + pack 8 6 (fld h 1 0 6) + pack 14 18 (arWidth h) + pack 32 32 (arTokens h) + pack 64 32 (fld h 8 0 32) +
    pack 108 52 (s.allocBase 0 + 65536 * u) + pack 160 32 (arSize h) + pack 192 12 (fld h 6 0 12) + pack 207 1 (fld h 1 6 1) +
    pack 208 2 (arFormat h) + pack 211 3 enArriving + pack 240 16 (fld h 4 0 16)

/-- Entries that satisfy p, by order of arrival: the oldest. -/
def State.oldestEntry (s : State) (p : Nat → Bool) : Option Nat :=
  ((s.stock.ents.filter (fun e => p e.2)).foldl (fun (a : Option (Nat × Nat)) e =>
    let k := FMap.get 0 s.stock.order e.1
    match a with
    | none => some (e.1, k)
    | some b => if k < b.2 then some (e.1, k) else a) none).map Prod.fst

/-- Evict cached copies of unpinned entries, oldest first, until n units fit (R126); `fuel` bounds the evictions. -/
def State.cacheRoom (s : State) (n : Nat) : Nat → State
  | 0 => s
  | fuel + 1 =>
    if s.copyFits n (fun _ => true) then s
    else match s.oldestEntry (fun e => enOnchip e && enPins e = 0) with
      | none => s
      | some k => (s.setEntry k (enSetOnchip (s.entryRec k) false)).cacheRoom n fuel

/-- An arrival of n units can be cached: each half has room for its stripe beside the copies of pinned entries (R23, R126). -/
def State.cacheable (s : State) (n : Nat) : Bool := s.copyFits n (fun e => enPins e ≠ 0)

/-- A spill begins: the far run is reserved and the entry is Spilling (R128, R131); none when it does not fit. -/
def State.spill (s : State) (n : Nat) : Option State :=
  let e := s.entryRec n
  match s.allocFit 1 (enSize e) with
  | none => none
  | some u => some ((s.setStock { s.stock with spill := FMap.put 0 s.stock.spill n u }).setEntry n (enSetState e enSpilling))

/-- deepen(seg) of R132; none when it is not possible. -/
def State.deepen (s : State) (seg : Nat) : Option State :=
  let rec_ (b : Nat) : Nat := s.entryRec (64 * seg + b)
  match ((List.range 64).filter (fun b => decide (0 < b) && retained (rec_ b))).head? with
  | none => none
  | some c =>
    match ((List.range c).filter (fun b => retained (rec_ b))).getLast? with
    | none => none
    | some a =>
      if enPins (rec_ c) = 0 && enState (rec_ c) ≠ 3 && decide (c - a ≤ s.obj (okey 0x2410 0x0A)) &&
          ((List.range c).filter (fun b => decide (a ≤ b))).all (fun b => enLocal (rec_ b)) then
        some (((s.setEntry (64 * seg + c) (enSetDrop (rec_ c) a (c - a))).event 0x0411).bump64 (okey 0x2411 3))
      else none

/-- Back-pressure begins, once per episode (R133). -/
def State.backPressure (s : State) : State :=
  if s.stock.backed then s
  else ((s.setStock { s.stock with backed := true, backedAt := s.timeUs }).event 0x0410).bump32 (okey 0x2411 4)

/-- Back-pressure ends. -/
def State.relieve (s : State) : State :=
  if s.stock.backed then (s.setStock { s.stock with backed := false }).bump 64 (okey 0x2411 5) (s.timeUs - s.stock.backedAt) else s

/-- make_room (R131) from its loop test on: the near unit at which the arrival is placed, or none while the loop waits, for the
copy that it has begun or for a release; `fuel` bounds the drops. -/
def State.makeRoom (s : State) (seg n : Nat) : Nat → State × Option Nat
  | 0 => (s, none)
  | fuel + 1 =>
    match s.allocFit 0 n with
    | some u => (s, some u)
    | none =>
      match (s.oldestEntry (fun e => enState e = 2 && enPins e = 0)).bind (fun k => (s.spill k).map (fun t => (k, t))) with
      | some (k, t) => (t.setStock { t.stock with own := some k }, none)
      | none =>
        if s.obj (okey 0x2410 9) = 1 then
          match s.deepen seg with
          | some s => s.makeRoom seg n fuel
          | none => (s.backPressure, none)
        else (s.backPressure, none)

/-- make_room waits: for its own spill, or, in back-pressure, for a release (R131, R134). -/
def State.roomWaits (s : State) : Bool :=
  s.stock.own.any (fun k => enState (s.entryRec k) = 3) || (s.stock.own.isNone && s.stock.backed && !s.stock.freed)

/-- The port accepts an arrival at near unit u (R125, R126). -/
def State.acceptArrival (s : State) (a : Arrival) (u : Nat) : State :=
  let n := arEntry a.hdr
  let size := arSize a.hdr
  let s := s.relieve
  let can := s.cacheable size
  let s := if can then s.cacheRoom size 16385 else s
  let e := enSetOnchip (s.arrivalRec a.hdr u) can
  let s := s.setStock { s.stock with arriving := some { a with entry := n }, count := s.stock.count + 1, own := none,
                                     order := FMap.put 0 s.stock.order n (s.stock.count + 1) }
  (s.setEntry n e).bump64 (okey 0x2411 1)

/-- The port takes up the oldest arrival presented, if it can (R125, R131, R353): one with a bad header is discarded, unless
back-pressure lasts (R133). An arrival for a Free entry that a work order is writing as its output waits as one for an entry that is
not Free (DESIGN CHOICE, log entry 18). `fuel` bounds the arrivals discarded. -/
def State.pumpPort (s : State) : Nat → State
  | 0 => s
  | fuel + 1 =>
    if !(s.running 4) || s.stock.arriving.isSome || !s.live then s
    else match s.stock.waiting with
      | [] => s
      | a :: t =>
        let n := arEntry a.hdr
        if s.arrivalBad a.hdr then
          (if s.stock.backed then s
           else (((s.setStock { s.stock with waiting := t }).event 0x0415).bump32 (okey 0x2411 8)).pumpPort fuel)
        else if enState (s.entryRec n) ≠ 0 || s.isComing n then
          (if a.raised then s else (s.setStock { s.stock with waiting := { a with raised := true } :: t }).event 0x0413)
        else if s.roomWaits && (s.allocFit 0 (arSize a.hdr)).isNone then s
        else
          let (s, u) := (s.setStock { s.stock with own := none, freed := false }).makeRoom (n / 64) (arSize a.hdr) 65
          match u with
          | none => s
          | some u => (s.setStock { s.stock with waiting := t }).acceptArrival a u

def State.pump (s : State) : State := s.pumpPort (s.stock.waiting.length + 1)

/-- STOCKPILE_ARRIVAL (R125): the arrival is presented, and waits its turn at the port. -/
def execStockpileArrival (header data : List Byte) (s : State) : Host.Outcome State Fault Refusal :=
  .next (s.setStock { s.stock with waiting := s.stock.waiting ++ [{ hdr := leNat header, data := data }] }).pump

/-- Offload (R131): oldest unpinned Held entries are spilled until the near allocation is filled to the watermark, or the
far allocation is full; `fuel` bounds the spills. -/
def State.offload (s : State) : Nat → State
  | 0 => s
  | fuel + 1 =>
    let mark := s.obj (okey 0x2490 3)
    let going := ((s.stock.ents.filter (fun e => enState e.2 = 3)).map (fun e => enSize e.2)).sum * 65536
    if 100 ≤ mark ∨ (s.allocBytes 0 - going) * 100 ≤ mark * s.allocSize 0 then s
    else match (s.oldestEntry (fun e => enState e = 2 && enPins e = 0)).bind (fun k => s.spill k) with
      | none => s
      | some s => s.offload fuel

/-- ARRIVAL_WRITTEN (R126, R128): the data is in the near allocation, and on chip where ONCHIP is set, and offload runs. -/
def execArrivalWritten (s : State) : Host.Outcome State Fault Refusal :=
  match s.stock.arriving with
  | none => .next s
  | some a =>
    let e := s.entryRec a.entry
    let l := a.data.take (arBytes a.hdr)
    let s := ((s.setStock { s.stock with arriving := none }).store (enAddr e) l).keepCopy a.entry l
    .next ((s.setEntry a.entry (enSetState e enHeld)).offload 16385).pump

/-- Copy a range of package memory. -/
def copyRange (m : List Host.Cell) (src dst n : Nat) : List Host.Cell :=
  (m.filter (fun c => decide (src ≤ c.1) && decide (c.1 < src + n))).foldl (fun a c => FMap.put 0 a (dst + (c.1 - src)) c.2) (clearRange m dst n)

end Sys2Proof.Machine
end

