-- ==== Sys2Proof/Machine/Sequencer.lean ====
section
/-! DEFINITION. The sequencer's operations: reading rings (R279 to R283), refusal and completion (R286, R296 to R299),
admission (R17, R118, R222, R197, R408), pre-emption (R294), abort (R295), and what a work order's end releases. -/

namespace Sys2Proof.Machine

-- rings
/-- Address of the control block. -/
def State.cbAt (s : State) (r : Nat) : Nat := s.obj (ringKey r 5)
/-- Slot of the work order at TAIL. -/
def State.tailSlot (s : State) (r : Nat) : Nat := (s.ring r).tail % s.obj (ringKey r 2)
def State.tailWord (s : State) (r : Nat) : Nat := s.rdN (s.obj (ringKey r 1) + 128 * s.tailSlot r) 128

/-- Bit r of 2350/01 (R299). -/
def State.cplBit (s : State) (r : Nat) : State := s.setObj (okey 0x2350 1) (s.obj (okey 0x2350 1) ||| 2 ^ r)

/-- The ring becomes Halted (R280, R283, R299). -/
def State.haltRing (s : State) (r : Nat) : State := (s.setRing r { s.ring r with state := .halted }).cplBit r

/-- A HEAD further ahead of TAIL than the ring has slots (R280). -/
def State.overrun (s : State) (r h : Nat) : Bool := decide (s.obj (ringKey r 2) < diff32 h (s.ring r).tail)

/-- HEAD is read from the control block (R280, R281). -/
def State.readHead (s : State) (r : Nat) : State :=
  let h := s.rdN (s.cbAt r) 4
  let t := s.setRing r { s.ring r with head := h }
  if s.overrun r h then (t.haltRing r).event 0x0321 else t

/-- DOORBELL (R281): what software wrote before the strobe has arrived in memory. HEAD is not read while a snapshot is in
progress (R353); a poll reads it later. -/
def execDoorbell (r : RingNo) (wrote : List (Nat × List Byte)) (s : State) : Host.Outcome State Fault Refusal :=
  let s := { s with mem := wrote.foldl (fun m w => writeBytes m w.1 w.2) s.mem }
  if s.awake && s.live && (s.ring r.val).state == .running then .next (s.readHead r.val) else .next s

/-- RING_POLL (R281). -/
def execRingPoll (r : RingNo) (s : State) : Host.Outcome State Fault Refusal :=
  if s.awake && s.live && (s.ring r.val).state == .running && (s.ring r.val).head = (s.ring r.val).tail then .next (s.readHead r.val) else .next s

/-- The sequencer may read the work order at TAIL (R281, R353), under a HEAD that is not too far ahead of it (R280). -/
def State.canRead (s : State) (r : Nat) : Bool :=
  let x := s.ring r
  s.awake && s.live && x.state == .running && x.head ≠ x.tail && !(s.overrun r x.head) &&
    decide (diff32 x.tail (s.rdN (s.cbAt r + 16) 4) < s.obj (ringKey r 4)) &&
    s.seq.orders.all (fun o => o.ring ≠ r || (o.started && o.kind.occupies))

-- completion
/-- An enabled ring takes its pointers from the control block; HEAD is read with the next doorbell or poll (R281, R282). -/
def State.startRing (s : State) (r : Nat) : State :=
  let t := s.rdN (s.cbAt r + 8) 4
  s.setRing r { state := .running, head := t, tail := t, chead := s.rdN (s.cbAt r + 24) 4 }

/-- A draining ring with nothing left becomes Disabled, then Running if an enable is pending (R282). -/
def State.drainRing (s : State) (r : Nat) : State :=
  let x := s.ring r
  if x.state == .draining && s.seq.orders.all (fun o => o.ring ≠ r) then
    (if x.pendEnable then
      s.startRing r
     else s.setRing r { x with state := .disabled })
  else s

/-- A completion record (R296) of 32 bytes. -/
def recordWord (o : Order) (status code cseq now : Nat) : Nat :=
  let sat (n : Nat) : Nat := min n (2 ^ 32 - 1)
  let adm := if o.started then o.admitAt - o.readAt else 0
  let dur := if o.started then now - o.admitAt else 0
  pack 0 32 (woTag o.raw) + pack 32 16 o.slot + pack 48 4 o.ring + pack 56 8 (woOpcode o.raw) + pack 64 8 status + pack 80 16 code +
    pack 96 32 o.events + pack 128 16 o.links + pack 160 32 (sat adm) + pack 192 32 (sat dur) + pack 224 32 cseq

/-- The record is written, then CHEAD + 1; the counters, the pending bit and halt on error follow (R283, R296, R299). -/
def State.record (s : State) (o : Order) (status code : Nat) : State :=
  let r := o.ring
  let x := s.ring r
  let s := s.storeN (s.obj (ringKey r 3) + 32 * (x.chead % s.obj (ringKey r 4))) 32 (recordWord o status code x.chead s.timeUs)
  let s := (s.setRing r { x with chead := inc32 x.chead }).storeN (s.cbAt r + 24) 4 (inc32 x.chead)
  let s := if status = 1 then s.bump64 (okey 0x2351 2) else if status = 2 then s.bump32 (okey 0x2351 3)
    else if status = 3 then s.bump32 (okey 0x2351 4) else s
  let s := if woCint o.raw || status ≠ 0 then s.cplBit r else s
  let s := if status ≠ 0 && s.obj (ringKey r 8) = 1 && (s.ring r).state == .running then s.haltRing r else s
  s.drainRing r

/-- A work order refused before admission (R286): event, counters of its chapter, record with STATUS 1. -/
def State.refuse (s : State) (o : Order) (code : Nat) : State :=
  let s := s.event code
  let s := if code = 0x0340 then s.bump32 (okey 0x2321 7) else if code = 0x0330 then s.bump32 (okey 0x2321 8) else s
  let s := if code = 0x0120 then (s.bump32 (okey 0x2111 9)).setObj (okey 0x2110 4) (s.setBad o) else s
  s.record o 1 code

-- entries
/-- Entries that a BOIL work order names (R130). -/
def orderEntries (k : Kind) (w : Nat) : List Nat :=
  match k with
  | .boil b => if b ≤ 8 then [woEntin w, woEntout w].filter (fun e => decide (e < 16384)) else []
  | _ => []

/-- Pin the entries that a work order names, when the sequencer reads it (R130). -/
def State.pinEntries (s : State) (o : Order) : State × List Nat :=
  (orderEntries o.kind o.raw).foldl (fun acc n => if acc.2.contains n then acc else (acc.1.pinEntry n, acc.2 ++ [n])) (s, [])

/-- Rates of the schedule at STEP (R211, R212): learning rate, decay, B1, B2, BS. -/
def curveAt (step : Nat) : List (Nat × Nat) → Nat
  | [] => 0
  | [a] => a.2
  | a :: b :: t =>
    if step ≤ a.1 then a.2
    else if step < b.1 then
      let y := rn64 (dec32 a.2)
      let y1 := rn64 (dec32 b.2)
      let d := f64mul (f64sub y1 y) (rn64 (Val.ofNat (step - a.1)))
      rn32 (dec64 (f64add y (f64div d (rn64 (Val.ofNat (b.1 - a.1))))))
    else curveAt step (b :: t)

def State.ratesOf (s : State) (g step : Nat) : List Nat :=
  let a := s.schedAt g
  [curveAt step (s.curve (a + 64) (s.rdN a 1 % 64 + 1)), curveAt step (s.curve (a + 320) (s.rdN (a + 1) 1 % 64 + 1)),
   s.rdN (a + 4) 4, s.rdN (a + 8) 4, s.rdN (a + 12) 4]

/-- Regions that a work order names, for 2C91/02 (R101). -/
def State.regionsOf (s : State) (o : Order) : List Nat :=
  let own := match o.kind with
    | .dw | .dual => ((s.target? o.raw).map Target.region).toList
    | .boil b => if b = 2 ∨ b = 8 then [woRegion o.raw] else []
    | .update | .precond => [hrRegion o.harrow]
    | .fence => if woFlush o.raw then [woFregion o.raw] else []
    | _ => []
  own ++ (s.learned o).map (fun q => qdSgregion (s.qd q))

/-- Regions that a work order promotes into. -/
def State.promotes (s : State) (o : Order) : List Nat :=
  match o.kind with
  | .update | .precond | .fence => []
  | _ => s.regionsOf o

/-- Quantisation descriptors that a work order names. -/
def namedQds (k : Kind) (w : Nat) : List Nat := match k with
  | .qcal => [woQcalQd w]
  | _ => (named k w).map Named.qd

/-- The work order at TAIL as the sequencer takes it up. -/
def State.takeUp (s : State) (r : Nat) (k : Kind) (w : Nat) : Order :=
  { ring := r, slot := s.tailSlot r, seq := s.seq.readCount, kind := k, raw := w, readAt := s.timeUs,
    mask := if k == .stream then s.rdBytes (woSetbase w) 2048 else [],
    harrow := if k.isHarrow then s.harrowRec (woLayer w) else 0,
    rewet := (namedQds k w).any (fun n => decide (n < s.obj (okey 0x2610 2)) && s.toRewet n) && !(k == .qcal) }

/-- Advance TAIL (R281). -/
def State.advance (s : State) (r : Nat) : State :=
  let x := s.ring r
  let s := (s.setRing r { x with tail := inc32 x.tail }).storeN (s.cbAt r + 8) 4 (inc32 x.tail)
  ({ s with seq := { s.seq with readCount := s.seq.readCount + 1 } }).bump64 (okey 0x2351 1)

/-- An accepted work order: pins, the schedule, and what a FENCE or PUBLISH waits on (R116, R130, R211, R291). -/
def State.accept (s : State) (o : Order) : State :=
  let w := o.raw
  let (s, pe) := s.pinEntries o
  let l := woLayer w
  let k := woWslot w
  let s := if o.kind.readsWeights then s.setLayer l ((s.layer l).setPin k ((s.layer l).pin k + 1)) else s
  let mask := match o.kind with
    | .fence => woRingmask w
    | .vpub => woPubMask w
    | _ => 0
  let waits := (s.seq.orders.filter (fun q => q.ring = o.ring || bit mask q.ring)).map Order.seq
  let o := { o with pinEnts := pe, pinSlot := if o.kind.readsWeights then some (l, k) else none,
                    rates := if o.kind.isHarrow then s.ratesOf (hrSgroup o.harrow) (woStep w) else [], waits := waits }
  s.setOrders (s.seq.orders ++ [o])

/-- Every region descriptor an order uses is read (R92), in order. -/
def State.readRegions (s : State) (o : Order) : State := (s.regionsOf o).foldl (fun s n => s.readRegion n) s

/-- The Harrow record that a work order read is what 2790/07 answers for its layer, if the layer is below 2710/03. -/
def State.noteRecord (s : State) (k : Kind) (w : Nat) (o : Order) : State :=
  if k.isHarrow && decide (woLayer w < s.obj (okey 0x2710 3)) then
    { s with seq := { s.seq with records := FMap.put 0 s.seq.records (woLayer w) o.harrow } }
  else s

/-- The first check that fails refuses the order (R286); else it is accepted. -/
def State.judge (s : State) (o : Order) : State :=
  match firstBad (s.checks o) with
  | some c => s.refuse o c
  | none => s.accept o

/-- Read and check the work order at TAIL (R281, R286, R116). -/
def State.readOrder (s : State) (r : Nat) : State :=
  let w := s.tailWord r
  match kindOf w with
  | none =>
    let o : Order := { ring := r, slot := s.tailSlot r, seq := s.seq.readCount, raw := w, readAt := s.timeUs }
    (s.advance r).refuse o 0x0320
  | some k =>
    let o := s.takeUp r k w
    ((((s.advance r).readQds (namedQds k w)).noteRecord k w o).readRegions o).judge o

/-- The read of a row: the work order at TAIL is of the row's kind, or of no kind. -/
def State.readAs (s : State) (r : Nat) (p : Kind → Bool) : Host.Outcome State Fault Refusal :=
  if s.canRead r && (match kindOf (s.tailWord r) with
    | none => true
    | some k => p k) then .next (s.readOrder r) else .next s

-- the end of a work order
/-- The crusts of a work order that ends with a status stay valid for readback while function D is Faulted, until it leaves that
state (R93, R317), and while a function is Wedged, until the reset (R393); else they are discarded (R89; log entry 23). -/
def State.keepsCrusts (s : State) (status : Nat) : Bool := status = 2 && ((s.fn 13).state == .faulted || s.anyWedged)

/-- The pans of a work order leave it. -/
def State.freePans (s : State) (r slot status : Nat) : State :=
  let s := if s.keepsCrusts status then s else s.discardCrusts (fun c => c.holds r slot)
  let out (x : Pan) : Pan := (if x.job = some (r, slot) then x.clear else x).dropArea r slot
  { s with pans := FMap.mapv {} s.pans (fun _ x => out x) }

/-- A pan goes back to a pre-empted work order: one with a crust, or stopped in Boiler work, resumes; one that had
nothing left to do has nothing left to do. One on its way to the boundary stops there first (R90). -/
def Pan.backTo (x : Pan) (q : Nat × Nat) (prod : Bool) (past : Nat) : Pan :=
  if x.job.isNone then
    (if x.holdsCrust q.1 q.2 || !prod then { x with job := some q }.resuming
     else { x with job := some q, state := .running, cur := { part := past } })
  else if x.job = some q && x.state == .stopped && x.stopCause = causePre then x.resuming
  else x

/-- A work order stopped for pre-emption takes its pans back (R294, R88). -/
def State.takeBack (s : State) (q : Nat × Nat) : State :=
  match s.order? q.1 q.2 with
  | none => s
  | some o =>
    let ps := (hubsOf (woMask o.raw)).flatMap (fun h => (List.range 64).map (fun k => 64 * h + k))
    let s := ps.foldl (fun s n => s.setPan n ((s.pan n).backTo q (o.kind.isProduct || o.kind == .boil 0) (s.partBound o))) s
    if o.phase == .preempted then
      s.updOrder q.1 q.2 (fun o => { o with phase := .admitted, events := setBit o.events evPreempted true })
    else s

/-- A work order that ends before admission gives up its pins and those it stopped. -/
def State.dropWaiting (s : State) (o : Order) : State :=
  let s := s.setOrders (s.seq.orders.filter (fun q => !(q.is o.ring o.slot)))
  let s := o.pinEnts.foldl (fun s n => s.unpinEntry n) (s.unpinSlots o)
  (o.preempts.foldl (fun s q => s.takeBack q) s).pump

/-- Promotions that the drain units accepted before the end are completed, event by event (R82). -/
def State.drainPromos (s : State) (o : Order) : State :=
  if !(s.running 12) then s
  else (s.win.promos.filter (fun x => x.ring = o.ring && x.slot = o.slot)).foldl (fun s x =>
    match s.order? o.ring o.slot with
    | some q => s.promoStep q x.group
    | none => s) s

/-- Another UPDATE or PRECOND of the layer is stalled (R119). -/
def State.othersStalled (s : State) (o : Order) : Bool :=
  s.seq.orders.any (fun q => q.stalled && !q.started && woLayer q.raw = woLayer o.raw && !(q.is o.ring o.slot))

/-- What the end of an UPDATE or PRECOND does to its layer and region (R118, R120, R119, R222). -/
def State.endHarrow (s : State) (o : Order) (ok : Bool) : State :=
  let l := woLayer o.raw
  let s := match o.claim with
    | none => if o.stalled then s.setLayer l { s.layer l with stall := s.othersStalled o } else s
    | some (l, t, _) =>
      let x := { s.layer l with claim := 0 }
      if ok then s.setLayer l { (x.setVer t (woNewver o.raw)).setValid t true with newest := decide (t = 1) } else s.setLayer l x
  if ok then (s.clearRegion (hrRegion o.harrow)).bump64 (okey 0x2711 (if o.kind == .precond then 2 else 1)) else s

/-- Waiting work orders that name the descriptor of a QCAL that ends read it again (R197). -/
def State.reread (s : State) (n : Nat) : State :=
  let hit (o : Order) : Bool := !o.started && !(o.kind == .qcal) && (namedQds o.kind o.raw).contains n
  if !(s.seq.orders.any hit) then s
  else
    let s := s.readQds [n]
    let now (o : Order) : Bool := (namedQds o.kind o.raw).any (fun m => s.toRewet m)
    s.setOrders (s.seq.orders.map (fun o => if hit o then { o with rewet := now o } else o))

/-- A work order that ends leaves the list, its pans, its streams and the home hubs (R89, R246). -/
def State.leave (s : State) (o : Order) (status : Nat) : State :=
  let s := s.setOrders (s.seq.orders.filter (fun q => !(q.is o.ring o.slot)))
  let s := (s.freePans o.ring o.slot status).dropStreams o.ring o.slot
  { s with win := { s.win with promos := s.win.promos.filter (fun x => !(x.ring = o.ring && x.slot = o.slot)) } }

/-- What the end of a work order of a kind does besides (R121, R197, R222, R225). -/
def State.settle (s : State) (o : Order) (ok : Bool) : State :=
  if o.kind.isHarrow then s.endHarrow o ok
  else if o.kind == .vpub then (if ok then s.publish (woVlayer o.raw) (woPubbase o.raw) (woCount o.raw) else s)
  else if o.kind == .qcal then (if ok then s.bump64 (okey 0x2611 1) else s).reread (woQcalQd o.raw)
  else if o.kind.isAtt && s.att.rev.any (fun v => v.ring = o.ring && v.slot = o.slot) then { s with att := { s.att with rev := none } }
  else s

/-- Counters of completed work orders (2321/01 to 03, 2511/01 and 02). -/
def State.countDone (s : State) (o : Order) : State :=
  if o.kind.isAtt then s.bump64 (okey 0x2511 (if o.kind == .attb then 1 else 2))
  else if o.kind.isProduct then s.bump64 (okey 0x2321 (if o.kind == .dx then 1 else if o.kind == .dw then 2 else 3))
  else s

/-- The output entry of Boiler work: written, or given up (R130, R136). -/
def State.closeOutput (s : State) (o : Order) (ok : Bool) : State :=
  let eo := woEntout o.raw
  if !ok then s.forsake o eo
  else
    let src := if woEntin o.raw < 16384 then s.entryRec (woEntin o.raw) else 0
    s.arrived o eo (fun e => setBit (putField (putField e 240 16 (enFver src)) 192 12 (enRecipe src)) 207 (enLocal src))

/-- The entry or the slots that a work order holds are let go (R116, R120, R130). -/
def State.unpinAll (s : State) (o : Order) (ok : Bool) : State :=
  let boil : Bool := match o.kind with
    | .boil b => b ≤ 8
    | _ => false
  let s := if boil && decide (woEntout o.raw < 16384) then s.closeOutput o ok else s
  let s := s.unpinSlots o
  let s := if ok && boil && woRelease o.raw && decide (woEntin o.raw < 16384) then s.releaseEntry (woEntin o.raw) else s
  o.pinEnts.foldl (fun s n => s.unpinEntry n) s

/-- The work order with the EVENTS that it has by now (R297). -/
def State.withEvents (s : State) (o : Order) : Order := { o with events := ((s.order? o.ring o.slot).getD o).events }

/-- A work order ends with a status: pins, entries, pans, streams and claims go, and the record is written (R89, R116,
R120, R130, R222, R225, R246, R295, R296). -/
def State.closeOrder (s : State) (o : Order) (status code : Nat) : State :=
  let ok : Bool := status = 0
  let s := (s.leave o status).settle o ok
  let s := (if ok then s.countDone o else s).unpinAll o ok
  let s := o.preempts.foldl (fun s q => s.takeBack q) s
  (s.record o status code).pump

/-- The promotions that an admitted work order's drain units accepted are applied, then it ends (R82). -/
def State.complete (s : State) (o : Order) (status code : Nat) : State :=
  let s := if o.started then s.drainPromos o else s
  s.closeOrder (s.withEvents o) status code

/-- All that a product has to do is done (R292). -/
def State.productDone (s : State) (o : Order) : Bool :=
  ((hubsOf (woMask o.raw)).flatMap (fun h => (List.range 64).map (fun k => 64 * h + k))).all (fun p => s.panFinished o p) &&
    !(s.win.promos.any (fun x => x.ring = o.ring && x.slot = o.slot))

/-- A work order's own end has come, apart from a failure. -/
def State.done (s : State) (o : Order) : Bool :=
  o.phase == .admitted && !(s.writesPending o.ring o.slot) &&
    (match o.kind with
     | .dx | .dw | .dual => s.productDone o
     | .boil 0 => o.ran || (o.chain.isNone && o.progress = 1 && s.productDone o)
     | .fence | .vpub => s.seq.orders.all (fun q => !(o.waits.contains q.seq))
     | _ => o.ran)

/-- The region that a FENCE flushes has not been written back, or the writes have not arrived (R291). -/
def State.flushing (s : State) (o : Order) : Bool :=
  o.kind == .fence && woFlush o.raw && (!o.ran || !(s.winWrites (woFregion o.raw)).isEmpty)

/-- A work order's own end: a FENCE first flushes its region (R105, R291), in which a parity error may fail it (R390), and
waits for the writes to arrive. -/
def State.finish (s : State) (o : Order) : State :=
  let s := if o.kind == .fence && woFlush o.raw && !o.ran then
      (s.flushRegion (woFregion o.raw)).updOrder o.ring o.slot (fun q => { q with ran := true }) else s
  match s.order? o.ring o.slot with
  | none => s
  | some q => match q.phase with
    | .ended status code => s.complete q status code
    | _ => if s.flushing q then s else s.complete q 0 0

/-- Pans of a work order that is over go on to the boundary of their chunk and save their crust there (R81 to R83, R295), while
streams run; one that has ended its last chunk has none to save (log entry 23). -/
def State.pansGoOn (s : State) (o : Order) : Bool :=
  (o.kind.isProduct || o.kind == .boil 0) && s.running 1 && !s.anyWedged &&
    s.pans.any (fun e => e.2.job = some (o.ring, o.slot) && e.2.state == .stopping && !(s.panFinished o e.1))

/-- A work order that a fault or an abort has ended has nothing left to wait for: its pans stand, its writes have arrived
(R81, R248). -/
def State.overDone (s : State) (o : Order) : Bool := !(s.pansGoOn o) && !(s.writesPending o.ring o.slot)

/-- WORK_ORDER_COMPLETE (R292, R296): the work order's end has come, by itself or by a fault; none completes while Quiesced
(R354, R357). -/
def execWorkOrderComplete (r : RingNo) (slot : Nat) (s : State) : Host.Outcome State Fault Refusal :=
  match s.order? r.val slot with
  | none => .next s
  | some o =>
    if !s.awake || s.cfg.snap.state = 2 then .next s
    else match o.phase with
      | .ended status code =>
        if s.overDone o then .next (s.complete o status code) else .next s
      | _ => if s.done o then .next (s.finish o) else .next s

-- admission
/-- Hubs that work orders hold: admitted ones that occupy, ended ones not yet recorded, pre-empted ones. -/
def State.busyMask (s : State) (o : Order) : List Order :=
  s.seq.orders.filter (fun q => q.started && q.kind.occupies && !(q.is o.ring o.slot) && (woMask q.raw &&& woMask o.raw) ≠ 0)

/-- A pan of a work order stands still for pre-emption: Stopped, or with nothing left to do. -/
def State.panStill (s : State) (o : Order) (p : Nat) : Bool :=
  (s.pan p).state == .stopped || ((o.kind.isProduct || o.kind == .boil 0) && (s.pan p).state == .running && s.panFinished o p)

def State.pansStill (s : State) (o : Order) : Bool :=
  (hubsOf (woMask o.raw)).all (fun h => (List.range 64).all (fun k => s.panStill o (64 * h + k)))

/-- Every hub of the mask is free, or held by work orders that a pre-emptive one has brought to rest (R17, R294). -/
def State.hubsFree (s : State) (o : Order) : Bool :=
  (s.busyMask o).all (fun q => woPre o.raw && o.preempts.contains (q.ring, q.slot) && q.phase == .admitted && s.pansStill q)

/-- Functions used are Running (R285). -/
def State.functionsUp (s : State) (o : Order) : Bool := (List.range 15).all (fun n => n = 0 || !(o.uses n) || s.running n)

/-- Waits of R408 and R134 for entries. -/
def State.entriesReady (s : State) (o : Order) : Bool :=
  match o.kind with
  | .boil b =>
    if b ≤ 8 then
      (!(decide (woEntin o.raw < 16384)) || decide (2 ≤ enState (s.entryRec (woEntin o.raw)))) &&
        (!(decide (woEntout o.raw < 16384)) || enState (s.entryRec (woEntout o.raw)) ≠ 1)
    else true
  | _ => true

/-- Exclusions between admitted work orders: regions (R222), descriptors (R197), one attention work order at a time (log
entry 46). -/
def State.excluded (s : State) (o : Order) : Bool :=
  let adm := s.seq.orders.filter (fun q => q.started && !(q.is o.ring o.slot))
  let qcals := (adm.filter (fun q => q.kind == .qcal)).map (fun q => woQcalQd q.raw)
  (o.kind.isHarrow && adm.any (fun q => (s.promotes q).contains (hrRegion o.harrow))) ||
  (adm.any (fun q => q.kind.isHarrow && (s.promotes o).contains (hrRegion q.harrow))) ||
  (o.kind == .qcal && adm.any (fun q => (namedQds q.kind q.raw).contains (woQcalQd o.raw))) ||
  (!(o.kind == .qcal) && (namedQds o.kind o.raw).any (fun n => qcals.contains n)) ||
  (o.kind.isAtt && adm.any (fun q => q.kind.isAtt))

/-- UPDATE and PRECOND: the target of a versioned layer can be chosen (R118). An unversioned layer has no slots. -/
def State.targetReady (s : State) (o : Order) : Bool :=
  !o.kind.isHarrow || hrUnver o.harrow || (s.updateTarget (woLayer o.raw)).isSome

/-- Everything but the target of R118 lets the work order in. -/
def State.ready0 (s : State) (o : Order) : Bool :=
  !o.started && !s.anyWedged && s.functionsUp o && s.hubsFree o && s.entriesReady o && !(s.excluded o)

/-- Checks that can only be made now: entry states, the late checks, owners taken meanwhile (R408, R107). -/
def State.admissionChecks (s : State) (o : Order) : List (Bool × Nat) :=
  let eo := woEntout o.raw
  let out : Bool := match o.kind with
    | .boil b => decide (b ≤ 8) && decide (eo < 16384) && retained (s.entryRec eo)
    | _ => false
  (out, 0x0414) :: s.lateChecks o ++ s.sourceBad o ++ (if o.rewet then (s.plansOf o).map widenBad else []) ++ [((s.promotes o).any (fun n => (s.region n).owner.any (fun q => q ≠ o.ring)), 0x0330)]

/-- Tiles and tile rows that a mask excludes are counted once per work order (R109). -/
def State.countMasked (s : State) (o : Order) : State :=
  match s.target? o.raw with
  | none => s
  | some t =>
    let d := s.regionDesc t.region
    if rgMaskkind d = 0 then s
    else
      let i := woI o.raw
      let w := woO o.raw
      let m := s.readMask d
      let tr (a b : Nat) : Bool := let e := t.elem a b; trained m d e.1 e.2
      let tiles := (List.range (cdiv i 16)).flatMap (fun a => (List.range (cdiv w 16)).map (fun b => (16 * a, 16 * b)))
      let els (x : Nat × Nat) := ((List.range 16).map (fun k => x.1 + k)).filter (fun a => decide (a < i))
      let cols (x : Nat × Nat) := ((List.range 16).map (fun k => x.2 + k)).filter (fun b => decide (b < w))
      let whole (x : Nat × Nat) : Bool := (els x).all (fun a => (cols x).all (fun b => !(tr a b)))
      -- a tile row of the region: a product row, or with TURN a product column
      let rows (x : Nat × Nat) : Nat :=
        if t.turn then ((cols x).filter (fun b => (els x).all (fun a => !(tr a b)))).length
        else ((els x).filter (fun a => (cols x).all (fun b => !(tr a b)))).length
      let s := s.bump 64 (okey 0x2321 4) (tiles.filter whole).length
      s.bump 64 (okey 0x2321 5) ((tiles.filter (fun x => !(whole x))).map rows).sum

/-- The Rake reads the mask of the target region once, for the work order (R109). -/
def State.takeMask (s : State) (o : Order) : State :=
  match s.target? o.raw with
  | none => s
  | some t => s.updOrder o.ring o.slot (fun q => { q with mask := s.readMask (s.regionDesc t.region) })

/-- The clear flag, the masks and the owner rings take effect (R106, R107, R109). -/
def State.claimRegions (s : State) (o : Order) : State :=
  let s := match o.kind with
    | .dw | .dual =>
      let s := if woClear o.raw then
          (match s.target? o.raw with
           | some t => s.clearRegion t.region
           | none => s)
        else s
      (s.countMasked o).takeMask o
    | _ => s
  (s.promotes o).foldl (fun s n => s.setRegion n { s.region n with owner := some o.ring }) s

/-- The target of an UPDATE or PRECOND is claimed (R118, R119); STALL stays while another of the layer is stalled. -/
def State.claimTarget (s : State) (o : Order) : State :=
  if hrUnver o.harrow then s
  else
    let l := woLayer o.raw
    match s.updateTarget l with
    | none => s
    | some t =>
      let x := s.layer l
      let old := b2n x.newest
      let s := s.setLayer l ({ x with claim := t + 1, stall := x.stall && s.othersStalled o }.setValid t false)
      let s := if t = old then s.bump32 (okey 0x2711 9) else s
      s.updOrder o.ring o.slot (fun o => { o with claim := some (l, t, old) })

/-- What an UPDATE or PRECOND keeps from its admission: 2790/02 to 2790/05 and the frozen bitmap (R213, R225). -/
def State.takeSettings (s : State) (o : Order) : State :=
  let d := s.regionDesc (hrRegion o.harrow)
  let n := if hrFrzkind o.harrow = 1 then rgRows d else if hrFrzkind o.harrow = 2 then rgGroups d else 0
  let l := [2, 3, 4, 5].map (fun k => s.obj (okey 0x2790 k))
  s.updOrder o.ring o.slot (fun q => { q with rates := q.rates ++ l, frozen := s.rdBytes (hrFrzbase o.harrow) (cdiv n 8) })

/-- Highest retained block below an entry's (R136). -/
def State.anchorBlock (s : State) (n : Nat) : Option Nat :=
  ((List.range (n % 64)).filter (fun b => retained (s.entryRec (64 * (n / 64) + b)))).getLast?

/-- A link or an output that cannot be placed: the work order fails (R137). -/
def State.chainFail (s : State) (o : Order) : State :=
  (s.event 0x0420).updOrder o.ring o.slot (fun o => { o with phase := .ended 2 0x0420 })

/-- The pans of a work order begin it (R91, R97, R371). -/
def State.startPans (s : State) (o : Order) : State :=
  let prod := o.kind.isProduct || o.kind == .boil 0
  let n := pansOf (woMask o.raw)
  (List.range n).foldl (fun s u =>
    let p := panAt (woMask o.raw) u
    let x := s.pan p
    let c := if prod then s.startOf o u n 0 else {}
    let arrs := if prod then (List.range 5).foldl (fun (m : FMap Arr) a =>
      let y : Arr := { (FMap.get {} m a).rest with next := s.passFor o u n a (s.partBound o) c }
      FMap.put {} m a y) x.arrs else x.arrs
    let d := if prod then s.demandAt o p c else o.boilDemand
    s.setPan p { x with state := .running, job := some (o.ring, o.slot), cur := c, issued := false, stopCause := 0, resumeHeld := false,
                        arrs := arrs, drain := [], demand := d }) s

/-- Streams of a product's operands open with its own work (R231). -/
def State.startStreams (s : State) (o : Order) : State :=
  let w := o.raw
  let opn (s : State) (role daddr : Nat) (x : Operand) (cols : List Nat := []) : State :=
    s.openStreams o.ring o.slot (woMask w) role daddr x.desc x.base (x.hiddenRuns cols)
  match o.kind with
  | .dx => let p := s.dxPlan o 0; opn (opn s 0 (woDydesc w) p.st) 1 (woWdesc w) p.mv
  | .dw => let p := s.dwPlan o 0; opn (opn s 0 (woXdesc w) p.st (s.hiddenCols o p true)) 1 (woDydesc w) p.mv (s.hiddenCols o p false)
  | .dual =>
    let p := s.dxPlan o 0
    let q := s.dwPlan o 0
    opn (opn (opn s 0 (woDydesc w) p.st) 1 (woWdesc w) p.mv) 2 (woXdesc w) q.st (s.hiddenCols o q true)
  | .boil 0 => let p := s.partPlan o {}; opn (opn s 0 (woA w 0) p.st) 1 (woA w 1) p.mv
  | _ => s

/-- The input entry is being copied from near to far: the work order reads it from there, once the copy is complete (R134). -/
def State.inputMoves (s : State) (o : Order) : Bool :=
  match o.kind with
  | .boil b => b ≤ 8 && decide (woEntin o.raw < 16384) && enState (s.entryRec (woEntin o.raw)) = 3
  | _ => false

/-- A work order's own work begins, after its chain links: the output entry's scratch, pans and streams (R136, R408). -/
def State.beginOwn (s : State) (o : Order) : State :=
  if s.inputMoves o then s
  else
  let w := o.raw
  let s' : Option State := match o.kind with
    | .boil b =>
      if b ≤ 8 && decide (woEntout w < 16384) then s.reserve o (woEntout w) (woT w) (if b = 0 then woO w else woI w) (woBOfmt w) else some s
    | _ => some s
  match s' with
  | none => s.chainFail o
  | some s => (s.startStreams o).updOrder o.ring o.slot (fun o => if o.kind.isHarrow then o else { o with progress := 1 })

/-- The links that a BOIL needs (R136): from the highest retained block up to the one below its entry. -/
def State.startChain (s : State) (o : Order) : State :=
  let n := woEntin o.raw
  match o.kind with
  | .boil b =>
    if b ≤ 8 && decide (n < 16384) && enState (s.entryRec n) = 5 then
      match s.anchorBlock n with
      | none => s.chainFail o
      | some a =>
        let e := 64 * (n / 64) + a
        (s.pinEntry e).updOrder o.ring o.slot (fun o => { o with chain := some (a, n % 64), pinEnts := o.pinEnts ++ [e] })
    else s.beginOwn o
  | _ => s.beginOwn o

/-- Admission of one work order (R17). -/
def State.admitNow (s : State) (o : Order) : State :=
  match firstBad (s.admissionChecks o) with
  | some c =>
    (s.dropWaiting o).refuse o c
  | none =>
    let s := s.updOrder o.ring o.slot (fun o => { o with phase := .admitted, admitAt := s.timeUs })
    let s := { s with seq := { s.seq with lastRing := o.ring } }
    -- work orders brought to rest are pre-empted now
    let s := o.preempts.foldl (fun s q => if (s.order? q.1 q.2).any (fun q => q.phase == .admitted) then
      (s.updOrder q.1 q.2 (fun q => { q with phase := .preempted })).bump32 (okey 0x2351 5) else s) s
    let s := s.claimRegions o
    let s := if o.kind.isHarrow then (s.claimTarget o).takeSettings o else s
    let s := if o.rewet then (s.bump64 (okey 0x2611 7)).orderEvent o.ring o.slot evRewet else s
    if !o.kind.occupies then s
    else
      match s.order? o.ring o.slot with
      | some o => (s.startPans o).startChain o
      | none => s

/-- Waiting work orders in the order of R17: rings after the ring admitted last. -/
def State.waiting (s : State) : List Order :=
  ((List.range 16).map (fun k => (s.seq.lastRing + 1 + k) % 16)).filterMap (fun r => s.seq.orders.find? (fun o => o.ring = r && !o.started))

/-- UPDATEs that stall now: STALL, the event once, the counter (R119). -/
def State.markStalls (s : State) : State :=
  ((s.waiting).filter (fun o => o.kind.isHarrow && !(hrUnver o.harrow) && !o.stalled && s.ready0 o && s.updateStalls (woLayer o.raw))).foldl (fun s o =>
    (((s.setLayer (woLayer o.raw) { s.layer (woLayer o.raw) with stall := true }).event 0x0341).bump32 (okey 0x2321 6)).updOrder o.ring o.slot
      (fun o => { o with stalled := true })) s

/-- ADMISSION (R17, R285, R293, R353): the first admissible work order is admitted. -/
def execAdmission (s : State) : Host.Outcome State Fault Refusal :=
  if !(s.awake && s.live) then .next s
  else
    let s := s.markStalls
    match s.waiting.find? (fun o => s.ready0 o && s.targetReady o) with
    | some o => .next (s.admitNow o)
    | none => .next s

-- pre-emption
/-- The two work orders name a region, an entry or a layer slot in common (R294). -/
def State.clash (s : State) (o q : Order) : Bool :=
  (s.regionsOf o).any (fun n => (s.regionsOf q).contains n) ||
  (orderEntries o.kind o.raw).any (fun n => (orderEntries q.kind q.raw).contains n) ||
  (o.kind.readsWeights && q.kind.readsWeights && woLayer o.raw = woLayer q.raw && woWslot o.raw = woWslot q.raw)

/-- PRE_EMPTION (R294, R86): stop requests to every pan of the work orders in the way. -/
def execPreEmption (r : RingNo) (s : State) : Host.Outcome State Fault Refusal :=
  match s.seq.orders.find? (fun o => o.ring = r.val && !o.started) with
  | none => .next s
  | some o =>
    let busy := s.busyMask o
    let ours (q : Order) (n : Nat) : Bool := bit (woMask q.raw) (n / 64)
    let free (q : Order) : Bool := q.phase == .admitted && !(woPre q.raw) && s.pans.all (fun e => !(ours q e.1) || e.2.crusts = 0)
    if !(s.awake && s.live) || !(woPre o.raw) || s.anyWedged || busy.isEmpty || !o.preempts.isEmpty || !(busy.all free) ||
        !(s.functionsUp o) || !(s.entriesReady o) || s.excluded o then .next s
    else if busy.any (fun q => s.clash o q) then
      .next ((s.dropWaiting o).refuse o 0x0320)
    else
      let s := s.stopPans (fun n x => busy.any (fun q => x.job = some (q.ring, q.slot) && ours q n)) causePre
      .next (s.updOrder o.ring o.slot (fun o => { o with preempts := busy.map (fun q => (q.ring, q.slot)) }))

-- abort
/-- The slot may be aborted (R295): a work order read and not completed. -/
def State.canAbort (s : State) (r slot : Nat) : Bool := (s.order? r slot).isSome

/-- Abort (R295): a work order not admitted, pre-empted or without pans ends at once; the pans of an admitted one are stopped
first, and its writes arrive. -/
def State.abort (s : State) (r slot : Nat) : State :=
  match s.order? r slot with
  | none => s
  | some o =>
    let s := s.event 0x0322
    match o.phase with
    | .waiting | .preempted => s.complete o 3 0
    | _ =>
      let s := (s.stopPans (fun _ x => x.active && x.job = some (r, slot)) causeFault).dropHeldWrites r slot
      let s := s.updOrder r slot (fun o => { o with phase := .ended 3 0 })
      if s.overDone o then s.complete { o with phase := .ended 3 0 } 3 0 else s

/-- Abort of every admitted work order that uses a function (R316). -/
def State.abortUsers (s : State) (n : Nat) : State :=
  (s.seq.orders.filter (fun o => o.started && o.uses n)).foldl (fun s o => s.abort o.ring o.slot) s

-- ring control, R282
/-- An accepted control code takes effect; none where the state does not accept it. -/
def State.ringControl (s : State) (r code : Nat) : Option State :=
  let x := s.ring r
  match x.state, code with
  | .disabled, 1 => some (s.startRing r)
  | .running, 2 => some ((s.setRing r { x with state := .draining, pendEnable := false }).drainRing r)
  | .draining, 1 => if x.pendEnable then none else some (s.setRing r { x with pendEnable := true })
  | .halted, 3 => some (s.setRing r { x with state := .running })
  | .halted, 2 => some (s.setRing r { x with state := .disabled })
  | _, _ => none

-- the rows that need nothing else
/-- DX, read (R94, R287). -/
def execDx (r : RingNo) (s : State) : Host.Outcome State Fault Refusal := s.readAs r.val (fun k => k == .dx)
/-- DW, read (R96). -/
def execDw (r : RingNo) (s : State) : Host.Outcome State Fault Refusal := s.readAs r.val (fun k => k == .dw)
/-- Dual draw, read (R113). -/
def execDualDraw (r : RingNo) (s : State) : Host.Outcome State Fault Refusal := s.readAs r.val (fun k => k == .dual)
/-- FENCE, read (R291); it completes with WORK_ORDER_COMPLETE. -/
def execFence (r : RingNo) (s : State) : Host.Outcome State Fault Refusal := s.readAs r.val (fun k => k == .fence)
/-- VERSION PUBLISH, read (R121, R291). -/
def execVersionPublish (r : RingNo) (s : State) : Host.Outcome State Fault Refusal := s.readAs r.val (fun k => k == .vpub)

/-- A work order whose effect a `run` step makes, admitted and not yet run. -/
def State.toRun (s : State) (r slot : Nat) (p : Kind → Bool) : Option Order :=
  match s.order? r slot with
  | none => none
  | some o => if p o.kind && o.phase == .admitted && !o.ran && s.awake && s.live then some o else none

def State.markRan (s : State) (r slot : Nat) : State := s.updOrder r slot (fun o => { o with ran := true })

/-- VERSION SET (R121): the effect of the admitted work order. A slot pinned or claimed meanwhile refuses it (R120). -/
def execVersionSet (r : RingNo) (ph : Phase) (s : State) : Host.Outcome State Fault Refusal :=
  match ph with
  | .read => s.readAs r.val (fun k => k == .vset)
  | .run slot =>
    match s.toRun r.val slot (fun k => k == .vset) with
    | none => .next s
    | some o =>
      let l := woVlayer o.raw
      let k := woVslot o.raw
      if s.versionRefuses l k then
        .next ((s.setOrders (s.seq.orders.filter (fun q => !(q.is o.ring o.slot)))).refuse o 0x0340)
      else
        let x := ((s.layer l).setVer k (woVver o.raw)).setValid k true
        .next ((s.setLayer l (if woMknew o.raw then { x with newest := decide (k = 1) } else x)).markRan r.val slot)

/-- VERSION DROP (R121). -/
def execVersionDrop (r : RingNo) (ph : Phase) (s : State) : Host.Outcome State Fault Refusal :=
  match ph with
  | .read => s.readAs r.val (fun k => k == .vdrop)
  | .run slot =>
    match s.toRun r.val slot (fun k => k == .vdrop) with
    | none => .next s
    | some o =>
      let l := woVlayer o.raw
      let k := woVslot o.raw
      if s.versionRefuses l k then
        .next ((s.setOrders (s.seq.orders.filter (fun q => !(q.is o.ring o.slot)))).refuse o 0x0340)
      else .next ((s.setLayer l ((s.layer l).setValid k false)).markRan r.val slot)

/-- STREAM (R232, R233): the read checks the set; the run loads the entries that were checked into the hubs of the mask. -/
def execStream (r : RingNo) (ph : Phase) (s : State) : Host.Outcome State Fault Refusal :=
  match ph with
  | .read => s.readAs r.val (fun k => k == .stream)
  | .run slot =>
    match s.toRun r.val slot (fun k => k == .stream) with
    | none => .next s
    | some o =>
      let ls := (hubsOf (woMask o.raw)).flatMap (fun h => (List.range 4).map (fun k => 4 * h + k))
      let lset := ls.foldl (fun m l =>
        let e := o.newEntry l
        FMap.put none m l (if e = resetEntry (l % 4) then none else some e)) s.strm.lset
      .next (((s.setStrm { s.strm with lset := lset }).setObj (okey 0x2110 3) (woSetbase o.raw)).markRan r.val slot)

-- a spill's end
/-- Admitted work orders that waited for the copy of their input entry begin their own work (R134). -/
def State.beginMoved (s : State) (entry : Nat) : State :=
  (s.seq.orders.filter (fun o => o.phase == .admitted && o.progress = 0 && o.chain.isNone && !o.ran &&
    (orderEntries o.kind o.raw).contains entry && woEntin o.raw = entry)).foldl (fun s o => s.beginOwn o) s

/-- SPILL_COMPLETE (R128, R134): the copy is in the far allocation, and the near units are free. -/
def execSpillComplete (entry : Nat) (s : State) : Host.Outcome State Fault Refusal :=
  let e := s.entryRec entry
  if enState e ≠ 3 then .next s
  else
    let dst := s.allocBase 1 + 65536 * FMap.get 0 s.stock.spill entry
    let s := { s with mem := copyRange s.mem (enAddr e) dst (65536 * enSize e) }
    let s := s.setStock { s.stock with spill := FMap.put 0 s.stock.spill entry 0 }
    let s := (s.setEntry entry (enSetOnchip (enSetState (enSetAddr e dst) enFar) false)).bump64 (okey 0x2411 2)
    let s := if s.stock.releasing.contains entry && enPins e = 0 then s.freeEntry entry else s
    .next (s.beginMoved entry).pump

end Sys2Proof.Machine
end

