-- ==== Sys2Proof/Machine/Trans.lean ====
section
/-! DEFINITION. The transcendental lanes (R143) and the angle unit (R165). A function's exact value is taken in fixed point to
far more bits than an FP32 result has; the lane gives a free value within the stated error of it. -/

namespace Sys2Proof.Machine

-- reals in fixed point
/-- Fraction bits. -/
def fxP : Nat := 320
def fxOne : Int := 2 ^ fxP
def fxPi : Int := 0x3243f6a8885a308d313198a2e03707344a4093822299f31d0082efa98ec4e6c89452821e638d01377
def fxLn2 : Int := 0xb17217f7d1cf79abc9e3b39803f2f6af40f343267298b62d8a0d175b8baafa2be7b876206debac98
/-- 2 / sqrt pi. -/
def fxErfC : Int := 0x120dd750429b6d11ae3a914fed7fd8688281341d7587cea2e7342b06199cc416180eb39f0b24e1e22
def fxMul (a b : Int) : Int := a * b / fxOne
def fxDiv (a b : Int) : Int := a * fxOne / b
/-- a * 2^k. -/
def fxShift (a k : Int) : Int := if 0 ≤ k then a * 2 ^ k.toNat else a / 2 ^ (-k).toNat
def fxOf : Val → Int
  | .fin neg m e => (if neg then -1 else 1) * fxShift (m : Int) (e + fxP)
  | _ => 0

/-- Sum of a series of `n` terms: the current term, its number, and the next term from both. -/
def fxSum (next : Int → Nat → Int) : Nat → Int → Nat → Int
  | 0, _, _ => 0
  | n + 1, t, k => t + fxSum next n (next t k) (k + 1)

def fxExp (x : Int) : Int :=
  let k := x / fxLn2
  let r := x - k * fxLn2
  fxShift (fxSum (fun t j => fxMul t r / (j + 1)) 80 fxOne 0) k

/-- ln (m * 2^e), for m > 0. -/
def fxLog (m : Nat) (e : Int) : Int :=
  let y := fxShift (m : Int) ((fxP : Int) - m.log2)
  let z := fxDiv (y - fxOne) (y + fxOne)
  let z2 := fxMul z z
  let powers (n : Nat) : Int := fxSum (fun t j => fxMul t z2 * (2 * j + 1) / (2 * j + 3)) n z 0
  2 * powers 110 + (e + m.log2) * fxLn2

def fxTanh (x : Int) : Int :=
  let a := min (max x (-60 * fxOne)) (60 * fxOne)
  let q := fxExp (2 * a)
  fxDiv (q - fxOne) (q + fxOne)
def fxSigma (x : Int) : Int := fxDiv fxOne (fxOne + fxExp (-(min (max x (-200 * fxOne)) (200 * fxOne))))
/-- erf x = 2 / sqrt pi * exp (-x^2) * the sum of 2^n x^(2n+1) / (2n+1)!!. -/
def fxErf (x : Int) : Int :=
  let a := min (max x (-9 * fxOne)) (9 * fxOne)
  let q := fxMul a a
  fxMul (fxMul fxErfC (fxExp (-q))) (fxSum (fun t j => fxMul t (2 * q) / (2 * j + 3)) 450 a 0)

/-- sin (k = 1) or cos (k = 0). -/
def fxTrig (k : Nat) (x : Int) : Int :=
  let r := x - (x + fxPi) / (2 * fxPi) * (2 * fxPi)
  let r2 := fxMul r r
  fxSum (fun t j => -(fxMul t r2) / ((2 * j + 1 + k) * (2 * j + 2 + k))) 80 (if k = 1 then r else fxOne) 0

-- results of a lane
/-- The FP32 unit in the last place at a value. -/
def fxUlp (a : Int) : Int := fxShift 1 (max ((a.natAbs.log2 : Int) - 23) ((fxP : Int) - 149))

/-- A lane's result for an exact value (R143): any FP32 value within n units in the last place of it; which one is free. -/
def lane (n : Int) (a : Int) (free : Nat) : Nat :=
  let u := fxUlp a
  let near : Bool := match dec32 free with
    | .fin neg m e => decide (((fxOf (.fin neg m e) - a).natAbs : Int) + u / 2 ^ 40 ≤ n * u)
    | _ => false
  if near then free else rn32 (.fin (decide (a < 0)) a.natAbs (-(fxP : Int)))

/-- FP32 codes of the domain bounds of exp: -103.98 and 88.72, rounded by rn. -/
def expLo : Nat := rn32 (Val.div (.fin true 10398 0) (Val.ofNat 100))
def expHi : Nat := rn32 (Val.div (.fin false 8872 0) (Val.ofNat 100))

def f32exp (c : Nat) : Nat :=
  if (dec32 c).isNan then f32nan
  else if f32lt c expLo then 0
  else if f32lt expHi c then f32inf
  else lane 1 (fxExp (fxOf (dec32 c))) (Config.expVal c).toNat

/-- At +infinity, which is in the domain, the spec states no error: a free value. -/
def f32log (c : Nat) : Nat :=
  match dec32 c with
  | .nan => f32nan
  | .inf true => f32nan
  | .fin neg m e => if m = 0 then f32ninf else if neg then f32nan else lane 1 (fxLog m e) (Config.logVal c).toNat
  | .inf false => (Config.logVal c).toNat

/-- A function whose domain is all finite x: outside it the spec states no result (a free value). -/
def onFinite (f : Int → Int) (free : Nat → BitVec 32) (c : Nat) : Nat :=
  match dec32 c with
  | .nan => f32nan
  | .inf _ => (free c).toNat
  | v => lane 2 (f (fxOf v)) (free c).toNat

def f32tanh (c : Nat) : Nat := onFinite fxTanh Config.tanhVal c
def f32sigma (c : Nat) : Nat := onFinite fxSigma Config.sigmaVal c
def f32erf (c : Nat) : Nat := onFinite fxErf Config.erfVal c

/-- |x| ≤ 2^20 is the domain of sin and cos (R143). -/
def inTrig (c : Nat) : Bool := (dec32 c).finite && !(Val.lt (Val.pow2 20) (dec32 c).abs)
def f32sin (c : Nat) : Nat := if inTrig c then lane 2 (fxTrig 1 (fxOf (dec32 c))) (Config.sinVal c).toNat else f32nan
def f32cos (c : Nat) : Nat := if inTrig c then lane 2 (fxTrig 0 (fxOf (dec32 c))) (Config.cosVal c).toNat else f32nan

-- the angle unit, R165
/-- FP32 code of 2 pi. -/
def f32TwoPi : Nat := 0x40C90FDB

/-- The frequency base^(-2i/d) for a base m * 2^e > 0. -/
def fxFreq (m : Nat) (e : Int) (d i : Nat) : Int := fxExp (-(2 * (i : Int) * fxLog m e) / (max d 1 : Nat))

/-- The angle (pos * f) mod 2 pi in FP32. The spec gives the operations in binary64 and no order of them, so the result is free
within what roundings of binary64 can make of it (log entry 20); a base that has no powers leaves it free in [0, 2 pi]. -/
def rotAngle (base d i pos : Nat) : Nat :=
  let free := min (Config.angle base d i pos).toNat f32TwoPi
  match dec32 base with
  | .fin false m e =>
    if m = 0 then free
    else if pos = 0 then 0
    else
      let x := (pos : Int) * fxFreq m e d i
      let a := x % (2 * fxPi)
      let err := x / 2 ^ 51
      let at_ (y : Int) : Nat := rn32 (.fin false y.toNat (-(fxP : Int)))
      if a < err ∨ 2 * fxPi < a + err then free else max (at_ (a - err)) (min free (at_ (a + err)))
  | _ => free

end Sys2Proof.Machine
end

