-- ==== Sys2Proof/Machine/Boiler.lean ====
section
/-! DEFINITION. BOIL kinds 0 to 8 (R139 to R148): Boiler reductions and functions, and a forward product taken as a whole.
Each written operation of a formula rounds once to FP32, from left to right (log entry 47). Operands are read from memory
as a token tile runs, and its outputs are written then (log entry 48). -/

namespace Sys2Proof.Machine

-- reductions, R142
/-- Pairwise combination of the lanes: j with j + half, down to lane 0. -/
def combine (f : Nat → Nat → Nat) : Nat → List Nat → Nat
  | 0, l => l.headD 0
  | k + 1, l => combine f k (List.zipWith f (l.take (2 ^ k)) (l.drop (2 ^ k)))

/-- A reduction over a row of D elements: 64 lanes in ascending order, then pairwise. -/
def reduce (d : Nat) (init : Nat) (step : Nat → Nat → Nat) (join : Nat → Nat → Nat) : Nat :=
  let lane (j : Nat) : Nat := (List.range (cdiv (d - j) 64)).foldl (fun a k => step a (j + 64 * k)) init
  combine join 6 ((List.range 64).map lane)

def rowSum (d : Nat) (x : Nat → Nat) : Nat := reduce d 0 (fun a j => f32add a (x j)) f32add
def rowDot (d : Nat) (x y : Nat → Nat) : Nat := reduce d 0 (fun a j => f32fma (x j) (y j) a) f32add
/-- The lanes start from -infinity here: the +0 that R142 names is the start of a sum (DESIGN CHOICE, log entry 16). -/
def rowMax (d : Nat) (x : Nat → Nat) : Nat := reduce d f32ninf (fun a j => f32max a (x j)) f32max

-- element-wise functions, R146
def cSqrt2 : Nat := 0x3FB504F3
def cSqrt2Pi : Nat := 0x40206C99
def cSqrt2OverPi : Nat := 0x3F4C422A
def cGelu1 : Nat := 0x3D372713
def cGelu2 : Nat := 0x3E095D4F
def cHalf : Nat := 0x3F000000
def cTwo : Nat := 0x40000000
def c16 : Nat := 0x41800000

def relu (x : Nat) : Nat := if (dec32 x).isNan then f32nan else if f32lt 0 x then x else 0
def phi (x : Nat) : Nat := f32div (f32add f32one (f32erf (f32div x cSqrt2))) cTwo
def geluT (x : Nat) : Nat := f32tanh (f32mul cSqrt2OverPi (f32add x (f32mul cGelu1 (f32mul (f32mul x x) x))))

/-- Forward f(x), by row of the table. -/
def pointF (fn x : Nat) : Nat :=
  match fn with
  | 0 => relu x
  | 1 => let m := relu x; f32mul m m
  | 2 => f32sigma x
  | 3 => f32tanh x
  | 4 => f32log (f32add f32one (f32exp x))
  | 5 => f32mul x (f32sigma x)
  | 6 => f32mul x (phi x)
  | _ => f32div (f32mul x (f32add f32one (geluT x))) cTwo

/-- GELU derivatives are exactly 0 below -16 and 1 above 16. -/
def geluClip (x v : Nat) : Nat := if f32lt x (f32neg c16) then 0 else if f32lt c16 x then f32one else v

/-- The derivative formed. -/
def pointD (fn x : Nat) : Nat :=
  match fn with
  | 0 => if (dec32 x).isNan then f32nan else if f32lt 0 x then f32one else 0
  | 1 => f32mul cTwo (relu x)
  | 2 => let s := f32sigma x; f32mul s (f32sub f32one s)
  | 3 => let t := f32tanh x; f32sub f32one (f32mul t t)
  | 4 => f32sigma x
  | 5 => let s := f32sigma x; f32mul s (f32add f32one (f32mul x (f32sub f32one s)))
  | 6 => geluClip x (f32add (phi x) (f32div (f32mul x (f32exp (f32neg (f32div (f32mul x x) cTwo)))) cSqrt2Pi))
  | _ =>
    let t := geluT x
    let a := f32div (f32add f32one t) cTwo
    let b := f32mul (f32mul x (f32sub f32one (f32mul t t))) cSqrt2OverPi
    geluClip x (f32add a (f32div (f32mul b (f32add f32one (f32mul cGelu2 (f32mul x x)))) cTwo))

-- operands
/-- FP32 code of element (i, j) of a tile-blocked tensor in an element format of `elemVal`. -/
def State.elem32 (s : State) (base fmt d i j : Nat) : Nat :=
  rn32 (elemVal fmt (s.rdN (base + tileOff d (elemSize fmt) i j) (elemSize fmt)))

/-- GFMT as an element format: E5M2, E4M3, BF16, FP32. -/
def gFmt (g : Nat) : Nat := match g with
  | 0 => 1
  | 1 => 0
  | 2 => 6
  | _ => 7

/-- A0's base and format, from the entry or the work order (R288). -/
def State.boilIn (s : State) (w : Nat) : Nat × Nat :=
  if woEntin w < 16384 then (enAddr (s.entryRec (woEntin w)), inFmt (enFormat (s.entryRec (woEntin w))))
  else (woA w 0, inFmt (woIfmt w))

def State.boilX (s : State) (w i j : Nat) : Nat := s.elem32 (s.boilIn w).1 (s.boilIn w).2 (woI w) i j
def State.boilA1 (s : State) (w i j : Nat) : Nat := s.elem32 (woA w 1) 7 (woI w) i j
def State.boilA2 (s : State) (w i j : Nat) : Nat := s.elem32 (woA w 2) (gFmt (fld w 40 4 2)) (woI w) i j

/-- Tokens of a tile. -/
def tokensOf (w q : Nat) : List Nat := ((List.range 16).map (fun k => 16 * q + k)).filter (fun t => decide (t < woT w))

/-- Write the rows of token tile q of a T × D result in OFMT, counting conversions (R56, R57); the infinity option is the
header's. -/
def State.boilOut (s : State) (r slot w base d q : Nat) (f : Nat → Nat → Nat) : State :=
  let fm := woBOfmt w
  let size := ofmtSize fm
  let els := (tokensOf w q).flatMap (fun i => (List.range d).map (fun j => (i, j)))
  let res := els.map (fun e => (base + tileOff d size e.1 e.2, convert fm (woInf w) (dec32 (f e.1 e.2))))
  let s := res.foldl (fun s e => s.countOut r slot e.2.2) s
  (joinWrites (res.map (fun e => (e.1, leBytes size e.2.1)))).foldl (fun s x => s.store x.1 x.2) s

/-- Parameter gradients of token tile q (R148): one event per group; `f` gives the partial of region element (a, b) over the
tokens of the tile. -/
def State.paramGrads (s : State) (r slot w rows : Nat) (f : Nat → Nat → Nat) : State :=
  let n := woRegion w
  let d := s.regionDesc n
  let els := (List.range rows).flatMap (fun a => (List.range (woI w)).map (fun b => (a, b)))
  (List.range (rgTileCols d)).foldl (fun s g =>
    let vals := (els.filter (fun e => (rgElem d e.1 e.2).1 = g)).map (fun e => ((rgElem d e.1 e.2).2, dec32 (f e.1 e.2)))
    s.promoteEvent r slot (woHomehub w) (groupKey n g) vals) s

/-- Statistics of a row (R144): mean (layer form) and r. -/
def State.normStats (s : State) (w i : Nat) : Nat × Nat :=
  let d := woI w
  let n := f32ofNat d
  let x := s.boilX w i
  if woLayerNorm w then
    let mu := f32div (rowSum d x) n
    let c (j : Nat) : Nat := f32sub (x j) mu
    (mu, f32rsqrt (f32add (f32div (rowDot d c c) n) (woEps w)))
  else (0, f32rsqrt (f32add (f32div (rowDot d x x) n) (woEps w)))

/-- x̂ of the layer form. -/
def State.xhat (s : State) (w : Nat) (st : Nat × Nat) (i j : Nat) : Nat := f32mul (f32sub (s.boilX w i j) st.1) st.2

-- the kinds: token tile q of each, read in the state `v` and written in `s`; row i of the tile has its statistics at place i % 16
/-- NORM (R144). -/
def State.runNorm (s v : State) (r slot w out q : Nat) : State :=
  let stats := (tokensOf w q).map (fun i => v.normStats w i)
  s.boilOut r slot w out (woI w) q (fun i j =>
    let st := stats.getD (i % 16) (0, 0)
    if woLayerNorm w then f32add (f32mul (v.boilA1 w 0 j) (v.xhat w st i j)) (v.boilA2 w 0 j)
    else f32mul (f32mul (v.boilA1 w 0 j) (v.boilX w i j)) st.2)

/-- NORMB (R144, R148). -/
def State.runNormb (s v : State) (r slot w out q : Nat) : State :=
  let d := woI w
  let n := f32ofNat d
  let u (i j : Nat) : Nat := f32mul (v.boilA1 w 0 j) (v.boilA2 w i j)
  let rows := (tokensOf w q).map (fun i =>
    let st := v.normStats w i
    if woLayerNorm w then
      (st, f32div (rowSum d (u i)) n, f32div (rowDot d (u i) (v.xhat w st i)) n)
    else (st, 0, f32div (rowDot d (v.boilX w i) (u i)) n))
  let row (i : Nat) : (Nat × Nat) × Nat × Nat := rows.getD (i % 16) ((0, 0), 0, 0)
  let t := s.boilOut r slot w out d q (fun i j =>
    let (st, a, b) := row i
    if woLayerNorm w then f32mul st.2 (f32sub (f32sub (u i j) a) (f32mul (v.xhat w st i j) b))
    else f32sub (f32mul st.2 (u i j)) (f32mul (f32mul (f32mul (f32mul st.2 st.2) st.2) (v.boilX w i j)) b))
  t.paramGrads r slot w (if woLayerNorm w then 2 else 1) (fun a j =>
    (tokensOf w q).foldl (fun acc i =>
      let dy := v.boilA2 w i j
      if a = 1 then f32add acc dy
      else if woLayerNorm w then f32fma dy (v.xhat w (row i).1 i j) acc
      else f32fma (f32mul dy (v.boilX w i j)) (row i).1.2 acc) 0)

/-- Maximum, sum and probabilities of a row of scores (R145). -/
def State.softRow (s : State) (w i : Nat) : Nat × Nat :=
  let d := woI w
  let m := rowMax d (s.boilX w i)
  (m, reduce d 0 (fun a j => f32add a (f32exp (f32sub (s.boilX w i j) m))) f32add)
def State.softP (s : State) (w : Nat) (st : Nat × Nat) (i j : Nat) : Nat := f32div (f32exp (f32sub (s.boilX w i j) st.1)) st.2

/-- SOFTMAX (R145). -/
def State.runSoftmax (s v : State) (r slot w out q : Nat) : State :=
  let stats := (tokensOf w q).map (fun i => v.softRow w i)
  s.boilOut r slot w out (woI w) q (fun i j => v.softP w (stats.getD (i % 16) (0, 0)) i j)

/-- SOFTMAXB (R145). -/
def State.runSoftmaxb (s v : State) (r slot w out q : Nat) : State :=
  let d := woI w
  let rows := (tokensOf w q).map (fun i => let st := v.softRow w i; (st, rowDot d (v.softP w st i) (v.boilA2 w i)))
  s.boilOut r slot w out d q (fun i j =>
    let (st, dot) := rows.getD (i % 16) ((0, 0), 0)
    f32mul (v.softP w st i j) (f32sub (v.boilA2 w i j) dot))

/-- POINT (R141, R146). -/
def State.runPoint (s v : State) (r slot w out q : Nat) : State :=
  s.boilOut r slot w out (woI w) q (fun i j =>
    let f := pointF (woFn w) (v.boilX w i j)
    if woGated w then f32mul f (v.boilA1 w i j) else f)

/-- POINTB (R146). -/
def State.runPointb (s v : State) (r slot w out q : Nat) : State :=
  let fn := woFn w
  let t := s.boilOut r slot w out (woI w) q (fun i j =>
    let dh := v.boilA2 w i j
    let g := if woGated w then f32mul dh (v.boilA1 w i j) else dh
    f32mul g (pointD fn (v.boilX w i j)))
  if woGated w then t.boilOut r slot w (woA w 4) (woI w) q (fun i j => f32mul (v.boilA2 w i j) (pointF fn (v.boilX w i j))) else t

/-- DWCONV (R147). -/
def State.runDwconv (s v : State) (r slot w out q : Nat) : State :=
  s.boilOut r slot w out (woI w) q (fun t c =>
    (List.range (woTaps w)).foldl (fun a k => f32fma (v.boilA1 w k c) (if k ≤ t then v.boilX w (t - k) c else 0) a) 0)

/-- DWCONVB (R147, R148). -/
def State.runDwconvb (s v : State) (r slot w out q : Nat) : State :=
  let u := s.boilOut r slot w out (woI w) q (fun t c =>
    (List.range (woTaps w)).foldl (fun a k => f32fma (v.boilA1 w k c) (if t + k < woT w then v.boilA2 w (t + k) c else 0) a) 0)
  u.paramGrads r slot w (woTaps w) (fun k c =>
    (tokensOf w q).foldl (fun a t => f32fma (if k ≤ t then v.boilX w (t - k) c else 0) (v.boilA2 w t c) a) 0)

-- PRODUCT as a whole
/-- Stationary and moving codes of a plan from memory (R188). -/
def State.memSt (s : State) (p : Plan) (x k : Nat) : Option Nat :=
  if s.flakeAt p x k then some ((s.zeroPoint p.st x + 256).toNat % 256)
  else some (let (i, j) := if p.st.turned then (k, x) else (x, k); s.memCode p.st i j)
def State.memMv (s : State) (p : Plan) (y k : Nat) : Option Nat :=
  some (let (i, j) := if p.mv.turned then (y, k) else (k, y); s.memCode p.mv i j)

/-- Array whose cells form an element of a block. -/
def arrayOf (shape x y : Nat) : Nat := match shape with
  | 0 => y / 16
  | 1 => 2 * (x / 16) + y / 16
  | 2 => x / 16
  | 3 => 0
  | 4 => x / 64
  | _ => 4

/-- The values promoted into output (i, j): the chunks in ascending order, each with its flakes (R140, R41, R188). -/
def State.productParts (s : State) (p : Plan) (i j : Nat) : List Val :=
  let b := p.setOf i j
  let (r0, c0) := p.origin b 0
  let a := arrayOf p.shape (i - r0) (j - c0)
  (List.range p.chunks).flatMap (fun c =>
    let k0 := c * p.l
    let n := min p.l (p.k - k0)
    let an := if p.win then (p.anchor (s.memSt p) (s.memMv p) { b := b } { chunk := c } a).getD 0 else 0
    let cell := (List.range n).foldl (fun (cell : Cell) k =>
      let x := ((s.memSt p i (k0 + k)).getD 0)
      let y := ((s.memMv p j (k0 + k)).getD 0)
      if p.shape = 5 then cell.add p true true y x else cell.add p true true x y) { anchor := an }
    s.chunkValue p cell i j k0 :: (match (if p.cls = 0 then none else s.flakeValue p i j (p.laneCols c0) k0 n) with
    | some f => [f.1]
    | none => []))

/-- Flake products of a whole product (2611/08). -/
def State.flakeTotal (s : State) (p : Plan) : Nat :=
  if p.cls = 0 ∨ p.st.qd.isNone then 0 else (s.flakes p).length * p.m * p.n

/-- PRODUCT (R140). -/
def State.runProduct (s v : State) (o : Order) (out : Nat) : State :=
  let w := o.raw
  let p := s.partPlan o {}
  let fm := woBOfmt w
  let size := ofmtSize fm
  let els := (List.range p.m).flatMap (fun i => (List.range p.n).map (fun j => (i, j)))
  let vals := els.map (fun e => (e, v.productParts p e.1 e.2))
  let res := vals.map (fun e => (out + tileOff p.n size e.1.1 e.1.2, convert fm (woInf w) (dec32 (e.2.foldl promote32 0))))
  let s := (vals.flatMap (fun e => e.2)).foldl (fun s v => s.countNonfinite o.ring o.slot v) s
  let s := s.bump 64 (okey 0x2611 8) (s.flakeTotal p)
  let s := res.foldl (fun s e => s.countOut o.ring o.slot e.2.2) s
  (joinWrites (res.map (fun e => (e.1, leBytes size e.2.1)))).foldl (fun s x => s.store x.1 x.2) s

/-- Token tile q of a BOIL work order of kinds 1 to 8, with its output at an address; the whole of a PRODUCT. -/
def State.runTile (s v : State) (o : Order) (b out q : Nat) : State :=
  let w := o.raw
  match b with
  | 0 => s.runProduct v o out
  | 1 => s.runNorm v o.ring o.slot w out q
  | 2 => s.runNormb v o.ring o.slot w out q
  | 3 => s.runSoftmax v o.ring o.slot w out q
  | 4 => s.runSoftmaxb v o.ring o.slot w out q
  | 5 => s.runPoint v o.ring o.slot w out q
  | 6 => s.runPointb v o.ring o.slot w out q
  | 7 => s.runDwconv v o.ring o.slot w out q
  | _ => s.runDwconvb v o.ring o.slot w out q

/-- Token tiles of a BOIL work order (R141); a PRODUCT run as a whole counts as one. -/
def boilTiles (w b : Nat) : Nat := if b = 0 then 1 else cdiv (woT w) 16

/-- A BOIL tile runs with its input entry read through the on-chip copy, if it has one (R126). -/
def State.tileOf (s : State) (o : Order) (b out q : Nat) : State :=
  let n := woEntin o.raw
  let s := if n < 16384 then s.mendCopy n else s
  s.runTile (s.viewEntry n) o b out q

/-- The whole effect of a BOIL work order of kinds 0 to 8 with its output at an address. -/
def State.runBoil (s : State) (o : Order) (b out : Nat) : State :=
  (List.range (boilTiles o.raw b)).foldl (fun s q => s.tileOf o b out q) s

/-- A pan runs a work order at its level (R372), clocked. -/
def State.panUp (s : State) (o : Order) (p : Nat) : Bool :=
  let x := s.pan p
  s.running 8 && x.state == .running && x.job = some (o.ring, o.slot) && decide (x.demand ≤ x.level)

/-- Every pan of a work order's mask runs it at its level. -/
def State.pansUp (s : State) (o : Order) : Bool :=
  s.running 8 && (hubsOf (woMask o.raw)).all (fun h => (List.range 64).all (fun k => s.panUp o (64 * h + k)))

/-- The run of a BOIL row of kind b, after its chain links: the next token tile q, on pan q mod P (R141; the tiles are taken in
ascending order, log entry 48); or a PRODUCT as a whole, on all its pans, unless its beats have begun: then they finish it. -/
def State.boilRun (s : State) (r slot b : Nat) : State :=
  match s.toRun r slot (fun k => k == .boil b) with
  | none => s
  | some o =>
    let q := o.tiles
    let begun := s.pans.any (fun e => e.2.job = some (r, slot) && (e.2.issued || e.2.arrs.any (fun a => decide (0 < a.2.loaded))))
    let up := if b = 0 then s.pansUp o && !begun else s.panUp o (panAt (woMask o.raw) (q % pansOf (woMask o.raw)))
    if o.chain.isSome || o.progress ≠ 1 || !up then s
    else
      let out := if woEntout o.raw < 16384 then enAddr (s.comingOf o (woEntout o.raw)) else woA o.raw 3
      (s.tileOf o b out q).updOrder r slot (fun o => { o with tiles := q + 1, ran := decide (boilTiles o.raw b ≤ q + 1) })

/-- A BOIL row: read and checked, or run. -/
def State.boilRow (s : State) (r b : Nat) (ph : Phase) : Host.Outcome State Fault Refusal :=
  match ph with
  | .read => s.readAs r (fun k => k == .boil b)
  | .run slot => .next (s.boilRun r slot b)

/-- PRODUCT (R140). -/
def execProduct (r : RingNo) (ph : Phase) (s : State) : Host.Outcome State Fault Refusal := s.boilRow r.val 0 ph
/-- NORM (R144). -/
def execNorm (r : RingNo) (ph : Phase) (s : State) : Host.Outcome State Fault Refusal := s.boilRow r.val 1 ph
/-- NORMB (R144, R148). -/
def execNormb (r : RingNo) (ph : Phase) (s : State) : Host.Outcome State Fault Refusal := s.boilRow r.val 2 ph
/-- SOFTMAX (R145). -/
def execSoftmax (r : RingNo) (ph : Phase) (s : State) : Host.Outcome State Fault Refusal := s.boilRow r.val 3 ph
/-- SOFTMAXB (R145). -/
def execSoftmaxb (r : RingNo) (ph : Phase) (s : State) : Host.Outcome State Fault Refusal := s.boilRow r.val 4 ph
/-- POINT (R146). -/
def execPoint (r : RingNo) (ph : Phase) (s : State) : Host.Outcome State Fault Refusal := s.boilRow r.val 5 ph
/-- POINTB (R146). -/
def execPointb (r : RingNo) (ph : Phase) (s : State) : Host.Outcome State Fault Refusal := s.boilRow r.val 6 ph
/-- DWCONV (R147). -/
def execDwconv (r : RingNo) (ph : Phase) (s : State) : Host.Outcome State Fault Refusal := s.boilRow r.val 7 ph
/-- DWCONVB (R147, R148). -/
def execDwconvb (r : RingNo) (ph : Phase) (s : State) : Host.Outcome State Fault Refusal := s.boilRow r.val 8 ph

-- chain links, R135 to R138
/-- A recipe work order with its entries, version and hubs filled in: ENTIN k, ENTOUT the output marker. -/
def linkWord (w k fver mask ver : Nat) : Nat :=
  let w := if woEntin w = 0xFFFF then putField w (8 * 36) 16 k else w
  let w := if ver = 0xFFFF then putField w (8 * 18) 16 fver else w
  putField w 64 64 mask

/-- A work order of a link: its kind, its word with everything filled in, the order that it makes, and whether it writes the link's
output. -/
structure LinkWo where
  b : Nat
  w : Nat
  q : Order
  isOut : Bool
deriving DecidableEq, Repr

/-- One work order of a recipe as link k takes it; none where no link may hold it. -/
def State.linkWo (s : State) (o : Order) (k out w0 : Nat) : Option LinkWo :=
  match kindOf w0 with
  | some (.boil b) =>
    if 9 ≤ b then none
    else
      let w := linkWord w0 k (enFver (s.entryRec k)) (woMask o.raw) (woExpver w0)
      -- the output marker stands for the link's output; for the checks it is an entry that may be written
      let isOut := decide (woEntout w0 = 0xFFFE)
      let wc := if isOut then putField w (8 * 38) 16 out else w
      if !isOut && decide (woEntout w < 16384) then none
      else some { b := b, w := w, q := { s.takeUp o.ring (.boil b) wc with slot := o.slot }, isOut := isOut }
  | _ => none

/-- The entry is pinned for the work order, once (R136). -/
def State.pinLink (s : State) (o : Order) (n : Nat) : State :=
  if (s.order? o.ring o.slot).any (fun o => o.pinEnts.contains n) then s
  else (s.pinEntry n).updOrder o.ring o.slot (fun o => { o with pinEnts := o.pinEnts ++ [n] })

/-- What a link's work order reads is pinned until the resolving work order's completion record (R116, R130, R136). -/
def State.linkPins (s : State) (o : Order) (x : LinkWo) : State :=
  let s := (orderEntries x.q.kind x.q.raw).foldl (fun s n => s.pinLink o n) s
  if x.q.kind.readsWeights then
    let l := woLayer x.w
    let k := woWslot x.w
    (s.setLayer l ((s.layer l).setPin k ((s.layer l).pin k + 1))).updOrder o.ring o.slot (fun o => { o with linkSlots := (l, k) :: o.linkSlots })
  else s

/-- As a link begins, the work orders of its recipe are read, checked and pinned (R136); none where one is refused. -/
def State.linkBegin (s : State) (o : Order) (k out a n : Nat) : Option (State × List LinkWo) :=
  (List.range n).foldl (fun (acc : Option (State × List LinkWo)) i => acc.bind (fun acc =>
    (acc.1.linkWo o k out (acc.1.rdN (a + 128 * i) 128)).bind (fun x =>
      let s := (acc.1.readQds (namedQds x.q.kind x.q.raw)).readRegions x.q
      match firstBad (s.checks x.q ++ s.lateChecks x.q) with
      | some _ => none
      | none => some (s.linkPins o x, acc.2 ++ [x])))) (some (s, []))

/-- A work order of a link runs, into the link's output or where its word names (R137): none where the output does not fit. -/
def State.runLink (s : State) (out : Nat) (x : LinkWo) : Option State :=
  let s := if x.q.rewet && !(named x.q.kind x.q.raw).isEmpty then s.bump64 (okey 0x2611 7) else s
  if x.isOut then
    (if s.comingOf x.q out = 0 then s.reserve x.q out (woT x.w) (if x.b = 0 then woO x.w else woI x.w) (woBOfmt x.w) else some s).map
      (fun s => s.runBoil x.q x.b (enAddr (s.comingOf x.q out)))
  else some (s.runBoil x.q x.b (woA x.w 3))

/-- The COUNT + 1 work orders of a recipe, checked and run in order, up to the first that cannot; whether all did. -/
def State.recipe (s : State) (o : Order) (k out a n : Nat) : State × Bool :=
  match s.linkBegin o k out a n with
  | none => (s, false)
  | some b => b.2.foldl (fun (acc : State × Bool) x =>
      if !acc.2 then acc
      else match acc.1.runLink out x with
        | none => (acc.1, false)
        | some s => (s, true)) (b.1, true)

/-- Link k of a chain has been retained or regenerated: the next one follows, or the work order's own part begins (R136). -/
def State.linkDone (s : State) (r slot k last ran : Nat) : State :=
  let s := s.updOrder r slot (fun o => { o with chain := if k + 1 < last then some (k + 1, last) else none, links := o.links + ran })
  if k + 1 < last then s
  else match s.order? r slot with
    | some o => s.beginOwn o
    | none => s

/-- CHAIN_LINK (R136, R137): the next link of an admitted BOIL, or the skip of one. A link whose input is Spilling waits for the
copy (R134). -/
def execChainLink (r : RingNo) (slot : Nat) (s : State) : Host.Outcome State Fault Refusal :=
  match s.order? r.val slot with
  | none => .next s
  | some o =>
    match o.chain with
    | none => .next s
    | some (k, last) =>
      if !(o.phase == .admitted) || !(s.pansUp o) || !s.awake || !s.live then .next s
      else
        let e := 64 * (woEntin o.raw / 64) + k
        if retained (s.entryRec (e + 1)) then .next ((s.pinLink o (e + 1)).linkDone r.val slot k last 0)
        else if enState (s.entryRec e) = 3 then .next s
        else
          let rec_ := s.rdN (s.obj (okey 0x2410 7) + 16 * enRecipe (s.entryRec e)) 16
          let t := s.pinLink o (e + 1)
          match (if bit rec_ 60 then t.recipe o e (e + 1) (bits rec_ 0 52) (bits rec_ 52 8 + 1) else (t, false)) with
          | (s, false) => .next ((s.forsake o (e + 1)).chainFail o)
          | (s, true) => .next (((s.arrived o (e + 1) (fun e => e)).bump64 (okey 0x2411 6)).linkDone r.val slot k last 1)

end Sys2Proof.Machine
end

