-- ==== Sys2Proof/Machine/Attention.lean ====
section
/-! DEFINITION. Attention over the ring (R151 to R181): rotary codes and masks, the slices of ATTS, ATTF and ATTB, the
riders, the circulation of blocks, and the KV page walkers. A block is processed query block by query block, each on its pan (R155;
log entry 48). -/

namespace Sys2Proof.Machine

-- parameters, R152, R154
def attG (w : Nat) : Nat := 2 ^ woGcode w
def attHq (w : Nat) : Nat := attG w * woHkv w
/-- Blocks per package. -/
def attB (w : Nat) : Nat := woTq w / 1024
def attOut (w : Nat) : Bool := woBkind w = 10 && woOpcode w = 0x20
def Order.isB (o : Order) : Bool := o.kind == .attb

/-- The attention work order that runs or waits pre-empted (log entry 46). -/
def State.attOrder? (s : State) : Option Order :=
  if s.awake then s.seq.orders.find? (fun o => o.kind.isAtt && o.live && !o.ran) else none

def State.setAtt (s : State) (a : Att) : State := { s with att := a }
def State.setRev (s : State) (v : Rev) : State := s.setAtt { s.att with rev := some v }

/-- A fault of function 5 on a work order. -/
def State.attFault (s : State) (o : Option Order) (code : Nat) : State :=
  match o with
  | some o => s.fault 5 code { slot := o.slot, ring := o.ring }
  | none => s.fault 5 code {}

-- rotary codes, R165
/-- Partner places of element e: a, b, whether e is b, and the pair index. -/
def rotPair (rot d e : Nat) : Nat × Nat × Bool × Nat :=
  if rot = 1 then (2 * (e / 2), 2 * (e / 2) + 1, e % 2 = 1, e / 2)
  else (e % (d / 2), e % (d / 2) + d / 2, decide (d / 2 ≤ e), e % (d / 2))

/-- Coded element e of a row of FP32 codes. -/
def rotFwd (rot d base pos : Nat) (x : Nat → Nat) (e : Nat) : Nat :=
  if rot = 0 then x e
  else
    let (a, b, isB, i) := rotPair rot d e
    let c := f32cos (rotAngle base d i pos)
    let n := f32sin (rotAngle base d i pos)
    if isB then f32fma (x a) n (f32mul (x b) c) else f32fma (x a) c (f32neg (f32mul (x b) n))

/-- Inverse coding of a gradient row. -/
def rotInv (rot d base pos : Nat) (x : Nat → Nat) (e : Nat) : Nat :=
  if rot = 0 then x e
  else
    let (a, b, isB, i) := rotPair rot d e
    let c := f32cos (rotAngle base d i pos)
    let n := f32sin (rotAngle base d i pos)
    if isB then f32fma (f32neg (x a)) n (f32mul (x b) c) else f32fma (x a) c (f32mul (x b) n)

/-- A row of E4M3 codes, coded and converted back to E4M3; without rotary coding it stays as it is. -/
def codeRow (rot d base pos : Nat) (x : Nat → Nat) : List Nat :=
  (List.range d).map (fun e => if rot = 0 then x e
    else convertSat 1 (dec32 (rotFwd rot d base pos (fun k => rn32 (elemVal 0 (x k))) e)))

-- operands
/-- Code of element e of head h, token t, of a T_q × (H_q × d) tile-blocked tensor of one byte an element. -/
def State.attElem (s : State) (w base h t e : Nat) : Nat := (s.rd8 (base + tileOff (attHq w * woHd w) 1 t (h * woHd w + e))).toNat
/-- The coded query row q̃. -/
def State.attQ (s : State) (w h t : Nat) : List Nat :=
  codeRow (woRot w) (woHd w) (woRotbase w) (woQpos w + t) (s.attElem w (woQbase w) h t)

/-- Place of element (j, e) of KV head k in the coded keys, values or a rider half of a block. -/
def kvPlace (d k j e : Nat) : Nat := k * (1024 * d) + tileOff d 1 j e
def KvBlock.key (b : KvBlock) (d k j e : Nat) : Nat := (b.keys.getD (kvPlace d k j e) 0).toNat
def KvBlock.val (b : KvBlock) (d k j e : Nat) : Nat := (b.vals.getD (kvPlace d k j e) 0).toNat
/-- Place of a rider element: dK̃ (0) then dV (1) of each KV head (R168). -/
def riderPlace (d k half j e : Nat) : Nat := (2 * k + half) * (1024 * d) + tileOff d 1 j e

/-- The exact sum of the products of pairs of codes, NaN for a chunk that holds a non-finite operand (R29, R33). -/
def dotCodes (f g : Nat) (l : List (Nat × Nat)) : Val :=
  let w : Int := match pairWeight f g with
    | some (some w) => w
    | _ => 0
  match l.foldl (fun (a : Option Int) x => match a, productUnits f g x.1 x.2 w with
    | some a, some u => some (a + u)
    | _, _ => none) (some 0) with
  | some t => Val.mul (Val.ofInt t) (Val.pow2 w)
  | none => .nan

-- masks, R166
/-- Key j of a block is masked for the query row of token t. -/
def State.attMasked (s : State) (w n : Nat) (b : KvBlock) (t j : Nat) : Bool :=
  let k := (t / 1024) * (n * attB w) + b.owner * attB w + b.block
  decide (b.tokens ≤ j) || (woCausal w && decide (woQpos w + t < b.pos + j)) ||
    (woSpbase w ≠ 0 && !(bit (s.rd8 (woSpbase w + k / 8)).toNat (k % 8)))

/-- Tokens of query block qb: its head and its 64 rows (R155). -/
def qbHead (w qb : Nat) : Nat := qb / (woTq w / 64)
def qbRow (w qb i : Nat) : Nat := 64 * (qb % (woTq w / 64)) + i

/-- A pair of query block and block in which every key is masked for every row (R167). -/
def State.attSkipped (s : State) (w n : Nat) (b : KvBlock) (qb : Nat) : Bool :=
  (List.range 64).all (fun i => (List.range 1024).all (fun j => s.attMasked w n b (qbRow w qb i) j))

/-- FP32 score of a pair, scaled; none when masked (R151). -/
def State.score (s : State) (w n : Nat) (b : KvBlock) (k t : Nat) (q : List Nat) (j : Nat) : Option Nat :=
  if s.attMasked w n b t j then none
  else
    let d := woHd w
    let v := dotCodes 0 0 ((List.range d).map (fun e => (q.getD e 0, b.key d k j e)))
    some (f32mul (woC w) (promote32 0 v))

-- rows of ATTS and ATTF, R157, R158, R163
/-- What one slice, or one work order's processing of a block, counts. -/
structure AttCount where
  factors : Nat := 0
  sat : Nat := 0

def AttCount.add (a b : AttCount) : AttCount := ⟨a.factors + b.factors, a.sat + b.sat⟩

def Row.a (x : Row) (k : Nat) : Nat := FMap.get f32one x.scale k
def Row.setA (x : Row) (k v : Nat) : Row := { x with scale := FMap.put f32one x.scale k v }
def Row.setT (x : Row) (e v : Nat) : Row := { x with acc := FMap.put 0 x.acc e v }
def Row.t (x : Row) (e : Nat) : Nat := FMap.get 0 x.acc e

/-- rise(m_c) of R158, or eager rescaling (R159). -/
def Row.rise (x : Row) (d mc : Nat) (eager out : Bool) : Row :=
  if !(f32lt x.m mc) then x
  else
    let x := if x.m = f32ninf then x
      else
        let f := f32exp (f32sub x.m mc)
        let x := { x with l := f32mul x.l f }
        if !out then x
        else if eager then (List.range d).foldl (fun x e => x.setT e (f32mul (x.t e) f)) x
        else (List.range (d / 16)).foldl (fun x k => x.setA k (f32mul (x.a k) f)) x
    { x with m := mc }

/-- One promotion into every tile of a row (step 4): `v e` is exact. -/
def Row.promote (x : Row) (d : Nat) (v : Nat → Val) : Row × AttCount :=
  (List.range (d / 16)).foldl (fun (acc : Row × AttCount) k =>
    let a := acc.1.a k
    let x := (List.range 16).foldl (fun (x : Row) c =>
      let e := 16 * k + c
      x.setT e (match v e with
        | .nan => f32nan
        | y => rn32 (Val.add (Val.mul (dec32 a) (dec32 (x.t e))) y))) acc.1
    (x.setA k f32one, acc.2.add { factors := if a = f32one then 0 else 1 })) (x, {})

/-- Chunk ranges of n positions at chunk length l: first position and length. -/
def chunksOf (n l : Nat) : List (Nat × Nat) := (List.range (cdiv n l)).map (fun k => (k * l, min l (n - k * l)))

/-- One key slice of a row in ATTS or ATTF (R157). -/
def State.rowSlice (s : State) (w n : Nat) (b : KvBlock) (k t : Nat) (q : List Nat) (slice : Nat) (x : Row) : Row × AttCount :=
  if (dec32 x.m).isNan then (x, {})
  else
    let d := woHd w
    let out := attOut w
    let sc := (List.range 256).map (fun j => s.score w n b k t q (256 * slice + j))
    if sc.any (fun z => z.any (fun z => (dec32 z).isNan)) then ({ x with m := f32nan, l := f32nan }, {})
    else
      let mc := sc.foldl (fun m z => match z with
        | some z => f32max m z
        | none => m) f32ninf
      let x := x.rise d mc (s.obj (okey 0x2590 8) = 1) out
      let p := sc.map (fun z => match z with
        | some z => convertSat 1 (Val.mul (Val.pow2 8) (dec32 (f32exp (f32sub z x.m))))
        | none => 0)
      let px (j : Nat) : Nat := p.getD j 0
      let x := { x with l := f32add x.l (rowSum 256 (fun j => rn32 (Val.mul (elemVal 0 (px j)) (Val.pow2 (-8))))) }
      if !out then (x, {})
      else (chunksOf 256 (min (chunkLen w) 256)).foldl (fun (acc : Row × AttCount) c =>
        let js := ((List.range c.2).map (fun i => c.1 + i)).filter (fun j => (sc.getD j none).isSome)
        let (x, cnt) := acc.1.promote d (fun e =>
          Val.mul (dotCodes 0 0 (js.map (fun j => (px j, b.val d k (256 * slice + j) e)))) (Val.pow2 (-8)))
        (x, acc.2.add cnt)) (x, {})

-- rows of ATTB, R161 to R163
/-- The codes that a row of a slice forms: P′ and dŜ of its 256 keys, and which of them are not masked (R166). -/
structure AttTile where
  p : List Nat := []
  ds : List Nat := []
  live : List Bool := []

/-- Steps 1 to 4 of R162 for a row: m, r in `x.m`, `x.l`, D_i as element 0 of `x.scale`. -/
def State.rowTile (s : State) (w n : Nat) (b : KvBlock) (k h t : Nat) (q : List Nat) (slice : Nat) (x : Row) : AttTile × AttCount :=
  let d := woHd w
  let dO := (List.range d).map (s.attElem w (woAttBase w 1) h t)
  let D := FMap.get f32one x.scale 0
  let one (j : Nat) : Nat × Nat × Bool × AttCount :=
    match s.score w n b k t q (256 * slice + j) with
    | none => (0, 0, false, {})
    | some z =>
      if x.m = f32ninf then (0, 0, true, {})
      else
        let p := convertSat 1 (Val.mul (Val.mul (Val.pow2 8) (dec32 (f32exp (f32sub z x.m)))) (dec32 x.l))
        let v := dotCodes 1 0 ((List.range d).map (fun e => (dO.getD e 0, b.val d k (256 * slice + j) e)))
        let u := rn32 (Val.mul (Val.mul (Val.pow2 (-8)) (elemVal 0 p)) (dec32 (f32sub (promote32 0 v) D)))
        let (c, o) := convert 0 false (Val.mul (Val.pow2 (woDsshift w)) (dec32 (f32mul (woC w) u)))
        (p, c, true, { sat := b2n (o = 2) })
  let r := (List.range 256).map one
  (⟨r.map (fun z => z.1), r.map (fun z => z.2.1), r.map (fun z => z.2.2.1)⟩, r.foldl (fun a z => a.add z.2.2.2) {})

/-- Step 7 of R162: dQ̃ of a row. -/
def Row.addDq (x : Row) (w : Nat) (b : KvBlock) (k slice : Nat) (tile : AttTile) : Row :=
  let d := woHd w
  (chunksOf 256 (min (chunkLen w) 256)).foldl (fun acc c =>
    let js := ((List.range c.2).map (fun i => c.1 + i)).filter (fun j => tile.live.getD j false)
    (List.range d).foldl (fun (acc : Row) e =>
      let v := Val.mul (dotCodes 1 0 (js.map (fun j => (tile.ds.getD j 0, b.key d k (256 * slice + j) e)))) (Val.pow2 (-(woDsshift w : Int)))
      acc.setT e (promote32 (acc.t e) v)) acc) x

/-- Steps 5 and 6 of R162 for a query block and slice: promotions into the binary64 staging copy of the rider (R171). -/
def stageSlice (w k slice : Nat) (dO q : List (List Nat)) (tiles : List AttTile) (st : FMap Nat) : FMap Nat :=
  let d := woHd w
  (chunksOf 64 (min (chunkLen w) 64)).foldl (fun acc c =>
    (List.range 256).foldl (fun acc j => (List.range d).foldl (fun (acc : FMap Nat) e =>
      let tile (i : Nat) : AttTile := tiles.getD i {}
      let rows := ((List.range c.2).map (fun i => c.1 + i)).filter (fun i => (tile i).live.getD j false)
      let dv := Val.mul (dotCodes 0 1 (rows.map (fun i => ((tile i).p.getD j 0, (dO.getD i []).getD e 0)))) (Val.pow2 (-8))
      let dk := Val.mul (dotCodes 1 0 (rows.map (fun i => ((tile i).ds.getD j 0, (q.getD i []).getD e 0)))) (Val.pow2 (-(woDsshift w : Int)))
      let a := riderPlace d k 1 (256 * slice + j) e
      let a' := riderPlace d k 0 (256 * slice + j) e
      let m := FMap.put 0 acc a (promote64 (FMap.get 0 acc a) dv)
      FMap.put 0 m a' (promote64 (FMap.get 0 m a') dk)) acc) acc) st

/-- The row state of ATTB before the first block (R161): m, r = rn(1/l), and D. -/
def State.rowOfB (s : State) (w h t : Nat) : Row :=
  let a := woStatbase w + 8 * (h * woTq w + t)
  let dot := rowDot (woHd w) (fun e => rn32 (elemVal 1 (s.attElem w (woAttBase w 1) h t e))) (fun e => rn32 (elemVal 0 (s.attElem w (woAttBase w 0) h t e)))
  { m := s.rdN a 4, l := f32recip (s.rdN (a + 4) 4), scale := [(0, dot)] }

/-- What processing a block changes: rows, staging, counts, pairs processed and skipped. -/
structure AttRun where
  rows : FMap Row := []
  stage : FMap Nat := []
  cnt : AttCount := {}
  pairs : Nat := 0
  skips : Nat := 0

/-- One query block and block (R157, R162). -/
def State.attPair (s : State) (o : Order) (v : Rev) (b : KvBlock) (acc : AttRun) (qb : Nat) : AttRun :=
  let w := o.raw
  if s.attSkipped w v.size b qb then { acc with skips := acc.skips + 1 }
  else
    let h := qbHead w qb
    let k := h / attG w
    let qs := (List.range 64).map (fun i => s.attQ w h (qbRow w qb i))
    let key (i : Nat) : Nat := h * woTq w + qbRow w qb i
    (List.range 4).foldl (fun (acc : AttRun) slice =>
      if o.isB then
        let r := (List.range 64).map (fun i =>
          let x := FMap.get {} acc.rows (key i)
          let (tile, c) := s.rowTile w v.size b k h (qbRow w qb i) (qs.getD i []) slice x
          (key i, x.addDq w b k slice tile, tile, c))
        let dO := (List.range 64).map (fun i => (List.range (woHd w)).map (s.attElem w (woAttBase w 1) h (qbRow w qb i)))
        let st := stageSlice w k slice dO qs (r.map (fun z => z.2.2.1)) acc.stage
        { acc with rows := r.foldl (fun m z => FMap.put {} m z.1 z.2.1) acc.rows, stage := st,
                   cnt := r.foldl (fun (a : AttCount) z => a.add z.2.2.2) acc.cnt }
      else
        (List.range 64).foldl (fun (acc : AttRun) i =>
          let (x, c) := s.rowSlice w v.size b k (qbRow w qb i) (qs.getD i []) slice (FMap.get {} acc.rows (key i))
          { acc with rows := FMap.put {} acc.rows (key i) x, cnt := acc.cnt.add c }) acc) { acc with pairs := acc.pairs + 1 }

/-- The staged contribution is added to the rider (R171). -/
def KvBlock.addStage (b : KvBlock) (st : FMap Nat) : KvBlock :=
  { b with rider := st.foldl (fun m e => FMap.put 0 m e.1 (rn32 (Val.add (dec32 (FMap.get 0 m e.1)) (dec64 e.2)))) b.rider }

/-- Query blocks of a work order. -/
def attQbs (w : Nat) : Nat := attHq w * (woTq w / 64)

-- the areas at STAGEBASE, R154, R156, R170
/-- Size of a query block's row state (R156). -/
def rowState (o : Order) : Nat := if o.isB || attOut o.raw then 1024 + 272 * woHd o.raw else 1024
/-- Bytes of a block's staging copy. -/
def stageSize (w : Nat) : Nat := woHkv w * 16384 * woHd w
/-- Base of the row-state area (R156). -/
def rowStateBase (o : Order) : Nat := woAttBase o.raw 6 + (if o.isB then attB o.raw * stageSize o.raw else 0)

/-- The row states of a query block's pan exceed 128 KiB, so that they move through the row-state area (R156). -/
def rowsSpill (o : Order) (qb : Nat) : Bool :=
  let n := pansOf (woMask o.raw)
  decide (131072 < (attQbs o.raw + n - 1 - qb % n) / n * rowState o)

/-- The state of a query block is left in the row-state area; the layout of its S bytes is not stated, so that they are free (log
entry 53). The model holds the state itself by value. -/
def State.spillRow (s : State) (o : Order) (qb : Nat) : State :=
  if rowsSpill o qb then
    (s.store (rowStateBase o + qb * rowState o) ((List.range (rowState o)).map (Config.stageByte s.draws))).draw
  else s

/-- The staging copy of KV head k of block b in memory, laid out as the rider, in binary64 (DEDUCED, log entry 53). -/
def State.stageMem (s : State) (w b k : Nat) (st : FMap Nat) : State :=
  let n := 2048 * woHd w
  s.store (woAttBase w 6 + b * stageSize w + k * (8 * n)) ((List.range n).flatMap (fun i => leBytes 8 (FMap.get 0 st (k * n + i))))

/-- Halves whose hubs the work order uses (R23). -/
def attHalves (w : Nat) : List Nat := ((hubsOf (woMask w)).map (fun h => h / 32)).eraseDups

/-- Bytes of a block in its slot of the receive area: payload, and in ATTB its rider (R170). -/
def slotBlock (o : Order) : Nat := woHkv o.raw * 1024 * woHd o.raw * (if o.isB then 10 else 2)
/-- Place of a block of hop r in the receive area (R170). -/
def slotAt (o : Order) (hop b : Nat) : Nat := woAttBase o.raw 5 + hop % 2 * (attB o.raw * slotBlock o) + b * slotBlock o

/-- The start of a block: its staging copy is +0, and a received block is read from the KV parts where it is cached (R171, R170). -/
def State.attBegin (s : State) (o : Order) (b : KvBlock) : State :=
  let w := o.raw
  let s := if b.hop = 0 then s
    else (attHalves w).foldl (fun s h => (s.kvRead h (slotAt o b.hop b.block) (woHkv w * 2048 * woHd w)).1) s
  if o.isB then (List.range (woHkv w)).foldl (fun s k => s.stageMem w b.block k []) s else s

/-- The next query block of a block (R155); after the last the staged contribution goes to the rider (R171). -/
def State.attProcess (s : State) (o : Order) (v : Rev) (b : KvBlock) : State :=
  let w := o.raw
  let qb := b.next
  let s := if qb = 0 then s.attBegin o b else s
  let rows := if o.isB && v.rows.isEmpty then
      (List.range (attHq w)).foldl (fun m h => (List.range (woTq w)).foldl (fun m t => FMap.put {} m (h * woTq w + t) (s.rowOfB w h t)) m) []
    else v.rows
  let r := s.attPair o v b { rows := rows, stage := if qb = 0 then [] else v.stage } qb
  let last : Bool := decide (attQbs w ≤ qb + 1)
  let b' := if last then { (if o.isB then b.addStage r.stage else b) with next := qb + 1, processed := true } else { b with next := qb + 1 }
  let s := s.setRev { v with rows := r.rows, stage := r.stage, blocks := mapIf (fun x => x.hop = b.hop && x.block = b.block) (fun _ => b') v.blocks }
  let s := if r.pairs = 0 then s
    else (if o.isB then s.stageMem w b.block (qbHead w qb / attG w) r.stage else s).spillRow o qb
  let s := ((s.bump 64 (okey 0x2511 3) r.pairs).bump 64 (okey 0x2511 4) r.skips).bump 64 (okey 0x2511 7) r.cnt.factors
  let s := s.bump 64 (okey 0x2511 8) r.cnt.sat
  if r.cnt.sat ≠ 0 && !((s.order? o.ring o.slot).any (fun q => bit q.events evDs)) then (s.event 0x0511).orderEvent o.ring o.slot evDs else s

-- the revolution, R169 to R172
/-- Begin the revolution at the first command of an admitted work order: the predecessor may fill slot 1, and in ATTB the
return slot (numbered 2, for hop N) is granted (R170). -/
def State.ensureRev (s : State) (o : Order) : State :=
  match s.att.rev with
  | some _ => s
  | none =>
    let n := s.obj (okey 0x2510 1)
    let v : Rev := { ring := o.ring, slot := o.slot, size := n, pos := s.obj (okey 0x2510 2),
                     granted := (if 1 < n then [1] else []) ++ (if o.isB then [n] else []), credit := s.att.early }
    let s := s.setAtt { s.att with rev := some v, early := [], tries := 0, odd := false }
    if o.isB then s.emit (.credit 2) else s

/-- The work order and revolution that an attention command of a ring slot acts on. -/
def State.attNow (s : State) (r slot : Nat) : Option (Order × State) :=
  match s.attOrder? with
  | none => none
  | some o => if o.is r slot && o.phase == .admitted && s.cfg.snap.state ≠ 2 then some (o, s.ensureRev o) else none

def Rev.block? (v : Rev) (hop b : Nat) : Option KvBlock := v.blocks.find? (fun x => x.hop = hop && x.block = b)
def Rev.inRound (v : Rev) : List KvBlock := v.blocks.filter (fun x => x.hop = v.round)
def Rev.updBlock (v : Rev) (hop b : Nat) (f : KvBlock → KvBlock) : Rev :=
  { v with blocks := mapIf (fun x => x.hop = hop && x.block = b) f v.blocks }

/-- Owner of the blocks of round r at position ρ of N (R169). -/
def roundOwner (n pos r : Nat) : Nat := (pos + n - r % n) % n

/-- Blocks of the round whose train is being sent. -/
def Rev.train (v : Rev) : List KvBlock := v.blocks.filter (fun x => x.hop = v.sendRound)
/-- The last round has no send in ATTS and ATTF (R169). -/
def Rev.drops (v : Rev) (o : Order) (hop : Nat) : Bool := !o.isB && hop + 1 = v.size
/-- Every send has been made. -/
def Rev.allSent (v : Rev) (o : Order) : Bool := decide (v.size ≤ v.sendRound) || v.drops o v.sendRound

/-- The next round begins when every block of this one is processed (R169). A block is held until it is processed and, if it is sent at
all, sent with its train. -/
def Rev.advance (v : Rev) (o : Order) : Rev :=
  let l := v.inRound
  let v := if l.length = attB o.raw && l.all (fun b => b.processed) && decide (v.round < v.size) then { v with round := v.round + 1 } else v
  { v with blocks := v.blocks.filter (fun x => !(decide (x.hop < v.round) && (decide (x.hop < v.sendRound) || v.drops o x.hop))) }

/-- Write dK and dV of a returned rider (R172). -/
def State.writeRider (s : State) (o : Order) (b : KvBlock) : State :=
  let w := o.raw
  let d := woHd w
  let fm := woAofmt w
  let size := ofmtSize fm
  let cols := woHkv w * d
  let els := (List.range (woHkv w)).flatMap (fun k => (List.range 1024).flatMap (fun j => (List.range d).map (fun e => (k, j, e))))
  let at_ (half k j e : Nat) : Nat := FMap.get 0 b.rider (riderPlace d k half j e)
  let put (base : Nat) (f : Nat → Nat → Nat → Nat) : List ((Nat × List Byte) × Nat) :=
    els.map (fun x =>
      let c := convert fm (woInf w) (dec32 (f x.1 x.2.1 x.2.2))
      ((base + tileOff cols size (1024 * b.block + x.2.1) (x.1 * d + x.2.2), leBytes size c.1), c.2))
  let res := put (woAttBase w 3) (fun k j e => rotInv (woRot w) d (woRotbase w) (b.pos + j) (at_ 0 k j) e) ++
    put (woAttBase w 4) (fun k j e => at_ 1 k j e)
  let s := res.foldl (fun s x => s.countOut o.ring o.slot x.2) s
  (joinWrites (res.map (fun x => x.1))).foldl (fun s x => s.store x.1 x.2) s

/-- Riders that have returned are written after the package's own last send (R174). -/
def State.writeRiders (s : State) (o : Order) (v : Rev) : State :=
  if v.sendRound < v.size then s.setRev v
  else (v.returned.foldl (fun s b => s.writeRider o b) s).setRev { v with returned := [], written := v.written + v.returned.length }

/-- The work order's own end: outputs drained, every send made, and in ATTB every rider written. -/
def State.attEnd (s : State) (o : Order) : State :=
  match s.att.rev with
  | none => s
  | some v => if v.drained && v.size ≤ v.round && v.allSent o && (!o.isB || v.written = attB o.raw) then s.markRan o.ring o.slot else s

def State.setRevEnd (s : State) (o : Order) (v : Rev) : State := (s.writeRiders o (v.advance o)).attEnd o

/-- The header of a block as sent (R168). -/
def headerWord (o : Order) (v : Rev) (b : KvBlock) (kind : Nat) : Nat :=
  let w := o.raw
  pack 0 2 kind + pack 8 8 b.owner + pack 16 16 b.block + pack 32 9 (b.hop + 1) + pack 48 8 (v.size - 1) + pack 56 2 (woRot w) +
    pack 64 32 (woPassid w) + pack 96 32 b.pos + pack 128 11 b.tokens + pack 144 9 (woHd w) + pack 160 7 (woHkv w) + pack 192 32 b.base

/-- The payload: k̃ and v of each KV head. -/
def KvBlock.payload (b : KvBlock) (w : Nat) : List Byte :=
  let n := 1024 * woHd w
  (List.range (woHkv w)).flatMap (fun k => (b.keys.drop (k * n)).take n ++ (b.vals.drop (k * n)).take n)
/-- The rider's words. -/
def KvBlock.riderWords (b : KvBlock) (w : Nat) : List Nat := (List.range (woHkv w * 2048 * woHd w)).map (fun i => FMap.get 0 b.rider i)

/-- The credit that a send of a hop takes: a train slot, or the return slot (R170). Round 0 needs none but for a return. -/
def Rev.need (v : Rev) (hop : Nat) : Nat := if hop + 1 = v.size then 2 else (hop + 1) % 2
def Rev.mayTake (v : Rev) (hop : Nat) : Bool := (hop = 0 && hop + 1 ≠ v.size) || v.credit.contains (v.need hop)

/-- A train has been sent whole: its credit is used, its slot serves the round after next, and the next train follows (R170). -/
def State.trainSent (s : State) (o : Order) (v : Rev) : State :=
  let hop := v.sendRound
  let v := { v with credit := v.credit.erase (v.need hop), sendRound := hop + 1 }
  if hop + 2 < v.size then (s.emit (.credit (hop % 2))).setRevEnd o { v with granted := (hop + 2) :: v.granted }
  else s.setRevEnd o v

/-- BLOCK_SEND (R169, R170): the next block of the train being sent; in ATTB it has been processed. In ATTS and ATTF the forwarding
goes on whatever the pans do (R174). -/
def execBlockSend (block : Nat) (s : State) : Host.Outcome State Fault Refusal :=
  match s.attOrder? with
  | none => .next s
  | some o =>
    match s.att.rev with
    | none => .next s
    | some v =>
      let hop := v.sendRound
      match v.block? hop block with
      | none => .next s
      | some b =>
        let last := hop + 1 = v.size
        let ok := !b.sent && decide (block = (v.train.filter (fun x => x.sent)).length) && (!o.isB || b.processed) && !(v.drops o hop) && v.mayTake hop
        if !ok || s.cfg.snap.state = 2 then .next s
        else
          let kind := if !o.isB then 0 else if last then 2 else 1
          let s := s.emit (.block (headerWord o v b kind) (if last then [] else b.payload o.raw) (if o.isB then b.riderWords o.raw else []))
          let s := s.bump64 (okey 0x2511 5)
          let v := v.updBlock hop block (fun x => { x with sent := true })
          .next (if v.train.length = attB o.raw && v.train.all (fun x => x.sent) then s.trainSent o v else s.setRevEnd o v)

/-- SLOT_CREDIT (R170): a credit held until its send; one for a revolution that has not begun here waits for it. -/
def execSlotCredit (slot : Nat) (s : State) : Host.Outcome State Fault Refusal :=
  if !s.awake then .next s
  else match s.att.rev with
    | none => .next (s.setAtt { s.att with early := slot :: s.att.early })
    | some v => .next (s.setRev { v with credit := slot :: v.credit })

-- arrivals, R168, R170, R174
def hbKind (h : Nat) : Nat := bits h 0 2
def hbOwner (h : Nat) : Nat := bits h 8 8
def hbBlock (h : Nat) : Nat := bits h 16 16
def hbHop (h : Nat) : Nat := bits h 32 9
def hbRingm1 (h : Nat) : Nat := bits h 48 8
def hbPassid (h : Nat) : Nat := bits h 64 32
def hbPos (h : Nat) : Nat := bits h 96 32
def hbTokens (h : Nat) : Nat := bits h 128 11
def hbBase (h : Nat) : Nat := bits h 192 32

/-- Payload bytes of keys (0) or values (1), head after head. -/
def splitPayload (w half : Nat) (l : List Byte) : List Byte :=
  let n := 1024 * woHd w
  (List.range (woHkv w)).flatMap (fun k => (l.drop ((2 * k + half) * n)).take n)

/-- Rider elements of a byte list. -/
def parseRider (n : Nat) (l : List Byte) : FMap Nat :=
  (List.range n).filterMap (fun i => let c := leNat ((l.drop (4 * i)).take 4); if c = 0 then none else some (i, c))

/-- The header is not the one expected in round `hop` (R165, R174). -/
def headerBad (o : Order) (v : Rev) (h kind hop owner : Nat) : Bool :=
  hbKind h ≠ kind || hbPassid h ≠ woPassid o.raw || hbRingm1 h + 1 ≠ v.size || hbHop h ≠ hop || hbOwner h ≠ owner ||
    decide (attB o.raw ≤ hbBlock h) || hbBase h ≠ woRotbase o.raw

/-- BLOCK_ARRIVAL (R168, R170, R174): checked, written to its slot of the receive area, and cached in the KV part of every half whose
hubs consume it, when it fits (R23). A block for a work order that stands still waits there. -/
def execBlockArrival (header payload rider : List Byte) (s : State) : Host.Outcome State Fault Refusal :=
  if !s.awake then .next s
  else match s.attOrder? with
    | none => .next (s.attFault none 0x0531)
    | some o =>
      let s := s.ensureRev o
      match s.att.rev with
      | none => .next s
      | some v =>
        let h := leNat header
        let hop := hbHop h
        let bad := headerBad o v h (if o.isB then 1 else 0) hop (roundOwner v.size v.pos hop) || hop = 0 || decide (v.size ≤ hop) ||
          !(v.granted.contains hop) || (v.block? hop (hbBlock h)).isSome
        if bad then .next (s.attFault (some o) 0x0531)
        else
          let w := o.raw
          let b : KvBlock := { owner := hbOwner h, block := hbBlock h, hop := hop, pos := hbPos h, tokens := hbTokens h, base := hbBase h,
                               keys := splitPayload w 0 payload, vals := splitPayload w 1 payload,
                               rider := parseRider (woHkv w * 2048 * woHd w) rider }
          let a := slotAt o hop (hbBlock h)
          let n := woHkv w * 2048 * woHd w
          let s := s.store a (payload.take n ++ (if o.isB then rider.take (4 * n) else []))
          let s := (attHalves w).foldl (fun s x => s.kvKeep x a (payload.take n)) s
          let v := { v with blocks := v.blocks ++ [b] }
          let full := (v.blocks.filter (fun x => x.hop = hop)).length = attB w
          .next (s.setRev (if full then { v with granted := v.granted.erase hop } else v))

/-- RIDER_RETURN (R172, R174): the rider waits in the return slot until the package's own last send. -/
def execRiderReturn (header rider : List Byte) (s : State) : Host.Outcome State Fault Refusal :=
  if !s.awake then .next s
  else match s.attOrder? with
    | none => .next (s.attFault none 0x0531)
    | some o =>
      let s := s.ensureRev o
      match s.att.rev with
      | none => .next s
      | some v =>
        let h := leNat header
        let bad := !o.isB || headerBad o v h 2 v.size v.pos || !(v.granted.contains v.size) ||
          v.returned.any (fun x => x.block = hbBlock h) || decide (attB o.raw ≤ v.returned.length + v.written)
        if bad then .next (s.attFault (some o) 0x0531)
        else
          let w := o.raw
          let n := woHkv w * 2048 * woHd w
          let b : KvBlock := { owner := v.pos, block := hbBlock h, hop := v.size, pos := hbPos h, tokens := hbTokens h, base := hbBase h,
                               rider := parseRider n rider }
          let s := s.store (woAttBase w 5 + 2 * (attB w * slotBlock o) + hbBlock h * (4 * n)) (rider.take (4 * n))
          let s := s.bump64 (okey 0x2511 6)
          .next ((s.writeRiders o { v with returned := v.returned ++ [b] }).attEnd o)

/-- The package waits on the ring: for a block, for a credit, or for its riders. -/
def Rev.waits (v : Rev) (o : Order) : Bool :=
  (0 < v.round && decide (v.round < v.size) && decide (v.inRound.length < attB o.raw)) ||
  (v.train.any (fun b => !b.sent && (!o.isB || b.processed)) && !(v.drops o v.sendRound) && !(v.mayTake v.sendRound)) ||
  (decide (v.size ≤ v.round) && v.allSent o && o.isB && decide (v.written < attB o.raw))

/-- REMOTE_TIMEOUT (R174). -/
def execRemoteTimeout (s : State) : Host.Outcome State Fault Refusal :=
  match s.attOrder? with
  | none => .next s
  | some o => match s.att.rev with
    | none => .next s
    | some v => if v.waits o then .next (s.attFault (some o) 0x0530) else .next s

-- the drain, R160, R164
/-- Write one output tensor of T_q × (H_q × d) and count its conversions. -/
def State.attWrite (s : State) (o : Order) (base fm : Nat) (f : Nat → Nat → Nat → Nat) : State :=
  let w := o.raw
  let d := woHd w
  let size := ofmtSize fm
  let els := (List.range (attHq w)).flatMap (fun h => (List.range (woTq w)).flatMap (fun t => (List.range d).map (fun e => (h, t, e))))
  let res := els.map (fun x =>
    let c := convert fm (woInf w) (dec32 (f x.1 x.2.1 x.2.2))
    ((base + tileOff (attHq w * d) size x.2.1 (x.1 * d + x.2.2), leBytes size c.1), c.2))
  let s := res.foldl (fun s x => s.countOut o.ring o.slot x.2) s
  (joinWrites (res.map (fun x => x.1))).foldl (fun s x => s.store x.1 x.2) s

/-- The value of O of a row before conversion (R158, R160). -/
def Row.output (x : Row) (e : Nat) : Nat :=
  if (dec32 x.m).isNan then f32nan
  else if x.m = f32ninf && x.l = 0 then 0
  else
    let a := x.a (e / 16)
    let t := if a = f32one then x.t e else f32mul a (x.t e)
    f32mul t (f32recip x.l)

/-- The outputs after the last block. A NaN m or l is not counted among the NaN outputs of 2311/04 (DESIGN CHOICE, log entry 13). -/
def State.attDrain (s : State) (o : Order) (v : Rev) : State :=
  let w := o.raw
  let d := woHd w
  let row (h t : Nat) : Row := FMap.get {} v.rows (h * woTq w + t)
  let v := { v with drained := true }
  if o.isB then
    (s.attWrite o (woAttBase w 2) (woAofmt w) (fun h t e => rotInv (woRot w) d (woRotbase w) (woQpos w + t) (row h t).t e)).setRev v
  else
    let rows := (List.range (attHq w)).flatMap (fun h => (List.range (woTq w)).map (fun t => (h, t)))
    let s := if attOut w then
        let n := (rows.map (fun x => let y := row x.1 x.2; if (dec32 y.m).isNan then 0 else (y.scale.filter (fun (k : Nat × Nat) => k.2 ≠ f32one)).length)).sum
        (s.attWrite o (woAttBase w 0) 1 (fun h t e => (row h t).output e)).bump 64 (okey 0x2511 7) n
      else s
    let s := s.bump 64 (okey 0x2511 0x0C) (rows.filter (fun x => (row x.1 x.2).m = f32ninf)).length
    let s := rows.foldl (fun s x => s.storeN (woStatbase w + 8 * (x.1 * woTq w + x.2)) 8 (pack 0 32 (row x.1 x.2).m + pack 32 32 (row x.1 x.2).l)) s
    s.setRev v

/-- The rows ATTS, ATTF and ATTB: read; the next query block of a block of the round in progress, on pan qb mod P (R155); the drain. -/
def State.attRow (s : State) (k : Kind) (r : Nat) (ph : AttPhase) : Host.Outcome State Fault Refusal :=
  match ph with
  | .read => s.readAs r (fun q => q == k)
  | .process slot block =>
    match s.attNow r slot with
    | none => .next s
    | some (o, s') =>
      match s'.att.rev with
      | none => .next s
      | some v =>
        match v.block? v.round block with
        | none => .next s
        | some b =>
          let up := s'.panUp o (panAt (woMask o.raw) (b.next % pansOf (woMask o.raw)))
          if o.kind == k && up && !b.processed && decide (block = (v.inRound.filter (fun x => x.processed)).length) then
            (let s' := s'.attProcess o v b
             match s'.att.rev with
             | some v => .next (s'.setRevEnd o v)
             | none => .next s')
          else .next s
  | .drain slot =>
    match s.attNow r slot with
    | none => .next s
    | some (o, s') =>
      match s'.att.rev with
      | none => .next s
      | some v =>
        let all := decide (v.size ≤ v.round) ||
          (v.round + 1 = v.size && v.inRound.length = attB o.raw && v.inRound.all (fun b => b.processed))
        if o.kind == k && s'.pansUp o && !v.drained && all then .next ((s'.attDrain o v).attEnd o) else .next s

/-- ATTS (R157, R160). -/
def execAtts (r : RingNo) (ph : AttPhase) (s : State) : Host.Outcome State Fault Refusal := s.attRow (.boil 9) r.val ph
/-- ATTF (R157 to R160). -/
def execAttf (r : RingNo) (ph : AttPhase) (s : State) : Host.Outcome State Fault Refusal := s.attRow (.boil 10) r.val ph
/-- ATTB (R161 to R164, R171, R172). -/
def execAttb (r : RingNo) (ph : AttPhase) (s : State) : Host.Outcome State Fault Refusal := s.attRow .attb r.val ph

-- KV page walkers, R175 to R179
def ptPages (s : State) (w : Nat) : Nat := s.rdN (woPtbase w + 8) 4
def ptHkv (s : State) (w : Nat) : Nat := s.rdN (woPtbase w + 12) 2
def ptD (s : State) (w : Nat) : Nat := s.rdN (woPtbase w + 14) 2
/-- Page entry e: KADDR, VALID, VADDR. -/
def State.pageEntry (s : State) (w e : Nat) : Nat × Bool × Nat :=
  let x := s.rdN (woPtbase w + 64 + 16 * e) 16
  (bits x 0 52, bit x 63, bits x 64 52)

/-- The hub that requests block b: the blocks of a shard are dealt over the hubs of the mask (DESIGN CHOICE, log entry 54). -/
def attHub (w b : Nat) : Nat := let l := hubsOf (woMask w); l.getD (b % l.length) 0
/-- Its half, and the walker that serves it (R176). -/
def attHalf (w b : Nat) : Nat := attHub w b / 32
def walkerOf (w b : Nat) : Nat := 4 * attHalf w b + woSeqid w % 4

def wlbKey (walker set way : Nat) : Nat := walker * 512 + set * 8 + way
def State.wlbAt (s : State) (k : Nat) : WlbEnt := FMap.get {} s.att.wlb k
def State.setWlb (s : State) (k : Nat) (x : WlbEnt) : State := s.setAtt { s.att with wlb := FMap.put {} s.att.wlb k x }
def wlbSet (seqid page : Nat) : Nat := (page ^^^ seqid) % 64

/-- The entry of a page for generation g: one of another generation is a miss (R179). -/
def State.wlbHit (s : State) (walker seqid page g : Nat) : Option Nat :=
  (List.range 8).find? (fun k => let x := s.wlbAt (wlbKey walker (wlbSet seqid page) k)
    x.valid && x.seqid = seqid && x.page = page && x.gen = g)

/-- Way of a set that is filled: a free one, else the least recently used (R179). -/
def State.wlbWay (s : State) (walker set : Nat) : Nat :=
  let ent (k : Nat) : WlbEnt := s.wlbAt (wlbKey walker set k)
  match (List.range 8).find? (fun k => !(ent k).valid) with
  | some k => k
  | none => (List.range 8).foldl (fun a k => if (ent k).stamp < (ent a).stamp then k else a) 0

/-- Look up page e of block b for generation g: its key and value addresses, or none for an entry without VALID (R175, R177, R179).
What is cached of a page that misses is held no longer: its data may have been moved or edited. -/
def State.wlbLook (s : State) (w b g e : Nat) : State × Option (Nat × Nat) :=
  let wk := walkerOf w b
  let set := wlbSet (woSeqid w) e
  let s := s.setAtt { s.att with stamp := s.att.stamp + 1 }
  match s.wlbHit wk (woSeqid w) e g with
  | some k =>
    let x := s.wlbAt (wlbKey wk set k)
    ((s.setWlb (wlbKey wk set k) { x with stamp := s.att.stamp }).bump64 (okey 0x2511 0x0A), some (x.kaddr, x.vaddr))
  | none =>
    let s := s.bump64 (okey 0x2511 0x0B)
    let (ka, ok, va) := s.pageEntry w e
    if ok then
      (((s.setWlb (wlbKey wk set (s.wlbWay wk set))
        { seqid := woSeqid w, page := e, gen := g, kaddr := ka, vaddr := va, stamp := s.att.stamp, valid := true }).kvDrop ka).kvDrop va, some (ka, va))
    else (s, none)

/-- Clear WLB entries. -/
def State.clearWlb (s : State) (p : Nat → WlbEnt → Bool) : State :=
  s.setAtt { s.att with wlb := s.att.wlb.filter (fun (e : Nat × WlbEnt) => !(p e.1 e.2)) }

/-- Pages of block b of this shard that the table holds (R175). -/
def State.blockPages (s : State) (w b : Nat) : List Nat :=
  ((List.range 4).map (fun k => woPage0 w + 4 * b + k)).filter (fun e => decide (e < ptPages s w))

/-- 64 KiB pages that a range touches. -/
def pagesIn (a n : Nat) : List Nat := (List.range ((a + n - 1) / 65536 + 1 - a / 65536)).map (fun k => a / 65536 + k)

/-- Translation pages that the block's data needs and that miss (R176, R243). -/
def State.walkMisses (s : State) (w b : Nat) : List Nat :=
  let n := 256 * ptHkv s w * ptD s w
  if n = 0 then []
  else
    let ps := (s.blockPages w b).flatMap (fun e =>
      let x := s.pageEntry w e
      if x.2.1 then pagesIn x.1 n ++ pagesIn x.2.2 n else [])
    (ps.filter (fun p => (s.tlbHit (attHalf w b) p).isNone)).eraseDups

/-- Keys and values of the pages of block b as its half reads them: from its KV part or from memory (R23, R177). -/
def State.walkPages (s : State) (w b : Nat) (pages : List (Nat × Nat)) : State × List (List Byte × List Byte) :=
  let n := 256 * (ptHkv s w * ptD s w)
  pages.foldl (fun (acc : State × List (List Byte × List Byte)) p =>
    let (s, ks) := acc.1.kvRead (attHalf w b) p.1 n
    let (s, vs) := s.kvRead (attHalf w b) p.2 n
    (s, acc.2 ++ [(ks, vs)])) (s, [])

/-- The block that a walk delivers: coded keys, values, rows beyond TOKENS zero (R168, R175). POS is QPOS + 1024b: the shard's keys
lie at the positions of its queries (DESIGN CHOICE, log entry 21). -/
def State.walkBlock (s : State) (w : Nat) (v : Rev) (b : Nat) (pages : List (List Byte × List Byte)) : KvBlock :=
  let c := ptHkv s w * ptD s w
  let d := woHd w
  let tok := min 1024 (ptPages s w * 256 - 256 * (woPage0 w + 4 * b))
  let pos := woQpos w + 1024 * b
  let elem (which j k e : Nat) : Nat :=
    let p := pages.getD (j / 256) ([], [])
    ((if which = 0 then p.1 else p.2).getD (tileOff c 1 (j % 256) (k * ptD s w + e)) 0).toNat
  let rows (f : Nat → Nat → List Nat) : FMap Nat :=
    (List.range (woHkv w)).foldl (fun m k => (List.range tok).foldl (fun m j =>
      let r := f k j
      (List.range d).foldl (fun m e => FMap.put 0 m (kvPlace d k j e) (r.getD e 0)) m) m) []
  let bytes (m : FMap Nat) : List Byte := (List.range (woHkv w * 1024 * d)).map (fun i => BitVec.ofNat 8 (FMap.get 0 m i))
  { owner := v.pos, block := b, hop := 0, pos := pos, tokens := tok, base := woRotbase w,
    keys := bytes (rows (fun k j => codeRow (woRot w) d (woRotbase w) (pos + j) (elem 0 j k))),
    vals := bytes (rows (fun k j => (List.range d).map (elem 1 j k))) }

/-- One try ended without the block: fault 0x0541 after the last (R177). -/
def State.walkFailed (s : State) (o : Order) : State :=
  let s := s.setAtt { s.att with tries := s.att.tries + 1 }
  if s.obj (okey 0x2590 4) ≤ s.att.tries then s.attFault (some o) 0x0541 else s

/-- One try of R177. -/
def State.walkTry (s : State) (o : Order) (v : Rev) (b : Nat) (genAfter : Option Nat) : State :=
  let w := o.raw
  let g1 := s.rdN (woPtbase w) 8
  if g1 % 2 = 1 then (s.bump64 (okey 0x2511 0x0E)).setAtt { s.att with odd := true }
  else
    let (s, ps) := (s.blockPages w b).foldl (fun (acc : State × Option (List (Nat × Nat))) e =>
      match acc.2 with
      | none => acc
      | some l => match acc.1.wlbLook w b g1 e with
        | (s, some p) => (s, some (l ++ [p]))
        | (s, none) => (s, none)) (s, some [])
    match ps with
    | none => s.attFault (some o) 0x0540
    | some l =>
      let (s, data) := s.walkPages w b l
      let blk := s.walkBlock w v b data
      let s := match genAfter with
        | some g => s.wrN (woPtbase w) 8 g
        | none => s
      if s.rdN (woPtbase w) 8 = g1 then
        ((s.setAtt { s.att with tries := 0 }).setRev { v with blocks := v.blocks ++ [blk] }).bump64 (okey 0x2511 9)
      else
        let s := s.clearWlb (fun _ x => x.seqid = woSeqid w)
        (((s.bump64 (okey 0x2511 0x0D)).event 0x0510).orderEvent o.ring o.slot evWalk).walkFailed o

/-- WALK (R177): a try to fetch the next of the package's own blocks. `genAfter` is what software has made of the generation
word while the data was fetched. -/
def execWalk (r : RingNo) (slot block : Nat) (genAfter : Option Nat) (s : State) : Host.Outcome State Fault Refusal :=
  match s.attNow r.val slot with
  | none => .next s
  | some (o, s') =>
    match s'.att.rev with
    | none => .next s
    | some v =>
      if v.round ≠ 0 || attB o.raw ≤ block || block ≠ v.inRound.length || s'.att.odd then .next s
      else if s'.obj (okey 0x2590 4) ≤ s'.att.tries then .next (s'.attFault (some o) 0x0541)
      else
        let miss := s'.walkMisses o.raw block
        if miss.isEmpty then .next (s'.walkTry o v block genAfter)
        else .next (miss.foldl (fun s p => s.miss (attHalf o.raw block) p) s')

/-- ODD_GENERATION_WAIT (R177): 2590/05 has passed, and the next try begins. -/
def execOddGenerationWait (r : RingNo) (slot _block : Nat) (s : State) : Host.Outcome State Fault Refusal :=
  match s.attOrder? with
  | none => .next s
  | some o => if o.is r.val slot && s.att.odd then .next ((s.setAtt { s.att with odd := false }).walkFailed o) else .next s

end Sys2Proof.Machine
end

