-- ==== Sys2Proof/Machine/Crypto.lean ====
section
/-! DEFINITION. HMAC-SHA-256 of the session handshake (R3, R334) and CRC-32C of the configuration banks (R343). -/

namespace Sys2Proof.Machine

/-- Integer cube root by trial of bits from the k-th down. -/
def icbrt : Nat → Nat → Nat → Nat
  | 0, _, r => r
  | k + 1, n, r => icbrt k n (if (r + 2 ^ k) ^ 3 ≤ n then r + 2 ^ k else r)

/-- Integer square root in the same way. -/
def isqrtBits : Nat → Nat → Nat → Nat
  | 0, _, r => r
  | k + 1, n, r => isqrtBits k n (if (r + 2 ^ k) ^ 2 ≤ n then r + 2 ^ k else r)

/-- The first 64 primes. -/
def primes64 : List Nat :=
  [2, 3, 5, 7, 11, 13, 17, 19, 23, 29, 31, 37, 41, 43, 47, 53, 59, 61, 67, 71, 73, 79, 83, 89, 97, 101, 103, 107, 109,
   113, 127, 131] ++
  [137, 139, 149, 151, 157, 163, 167, 173, 179, 181, 191, 193, 197, 199, 211, 223, 227, 229, 233, 239, 241, 251, 257,
   263, 269, 271, 277, 281, 283, 293, 307, 311]

/-- SHA-256 round constants: the first 32 bits of the fractional parts of the cube roots of the primes. -/
def shaK : List (BitVec 32) := primes64.map (fun p => BitVec.ofNat 32 (icbrt 36 (p * 2 ^ 96) 0))

/-- SHA-256 initial values: the first 32 bits of the fractional parts of the square roots of 8 primes. -/
def shaH0 : List (BitVec 32) := (primes64.take 8).map (fun p => BitVec.ofNat 32 (isqrtBits 37 (p * 2 ^ 64) 0))

def rotr (x : BitVec 32) (n : Nat) : BitVec 32 := x.rotateRight n

/-- The last 16 words of the message schedule, newest first, extended by one. -/
def shaNext (w : List (BitVec 32)) : BitVec 32 :=
  let g (i : Nat) : BitVec 32 := w.getD (i - 1) 0
  let s0 := rotr (g 15) 7 ^^^ rotr (g 15) 18 ^^^ (g 15 >>> 3)
  let s1 := rotr (g 2) 17 ^^^ rotr (g 2) 19 ^^^ (g 2 >>> 10)
  g 16 + s0 + g 7 + s1

/-- One SHA-256 round on the eight working words. -/
def shaRound (h : List (BitVec 32)) (k w : BitVec 32) : List (BitVec 32) :=
  match h with
  | [a, b, c, d, e, f, g, hh] =>
    let s1 := rotr e 6 ^^^ rotr e 11 ^^^ rotr e 25
    let ch := (e &&& f) ^^^ (~~~e &&& g)
    let t1 := hh + s1 + ch + k + w
    let s0 := rotr a 2 ^^^ rotr a 13 ^^^ rotr a 22
    let mj := (a &&& b) ^^^ (a &&& c) ^^^ (b &&& c)
    [t1 + (s0 + mj), a, b, c, d + t1, e, f, g]
  | _ => h

/-- The remaining rounds: `w` holds the words already scheduled, newest first; the first 16 are the block's own. -/
def shaRounds : List (BitVec 32) → List (BitVec 32) → List (BitVec 32) → List (BitVec 32) → List (BitVec 32)
  | [], _, _, h => h
  | k :: ks, blk, w, h =>
    match blk with
    | x :: rest => shaRounds ks rest (x :: w) (shaRound h k x)
    | [] =>
      let x := shaNext w
      shaRounds ks [] (x :: w.take 15) (shaRound h k x)

/-- Big-endian words of a byte list. -/
def beWords : List Byte → List (BitVec 32)
  | a :: b :: c :: d :: t =>
    BitVec.ofNat 32 (((a.toNat * 256 + b.toNat) * 256 + c.toNat) * 256 + d.toNat) :: beWords t
  | _ => []

/-- The padded message of a byte list. -/
def shaPad (m : List Byte) : List Byte :=
  let n := m.length
  m ++ [0x80] ++ List.replicate ((119 - n % 64) % 64) 0 ++ (leBytes 8 (8 * n)).reverse

/-- Process blocks of 16 words; `n` bounds their number. -/
def shaBlocks : Nat → List (BitVec 32) → List (BitVec 32) → List (BitVec 32)
  | 0, _, h => h
  | n + 1, w, h =>
    if w.isEmpty then h
    else
      let r := shaRounds shaK (w.take 16) [] h
      shaBlocks n (w.drop 16) (List.zipWith (· + ·) h r)

def sha256 (m : List Byte) : List Byte :=
  let w := beWords (shaPad m)
  (shaBlocks (w.length / 16 + 1) w shaH0).flatMap (fun x => (leBytes 4 x.toNat).reverse)

/-- HMAC-SHA-256; keys of the GPE are at most 64 bytes (R337). -/
def hmac (key msg : List Byte) : List Byte :=
  let k := key ++ List.replicate (64 - key.length) 0
  sha256 (k.map (· ^^^ 0x5C) ++ sha256 (k.map (· ^^^ 0x36) ++ msg))

/-- Eight steps of the reflected CRC. -/
def crcBits : Nat → BitVec 32 → BitVec 32
  | 0, c => c
  | n + 1, c => crcBits n (if c.getLsbD 0 then (c >>> 1) ^^^ 0x82F63B78 else c >>> 1)

def crcFold : List Byte → BitVec 32 → BitVec 32
  | [], c => c
  | b :: t, c => crcFold t (crcBits 8 (c ^^^ b.zeroExtend 32))

/-- CRC-32C (R343); 0x82F63B78 is the polynomial 0x1EDC6F41 reflected. -/
def crc32c (m : List Byte) : Nat := (crcFold m 0xFFFFFFFF ^^^ 0xFFFFFFFF).toNat

end Sys2Proof.Machine
end

