-- ==== Sys2Proof/Machine/Dma.lean ====
section
/-! DEFINITION. DMA channels (R255 to R278): descriptors, gather and scatter lists, bursts as requests at the host hub's ports,
the engines' choice, pacing, staging and gates, halts and aborts. Descriptors and lists are read in one step, without a request
at a port (log entry 57). -/

namespace Sys2Proof.Machine

-- descriptor, R257
def ddNext (d : Nat) : Nat := bits d 204 52
def ddDst (d : Nat) : Nat := bits d 152 52
def ddSrc (d : Nat) : Nat := bits d 100 52
def ddLength (d : Nat) : Nat := bits d 68 32
def ddTag (d : Nat) : Nat := bits d 56 8
def ddGlaunder (d : Nat) : Nat := bits d 48 8
def ddGpush (d : Nat) : Bool := bit d 47
def ddStage (d : Nat) : Bool := bit d 46
def ddSwap (d : Nat) : Nat := bits d 42 2
def ddSgd (d : Nat) : Bool := bit d 41
def ddSgs (d : Nat) : Bool := bit d 40
def ddBarrier (d : Nat) : Bool := bit d 39
def ddIhalf (d : Nat) : Bool := bit d 38
def ddIfull (d : Nat) : Bool := bit d 37

-- requests of a channel
/-- Reads or writes of a channel that wait for a grant, in the order in which they are to be issued. -/
def State.dmaReqs (s : State) (c : Nat) (write : Bool) : List Req :=
  s.strm.reqs.filter (fun q => q.who == .dma && q.hub = chHub c && q.write = write)
/-- Reads or writes of a channel that have not been answered. -/
def State.dmaOpen (s : State) (c : Nat) (write : Bool) : List Req :=
  (s.strm.reqs ++ s.strm.tags.map Tag.req).filter (fun q => q.who == .dma && q.hub = chHub c && q.write = write)
/-- Writes of the descriptor in progress that have not arrived. -/
def State.descWrites (s : State) (c : Nat) : List Req := (s.dmaOpen c true).filter (fun q => q.slot = (s.chan c).serial)

/-- The channel's staging launder (R266). -/
def State.stageLaunder (s : State) (c : Nat) : Option Nat :=
  ((List.range 4).map (fun k => 4 * chHub c + k)).find? (fun l =>
    let e := s.entry l
    leProd e = 2 && leCons e = 2 && leDmach e = c)

/-- The descriptor is malformed (R258). -/
def State.descBad (s : State) (c d : Nat) : Bool :=
  let g := s.entry (ddGlaunder d)
  bits d 64 4 ≠ 0 || bits d 44 2 ≠ 0 || bits d 0 37 ≠ 0 || ddLength d = 0 ||
    (ddSwap d = 1 && ddLength d % 2 = 1) || (2 ≤ ddSwap d && ddLength d % 4 ≠ 0) ||
    (ddSgs d && ddSrc d % 16 ≠ 0) || (ddSgd d && ddDst d % 16 ≠ 0) || ddNext d % 32 ≠ 0 ||
    (ddStage d && (s.stageLaunder c).isNone) ||
    (ddGpush d && !(leProd g = 2 && leCons g = 3 && leDmach g = c))

-- lists, R260, R261
def sgAddr (x : Nat) : Nat := bits x 0 52
def sgLen (x : Nat) : Nat := bits x 64 32
/-- An entry with LEN 0 or a reserved bit set. -/
def sgBad (x : Nat) : Bool := bits x 52 12 ≠ 0 || bits x 96 32 ≠ 0 || sgLen x = 0

/-- How the pieces of a range end: all found, at an entry that halts the channel, at an entry that is not read yet. -/
inductive SgEnd where
  | done
  | bad (off : Nat)
  | need (off : Nat)
deriving DecidableEq, Repr

/-- Pieces of a list that hold stream offsets lo to hi - 1 of LENGTH `len`, as (offset, address, length), by the entries read so
far; `sum` is the running sum before them. -/
def sgPieces (len lo hi : Nat) : List Nat → Nat → List (Nat × Nat × Nat) × SgEnd
  | [], sum => if hi ≤ sum then ([], .done) else ([], .need (max lo sum))
  | x :: t, sum =>
    if hi ≤ sum then ([], .done)
    else if sgBad x || decide (len < sum + sgLen x) then ([], .bad (max lo sum))
    else
      let a := max lo sum
      let b := min hi (sum + sgLen x)
      let (l, e) := sgPieces len lo hi t (sum + sgLen x)
      (if a < b then (a, sgAddr x + (a - sum), b - a) :: l else l, e)

/-- A side of a channel's descriptor goes by a list; its entries read so far; its address. -/
def Chan.listed (x : Chan) (write : Bool) : Bool := if write then ddSgd x.desc else ddSgs x.desc
def Chan.entries (x : Chan) (write : Bool) : List Nat := if write then x.scatter else x.gather
def Chan.base (x : Chan) (write : Bool) : Nat := if write then ddDst x.desc else ddSrc x.desc

/-- One side's contiguous ranges for stream offsets lo to hi - 1. -/
def Chan.side (x : Chan) (write : Bool) (lo hi : Nat) : List (Nat × Nat × Nat) × SgEnd :=
  if x.listed write then sgPieces (ddLength x.desc) lo hi (x.entries write) 0 else ([(lo, x.base write + lo, hi - lo)], .done)

/-- Address of the next four entries of a list. -/
def Chan.listNext (x : Chan) (write : Bool) : Nat := x.base write + 16 * (x.entries write).length

/-- A page that a read of n bytes at a lacks. -/
def State.chanLacks (s : State) (c a n : Nat) : Option Nat := [pageOf a, pageOf (a + n - 1)].find? (fun p => (s.tlbHit (chHalf c) p).isNone)

/-- A read by the channel itself, of n bytes at a, can be made: its page is mapped, and no write of the GPE to it is pending
(R263). -/
def State.chanReads (s : State) (c a n : Nat) : Bool :=
  (s.chanLacks c a n).isNone && !(s.strm.tags.any (fun t => t.req.write && overlaps t.req.addr t.req.len a n))

/-- The translation that such a read lacks is asked for. -/
def State.chanMiss (s : State) (c a n : Nat) : State :=
  match s.chanLacks c a n with
  | some p => (s.miss (chHalf c) p).setChan c { s.chan c with asked := some p }
  | none => s

/-- Read the list of a side, 64 bytes at a time, until the pieces of lo to hi - 1 are known, or a read must wait; `fuel` bounds
the reads (R260). -/
def State.readList (s : State) (c : Nat) (write : Bool) (lo hi : Nat) : Nat → State
  | 0 => s
  | fuel + 1 =>
    let x := s.chan c
    match (x.side write lo hi).2 with
    | .need _ =>
      let a := x.listNext write
      if s.chanReads c a 64 then
        let l := (List.range 4).map (fun k => s.rdN (a + 16 * k) 16)
        (s.setChan c (if write then { x with scatter := x.scatter ++ l, asked := none } else { x with gather := x.gather ++ l, asked := none })).readList c write lo hi fuel
      else s.chanMiss c a 64
    | _ => s

/-- Cut a range at 256-byte-aligned blocks (R259): requests as (offset, address, length). -/
def cutBlocks : Nat → Nat → Nat → Nat → List (Nat × Nat × Nat)
  | 0, _, _, _ => []
  | fuel + 1, o, a, n => if n = 0 then [] else
      let k := min n (256 - a % 256)
      (o, a, k) :: cutBlocks fuel (o + k) (a + k) (n - k)
def beats (l : List (Nat × Nat × Nat)) : List (Nat × Nat × Nat) := l.flatMap (fun p => cutBlocks (p.2.2 + 1) p.1 p.2.1 p.2.2)

-- swap, R262
def swapBytes (k : Nat) : List Byte → List Byte
  | a :: b :: c :: d :: t =>
    (match k with
     | 0 => [a, b, c, d]
     | 1 => [b, a, d, c]
     | 2 => [c, d, a, b]
     | _ => [d, c, b, a]) ++ swapBytes k t
  | [a, b] => if k = 1 then [b, a] else [a, b]
  | l => l

-- status record, R273
/-- Entry of a list in which a stream offset lies, and the offset within it, by the entries read. -/
def sgFind (o : Nat) : List Nat → Nat → Nat → Nat × Nat
  | [], e, sum => (e, o - sum)
  | x :: t, e, sum => if o < sum + sgLen x || sgLen x = 0 then (e, o - sum) else sgFind o t (e + 1) (sum + sgLen x)

/-- Write the status record of a channel (R273). `ended`: the event ends the list, so a gate handle is not pushed any more. -/
def State.dmaStatus (s : State) (c code fcode : Nat) (ended : Bool) : State :=
  let x := s.chan c
  let d := x.desc
  -- a descriptor that was never read has no stated residue (log entry 20)
  let residue := if x.haveDesc then ddLength d - x.off else Config.unstated 5 [c] % 2 ^ 32
  let (i, o) := if !x.haveDesc || residue = 0 then (0, 0)
    else if ddSgs d then sgFind x.off x.gather 0 0
    else if ddSgd d then sgFind x.off x.scatter 0 0 else (0, 0)
  let v := pack 0 64 x.daddr + pack 64 32 residue + pack 96 32 x.done + pack 128 8 code + pack 136 8 (if x.haveDesc then ddTag d else Config.unstated 6 [c]) +
    pack 144 16 fcode + pack 160 32 i + pack 192 32 o +
    pack 224 8 (b2n (s.descWrites c).isEmpty + pack 1 1 (b2n (ended && x.haveDesc && ddGpush d)))
  (s.setChan c { x with status := v }).storeN (s.obj (okey 0x2210 1) + 32 * c) 32 v

/-- Set bit c of a pending object of 2210. -/
def State.dmaPend (s : State) (sub c : Nat) : State := s.setObj (okey 0x2210 sub) (s.obj (okey 0x2210 sub) ||| 2 ^ c)

-- staging buffers, R266
/-- A buffer of a channel's staging launder. -/
def Buf.staged (b : Buf) (c : Nat) : Bool := b.ring = dmaRing && b.role = 0 && b.slot = c
def State.stagedBufs (s : State) (c : Nat) : List Buf := s.strm.bufs.filter (fun b => b.staged c)
/-- Stream offset after the last byte of a staging buffer. -/
def Buf.stageEnd (b : Buf) : Nat := b.firstRun + (b.runs.map Prod.snd).sum

/-- The staging buffers of a channel that satisfy p go, with their handles and their reads. -/
def State.dropStaged (s : State) (c : Nat) (p : Buf → Bool) : State :=
  let ids := ((s.stagedBufs c).filter p).map Buf.id
  let cut (e : Nat × Queue) : Nat × Queue := (e.1, { q := e.2.q.filter (fun h => !(ids.contains h.buf)), held := e.2.held.filter (fun h => !(ids.contains h.buf)) })
  let s := ids.foldl (fun s i => s.cancelReads i) s
  s.setStrm { s.strm with bufs := s.strm.bufs.filter (fun b => !(ids.contains b.id)), queues := (s.strm.queues.map cut).filter (fun e => e.2 != {}) }

/-- Handles of staging buffers whose bytes have all arrived are pushed in order; `fuel` bounds the buffers. -/
def State.pushStaged (s : State) (c : Nat) : Nat → State
  | 0 => s
  | fuel + 1 =>
    match (s.stagedBufs c).find? (fun b => !b.pushed) with
    | none => s
    | some b =>
      if b.firstRun + b.data.length = b.stageEnd then
        ((s.updBuf b.id (fun b => { b with pushed := true })).pushHandle b.launder
          { kind := 0, seq := b.seq % 64, len := b.len, base := b.base, buf := b.id }).pushStaged c fuel
      else s

-- halts, R258, R261, R274, R389
/-- The halt itself. -/
def State.finishHalt (s : State) (c : Nat) : State :=
  let code := (s.chan c).haltCode
  let s := (((s.dmaStatus c 3 code true).dmaPend 4 c).bump32 (okey 0x2211 4)).event code
  (s.dropStaged c (fun _ => true)).setChan c { s.chan c with state := .halted, haltCode := 0, haltAt := 0, pendStart := false }

/-- A channel that is to halt does so once the bytes before the halt are written, and after a fault of R274 or R389 have
arrived. -/
def State.settleHalt (s : State) (c : Nat) : State :=
  let x := s.chan c
  if x.haltCode ≠ 0 && decide (x.haltAt ≤ x.off) && (s.dmaReqs c true).isEmpty &&
      (x.haltCode = 0x0220 || x.haltCode = 0x0221 || (s.dmaOpen c true).isEmpty) then s.finishHalt c
  else s

/-- The channel halts at a stream offset: nothing is read or written from there on; what lies before it still is. -/
def State.halt (s : State) (c code off : Nat) : State :=
  let x := s.chan c
  if x.haltCode ≠ 0 then s
  else
    let stage := ddStage x.desc
    let gone (q : Req) : Bool := q.who == .dma && q.hub = chHub c && (decide (off ≤ q.run) || (!stage && !q.write))
    let s := s.dropStaged c (fun b => decide (off ≤ b.firstRun))
    let s := s.setStrm { s.strm with
      reqs := s.strm.reqs.filter (fun q => !(gone q)),
      tags := s.strm.tags.map (fun t => if gone t.req && !t.req.write then { t with req := { t.req with slot := 0 } } else t),
      bufs := s.strm.bufs.map (fun b => if b.staged c && decide (off < b.stageEnd) then
        { b with runs := [(b.firstRun, off - b.firstRun)], data := b.data.filter (fun e => decide (e.1 < off)) } else b) }
    let s := s.setChan c { s.chan c with haltCode := code, haltAt := off, got := if stage then x.got else [], gateWait := false }
    (s.pushStaged c (s.strm.bufs.length + 1)).settleHalt c

-- start and abort, R270 to R272
/-- Active or Paced: between a start and its end. -/
def Chan.moving (x : Chan) : Bool := x.state == .active || x.state == .paced

/-- A start takes effect: the list head, the switch (R270, R271). -/
def State.startChan (s : State) (c : Nat) : State :=
  let on := s.dmaSwitch c false
  s.setChan c { s.chan c with state := if on then .active else .paced, pendStart := false, daddr := s.obj (chKey c 2), desc := 0, haveDesc := false,
                              off := 0, rd := 0, half := false, done := 0, got := [], gather := [], scatter := [], switch := on, gateWait := false,
                              haltCode := 0, haltAt := 0 }

/-- The read side may fill another buffer of its staging launder under credit (R266). -/
def State.stageFree (s : State) (c : Nat) : Bool :=
  match s.stageLaunder c with
  | none => false
  | some l => s.depthLeft l && (s.place l (leBufmax (s.entry l))).isSome

/-- The staging buffer that the read side is filling, if it has begun one and not asked for all of it. -/
def State.stageOpen (s : State) (c : Nat) : Option Buf := (s.stagedBufs c).find? (fun b => decide (b.firstRun ≤ (s.chan c).rd) && decide ((s.chan c).rd < b.stageEnd))

/-- The channel waits for credit of its staging or gate launder (R235, R266, R267). -/
def State.chanCredit (s : State) (c : Nat) : Bool :=
  let x := s.chan c
  x.moving && x.haltCode = 0 && x.haveDesc &&
    (x.gateWait || (ddStage x.desc && decide (x.rd < ddLength x.desc) && (s.stageOpen c).isNone && !(s.stageFree c) && (s.stagedBufs c).isEmpty))

/-- The channel waits for a pending write to arrive before its next read (R263). -/
def State.chanBlocked (s : State) (c : Nat) : Bool :=
  match s.dmaReqs c false with
  | [] => false
  | q :: _ => s.strm.tags.any (fun t => t.req.write && overlaps t.req.addr t.req.len q.addr q.len)

/-- State of a channel as it is read (R271). -/
def State.chanState (s : State) (c : Nat) : ChState :=
  let x := s.chan c
  if x.state == .active && (s.chanCredit c || s.chanBlocked c) then .waiting else x.state

/-- Step 4 of R272. -/
def State.finishAbort (s : State) (c : Nat) : State :=
  let x := s.chan c
  let s := (((s.dmaStatus c 2 0 true).dmaPend 4 c).event 0x0210).bump32 (okey 0x2211 3)
  let s := (s.dropStaged c (fun _ => true)).setChan c { s.chan c with state := .idle, gateWait := false, got := [] }
  if x.pendStart then s.startChan c else s

/-- An accepted abort (R272): staged buffers whose writes have not begun go; of the bursts in progress the one being written is
finished, or, if there is none, the one being read. A Paced or Waiting channel has none. -/
def State.abortChan (s : State) (c : Nat) : State :=
  let x := s.chan c
  if x.haltCode ≠ 0 then s
  else
    let writing := !(s.dmaReqs c true).isEmpty
    let reading := s.strm.tags.any (fun t => t.req.who == .dma && t.req.hub = chHub c && !t.req.write && t.req.slot = x.serial)
    let keep := !writing && (reading || !x.got.isEmpty) && !(ddStage x.desc) && s.chanState c == .active
    let s := s.dropStaged c (fun b => !b.read)
    let gone (q : Req) : Bool := !keep && q.who == .dma && q.hub = chHub c && !q.write
    let s := s.setStrm { s.strm with
      reqs := s.strm.reqs.filter (fun q => !(gone q)),
      tags := s.strm.tags.map (fun t => if gone t.req then { t with req := { t.req with slot := 0 } } else t) }
    let s := s.setChan c { s.chan c with state := .aborting, got := if keep then x.got else [] }
    if !writing && !keep && (s.dmaOpen c true).isEmpty then s.finishAbort c else s

/-- Function 2 leaves Running: every channel Active, Paced or Waiting is aborted (R275). -/
def State.abortChans (s : State) : State :=
  (List.range 32).foldl (fun s c => if (s.chan c).moving then s.abortChan c else s) s

/-- Every channel is Idle or Halted. -/
def State.chansDown (s : State) : Bool := s.chans.all (fun e => e.2.state == .idle || e.2.state == .halted)

/-- A control code of R271: none where it is refused. -/
def State.chanControl (s : State) (c code : Nat) : Option State :=
  let x := s.chan c
  let lo := s.obj (chKey c 0x0A)
  let hi := s.obj (chKey c 0x0B)
  let paceBad := s.obj (chKey c 9) ≠ 0 && !(decide (lo < hi) && decide (hi ≤ 64))
  if code = 1 then
    if !(s.running 2) || paceBad || x.pendStart then none
    else if x.state == .idle then some (s.startChan c)
    else if x.state == .aborting then some (s.setChan c { x with pendStart := true })
    else none
  else if code = 2 then
    if x.pendStart then some (s.setChan c { x with pendStart := false })
    else if x.moving then some (s.abortChan c)
    else none
  else if code = 3 then
    if x.state == .halted then some (s.setChan c { x with state := .idle }) else none
  else none

-- bursts
/-- The half interrupt (R265): stream bytes below H are written, or arrived under BARRIER. -/
def State.halfCheck (s : State) (c : Nat) : State :=
  let x := s.chan c
  let h := cdiv (ddLength x.desc) 2
  if x.haveDesc && ddIhalf x.desc && !x.half && decide (h ≤ x.off) &&
      (!(ddBarrier x.desc) || (s.descWrites c).all (fun q => decide (h ≤ q.run))) then
    (s.setChan c { x with half := true }).dmaPend 2 c
  else s

/-- Requests for the beats of a side (R259): reads, or writes of the stream data from offset lo on. -/
def State.askBeats (s : State) (c : Nat) (write : Bool) (buf lo : Nat) (data : List Byte) (l : List (Nat × Nat × Nat)) : State :=
  (beats l).foldl (fun s p =>
    s.enqueue { hub := chHub c, write := write, who := .dma, addr := p.2.1, len := p.2.2, data := (data.drop (p.1 - lo)).take p.2.2,
                buf := buf, run := p.1, ring := dmaRing, slot := (s.chan c).serial }) s

/-- A write of the channel that cannot be made halts it there (R274). -/
def State.judgeChan (s : State) (c : Nat) : State :=
  match (s.dmaReqs c true).find? (fun q => q.stuck ≠ 0) with
  | some q => s.halt c 0x0222 q.run
  | none => s

/-- Write a burst from its data: its beats are asked for up to an entry that halts the channel; none while the scatter list
cannot be read further. -/
def State.writeBurst (s : State) (c lo : Nat) (data : List Byte) : Option State :=
  let hi := lo + data.length
  let s := s.readList c true lo hi (data.length + 1)
  let x := s.chan c
  let data := swapBytes (ddSwap x.desc) data
  let go (s : State) (ps : List (Nat × Nat × Nat)) : State := ((s.setChan c { s.chan c with staging := data }).askBeats c true 0 lo data ps).judgeChan c
  match x.side true lo hi with
  | (ps, .done) => some (go s ps)
  | (ps, .bad o) => some ((go s ps).halt c 0x0221 o)
  | (_, .need _) => none

/-- The scatter list is read as far as a burst needs it, or the page that it waits for is asked for. -/
def State.writeOr (s : State) (c lo : Nat) (data : List Byte) (f : State → State) : State :=
  match s.writeBurst c lo data with
  | some t => f t
  | none => s.readList c true lo (lo + data.length) (data.length + 1)

/-- The write side begins its next burst, once the one before it is written (R259, R266): the bytes read, or the next 512 of the
oldest staged buffer, whose handle it pops with the first. -/
def State.beginWrite (s : State) (c : Nat) : State :=
  let x := s.chan c
  if !(s.dmaReqs c true).isEmpty then s
  else if ddStage x.desc then
    match (s.stagedBufs c).find? (fun b => b.pushed && decide (b.firstRun ≤ x.off) && decide (x.off < b.stageEnd)) with
    | none => s
    | some b =>
      let hi := min b.stageEnd (512 * (x.off / 512 + 1))
      let data := (List.range (hi - x.off)).map (fun k => FMap.get 0 b.data (x.off + k))
      s.writeOr c x.off data (fun s =>
        let s := if (s.queue b.launder).q.head?.any (fun h => h.buf = b.id) then s.popHandle b.launder true else s
        s.updBuf b.id (fun b => { b with read := true }))
  else if !x.got.isEmpty && (s.dmaOpen c false).all (fun q => q.slot ≠ x.serial) then
    s.writeOr c x.off ((List.range (x.rd - x.off)).map (fun k => FMap.get 0 x.got (x.off + k))) (fun s => s.setChan c { s.chan c with got := [] })
  else s

/-- The read side of a burst [rd, hi): the gather list is read as it needs it, and the beats are asked for. -/
def State.readBurst (s : State) (c buf hi : Nat) : State :=
  let lo := (s.chan c).rd
  let s := s.readList c false lo hi (hi - lo + 1)
  let x := s.chan c
  match x.side false lo hi with
  | (ps, .done) => (s.askBeats c false buf lo [] ps).setChan c { x with rd := hi }
  | (_, .bad _) => s.halt c 0x0221 lo
  | (_, .need _) => s

/-- The read side fills the next buffer of the staging launder, once it has credit (R266). -/
def State.openStage (s : State) (c : Nat) : State :=
  match s.stageLaunder c with
  | none => s
  | some l =>
    let x := s.chan c
    if (s.stageOpen c).isSome || !(s.stageFree c) || decide (ddLength x.desc ≤ x.rd) then s
    else
      let n := leBufmax (s.entry l)
      let b : Buf := { id := s.strm.bufCount + 1, launder := l, ring := dmaRing, slot := c, len := n, base := (s.place l n).getD 0,
                       seq := x.rd / (4096 * n), firstRun := x.rd, runs := [(x.rd, min (ddLength x.desc - x.rd) (4096 * n))] }
      (s.setStrm { s.strm with bufs := s.strm.bufs ++ [b], bufCount := b.id }).moved (l / 4)

/-- The read side begins its next burst (R259): without STAGE at most one burst is being read, and one written. -/
def State.beginRead (s : State) (c : Nat) : State :=
  let x := s.chan c
  if x.haltCode ≠ 0 || decide (ddLength x.desc ≤ x.rd) || !(s.dmaReqs c false).isEmpty then s
  else if ddStage x.desc then
    let s := s.openStage c
    match s.stageOpen c with
    | some b => s.readBurst c b.id (min b.stageEnd (512 * (x.rd / 512 + 1)))
    | none => s
  else if x.got.isEmpty && (s.dmaOpen c false).all (fun q => q.slot ≠ x.serial) then s.readBurst c 0 (min (ddLength x.desc) (512 * (x.rd / 512 + 1)))
  else s

/-- BURST (R259, R263, R266, R268, R270, R353): the channel begins the next burst of each side that may begin one; its beats are
granted at the ports of the host hub. -/
def execBurst (cn : ChanNo) (s : State) : Host.Outcome State Fault Refusal :=
  let c := cn.val
  if !((s.chan c).haveDesc && s.awake && s.live) then .next s
  else if (s.chan c).state == .aborting && !(ddStage (s.chan c).desc) then .next (s.beginWrite c)
  else if !((s.chan c).moving) then .next s
  else
    let s := s.repace c
    if (s.chan c).state == .paced then .next s else .next (((s.beginWrite c).beginRead c).settleHalt c)

/-- DESCRIPTOR_READ (R256, R258). -/
def execDescriptorRead (cn : ChanNo) (s : State) : Host.Outcome State Fault Refusal :=
  let c := cn.val
  let x := s.chan c
  if !(x.moving && x.haltCode = 0 && !x.haveDesc && s.awake && s.live) then .next s
  else if !(s.chanReads c x.daddr 32) then .next (s.chanMiss c x.daddr 32)
  else
    let d := s.rdN x.daddr 32
    let s := s.setChan c { x with desc := d, haveDesc := true, serial := x.serial + 1, off := 0, rd := 0, half := false, got := [], gather := [], scatter := [],
                                     asked := none }
    if s.descBad c d then .next (s.halt c 0x0220 0) else .next s

-- completion, R264, R267
/-- The gate handle is pushed with one unit of the gate launder: none while DEPTH or credit is exhausted. -/
def State.pushGate (s : State) (d : Nat) : Option State :=
  let l := ddGlaunder d
  match s.place l 1 with
  | none => none
  | some base =>
    if !(s.depthLeft l) then none
    else
      let b : Buf := { id := s.strm.bufCount + 1, launder := l, ring := dmaRing, slot := 0, role := 1, len := 1, base := base, arrived := true, pushed := true, read := true }
      let s := s.setStrm { s.strm with bufs := s.strm.bufs ++ [b], bufCount := b.id }
      some ((s.pushHandle l { kind := 0, seq := ddTag d % 64, len := 1, base := base, buf := b.id }).bump64 (okey 0x2211 7))

/-- Steps 2 to 4 of R264. -/
def State.finishDesc (s : State) (c : Nat) : State :=
  let x := s.chan c
  let d := x.desc
  let s := (s.setChan c { x with done := x.done + 1, gateWait := false }).bump64 (okey 0x2211 1)
  let s := if ddIfull d then s.dmaStatus c 4 0 false else if ddNext d = 0 then s.dmaStatus c 1 0 false else s
  let s := if ddIfull d then s.dmaPend 3 c else s
  let x := s.chan c
  s.setChan c (if ddNext d = 0 then { x with state := .idle } else { x with daddr := ddNext d, haveDesc := false, desc := 0, off := 0, rd := 0, half := false })

/-- DESCRIPTOR_COMPLETE (R264): the descriptor is written, or arrived where BARRIER or the gate asks for it; not while Quiesced
(R354). -/
def execDescriptorComplete (cn : ChanNo) (s : State) : Host.Outcome State Fault Refusal :=
  let c := cn.val
  let x := s.chan c
  let arrived := (s.descWrites c).isEmpty
  if !(x.moving && x.haltCode = 0 && x.haveDesc && x.off = ddLength x.desc && (arrived || !(ddBarrier x.desc || ddGpush x.desc)) && s.awake && s.cfg.snap.state ≠ 2) then .next s
  else if ddGpush x.desc then
    match s.pushGate x.desc with
    | some s => .next (s.finishDesc c)
    | none => .next (s.setChan c { x with gateWait := true })
  else .next (s.finishDesc c)

/-- ABORT_COMPLETE (R272): the burst of an aborting channel is finished, and its writes have arrived. -/
def execAbortComplete (cn : ChanNo) (s : State) : Host.Outcome State Fault Refusal :=
  let c := cn.val
  let x := s.chan c
  if x.state == .aborting && (s.dmaOpen c true).isEmpty && x.got.isEmpty && (s.dmaOpen c false).all (fun q => q.slot ≠ x.serial) then .next (s.finishAbort c)
  else .next s

-- the engines, R268
/-- Rank of a channel: an urgent one before any that is not, then its level; one that aborts ranks as urgent (R268, R272). -/
def State.chanLevel (s : State) (c : Nat) : Nat :=
  (if s.obj (okey (0x2280 + c) 1) = 1 || (s.chan c).state == .aborting then 4 else 0) + s.obj (chKey c 7)

/-- The channel's burst on a side has begun: its next beat is not the burst's first. -/
def State.midBurst (s : State) (c : Nat) (write : Bool) : Bool := (s.dmaReqs c write).head?.any (fun q => q.run % 512 ≠ 0)

/-- Key of a half's engine and direction. -/
def engKey (c : Nat) (write : Bool) : Nat := 2 * chHalf c + b2n write

/-- Place of a channel in the order of an engine: level, a burst in progress, round robin (R268); a greater one goes first. -/
def State.chanRank (s : State) (c : Nat) (write : Bool) : Nat :=
  64 * s.chanLevel c + (if s.midBurst c write then 32 else 0) + (31 - (c % 16 + 16 - FMap.get 0 s.strm.dmaNext (engKey c write)) % 16)

/-- The engine of the half gives the next beat of a direction to channel c, among the channels whose next beat `ready` is
(R268). -/
def State.chanWins (s : State) (c : Nat) (write : Bool) (ready : Req → Bool) : Bool :=
  ((List.range 16).map (fun k => 16 * chHalf c + k)).all (fun k =>
    k = c || !((s.dmaReqs k write).head?.any ready) || decide (s.chanRank k write < s.chanRank c write))

/-- A beat of a channel has been granted: the round robin goes on after a channel that begins a burst, and a burst that gives
way to another channel's beat is counted (2211/05). -/
def State.engineServed (s : State) (c : Nat) (q : Req) : State :=
  let key := engKey c q.write
  let last := FMap.get 0 s.strm.dmaLast key
  let s := if last ≠ 0 && last ≠ c + 1 && s.midBurst (last - 1) q.write then s.bump64 (okey 0x2211 5) else s
  let next := if q.run % 512 = 0 then FMap.put 0 s.strm.dmaNext key ((c % 16 + 1) % 16) else s.strm.dmaNext
  s.setStrm { s.strm with dmaNext := next, dmaLast := FMap.put 0 s.strm.dmaLast key (c + 1) }

-- what the ports' commands do to channels
/-- A write of a channel has been granted: its bytes are written (R264, R265); a staged buffer is released with its last. -/
def State.dmaIssued (s : State) (q : Req) : State :=
  let c := q.hub / 2
  let x := s.chan c
  if q.slot ≠ x.serial then s
  else
    let s := (s.setChan c { x with off := q.run + q.len }).bump 64 (okey 0x2211 2) q.len
    let s := s.halfCheck c
    let s := match (s.stagedBufs c).find? (fun b => b.read && b.stageEnd = q.run + q.len) with
      | none => s
      | some b =>
        let y := s.queue b.launder
        ((s.setQueue b.launder { y with held := y.held.filter (fun h => h.buf ≠ b.id) }).freeBuf b.id).moved (b.launder / 4)
    let s := if x.state == .aborting && ddStage x.desc then s else s.beginWrite c
    s.settleHalt c

/-- A write of a channel has arrived: the half interrupt, and a halt that waited (R265, R274). -/
def State.dmaArrived (s : State) (q : Req) : State := if q.who == .dma then (s.halfCheck (q.hub / 2)).settleHalt (q.hub / 2) else s

/-- Data of a channel's read has come back: into its staging buffer, or into the buffer of its staging launder. A parity error
or a poisoned answer halts the channel at the start of the burst (R385, R389). -/
def State.dmaData (s : State) (q : Req) (bad : Bool) : State :=
  let c := q.hub / 2
  let x := s.chan c
  if q.slot ≠ x.serial then s
  else if bad then s.halt c 0x0223 (512 * (q.run / 512))
  else
    let data := (readBytes s.mem q.addr q.len).zipIdx.map (fun e => (q.run + e.2, e.1))
    if ddStage x.desc then
      (s.updBuf q.buf (fun b => { b with data := b.data ++ data })).pushStaged c (s.strm.bufs.length + 1)
    else (s.setChan c { x with got := x.got ++ data }).beginWrite c

/-- A page is absent (R274): reads of channels for it halt them at the start of their burst, writes at the first of them, and a
descriptor or a list that lies in it at the burst it is needed for. -/
def State.dmaAbsent (s : State) (half page : Nat) : State :=
  ((List.range 16).map (fun k => 16 * half + k)).foldl (fun s c =>
    let x := s.chan c
    if !x.moving && !(x.state == .aborting) then s
    else
      let s := match (s.dmaReqs c false).find? (fun q => q.pages.contains page && q.xheld) with
        | some q => s.halt c 0x0222 (512 * (q.run / 512))
        | none => s
      let s := s.judgeChan c
      let rhi := min (ddLength x.desc) (512 * (x.rd / 512 + 1))
      let whi := min (ddLength x.desc) (512 * (x.off / 512 + 1))
      if x.asked ≠ some page then s
      else if !x.haveDesc then s.halt c 0x0222 0
      else match (x.side false x.rd rhi).2, (x.side true x.off whi).2 with
        | .need _, _ => s.halt c 0x0222 x.rd
        | _, .need o => s.halt c 0x0222 o
        | _, _ => s) s

end Sys2Proof.Machine
end

