-- ==== Sys2Proof/Machine/FnCtl.lean ====
section
/-! DEFINITION. Function control (R309 to R319, R324, R325): the command table, pending commands, what starting,
stopping and leaving Faulted do, and the pans that stand still until the Weir lets them go on (R90, R376, R377). -/

namespace Sys2Proof.Machine

-- abort codes of R322
def abPending : Nat := 0x0F000003
def abNothing : Nat := 0x0F000004
def abPrereq : Nat := 0x0F000005
def abDependent : Nat := 0x0F000006
def abWedged : Nat := 0x0F000007
def abLocked : Nat := 0x0F000008
def abState : Nat := 0x08000022
def abValue : Nat := 0x06090030
def abHigh : Nat := 0x06090031
def abLow : Nat := 0x06090032

/-- Prerequisites of a function (R318). -/
def prereqs (n : Nat) : List Nat :=
  if n = 9 then [8] else if n = 13 then [8, 9] else if n = 1 ∨ n = 2 then [9] else if n = 12 then [1, 9]
  else if 3 ≤ n ∧ n ≤ 6 then [1, 13] else if n = 7 then [1, 12, 13] else []

/-- Every prerequisite is Running, or Starting with TARGET Running (R318). -/
def State.prereqOk (s : State) (n : Nat) : Bool :=
  (prereqs n).all (fun k => s.running k || ((s.fn k).state == .starting && (s.fn k).target == .running))

/-- Some function that names n as a prerequisite is Starting, Running or Stopping (R318). -/
def State.dependents (s : State) (n : Nat) : Bool :=
  (List.range 15).any (fun k => (prereqs k).contains n &&
    ((s.fn k).state == .starting || (s.fn k).state == .running || (s.fn k).state == .stopping))

-- pans that wait for the Weir
/-- A stop with one of the causes no longer holds: a Stopped pan resumes (R88, R376). A request that has not reached its
boundary stays (R90). -/
def Pan.release (x : Pan) (causes : List Nat) : Pan :=
  if x.state == .stopped && causes.contains x.stopCause && x.job.isSome then x.resuming else x

/-- Release pans that stopped for one of the causes, and Held pans that only an emergency kept (R90). Hubs in autonomous mode
stay still until a full reset (R378), and nothing resumes while a function is Wedged (R393). -/
def State.releasePans (s : State) (causes : List Nat) : State :=
  if s.anyWedged then s
  else { s with pans := FMap.mapv {} s.pans (fun n x =>
    if (s.hub (n / 64)).autonomous then x
    else (if s.weir.emergency || s.heldFor n x then x else x.unheld).release causes) }

/-- Pans go on once function 8 is Running and no emergency holds (R376, R377). -/
def State.weirUp (s : State) : State :=
  s.releasePans (if s.weir.emergency then [causeFault] else [causeFault, causeEmergency])

/-- Change every module of the Causeway. -/
def State.setMods (s : State) (f : Nat → Mod → Mod) : State :=
  { s with link := { s.link with mods := FMap.tab {} 16 (fun m => f m (FMap.get {} s.link.mods m)) } }

/-- A function enters a state by its own course, with what comes with it: the Weir lets pans go on (R377), the port takes
arrivals (R125); a start
brings the Causeway into training with its first attempt (R366). -/
def State.goFn (s : State) (n : Nat) (st tgt : FnState) (code : Nat) : State :=
  let s := s.enterFn n st tgt code
  if n = 8 && st == .running then s.weirUp
  else if n = 4 && st == .running then s.pump
  else if n = 9 && st == .starting then
    s.setMods (fun _ _ => { state := 0, attempts := 1 })
  else s

/-- The persisting cause of a fault of the function, or 0 (R324, R362, R366, R380). -/
def State.cause (s : State) (n : Nat) : Nat :=
  if n = 8 && !s.weir.refclk then 0x0831 else (s.fn n).persists

/-- What leaving Faulted cleans up (R317). -/
def State.cleanUp (s : State) (n : Nat) : State :=
  let lost := s.seq.orders.filter Order.failed
  if n = 1 then lost.foldl (fun s o => (s.dropStreams o.ring o.slot).dropHeldWrites o.ring o.slot) s
  else if n = 2 then s.abortChans
  else if n = 9 then s.setMods (fun _ x => { x with state := 0 })
  else if n = 12 then (s.meetErrors (fun k => !(s.region (k / 2 ^ 20)).poisoned)).writeBackGood (fun _ => true) false
  else if n = 13 then s.discardCrusts (fun c => !((s.order? (ckRing c.hdr) (ckSlot c.hdr)).any Order.live))
  else s

/-- Every entry record takes its reset value, in the entry table in memory too (R127). -/
def State.resetEntries (s : State) : State :=
  { s with mem := clearRange s.mem (s.obj (okey 0x2410 8)) 524288,
           stock := { s.stock with ents := [], order := [], releasing := [], spill := [], coming := [], fromFree := [], copies := [], own := none } }

/-- Function 1 starts (R317): the reset launder set; tags, watch windows and stream TLBs are cleared. Requests of the channels of
function 2 stand, and miss again. -/
def State.clearStreams (s : State) : State :=
  let reqs := s.strm.reqs.filter (fun q => q.who == .dma)
  let bufs := s.strm.bufs.filter (fun b => b.ring = dmaRing)
  let s := s.setStrm { s.strm with
    lset := [], streams := [], faultRecs := [], tlb := [], reqs := reqs, bufs := bufs,
    tags := s.strm.tags.filter (fun t => t.req.who == .dma),
    queues := (s.strm.queues.map (fun e => (e.1, { q := e.2.q.filter (fun h => bufs.any (fun b => b.id = h.buf)), held := e.2.held.filter (fun h => bufs.any (fun b => b.id = h.buf)) }))).filter (fun e => e.2 != {}) }
  let s := s.setObj (okey 0x2110 3) 0
  reqs.foldl (fun s q => s.missFor q) (s.setStrm { s.strm with reqs := reqs.map s.judged })

/-- What starting from Off does, as far as the state shows it (R317, R379 phase 5). -/
def State.startWork (s : State) (n : Nat) : State :=
  if n = 1 then s.clearStreams
  else if n = 2 then
    [2, 3, 4].foldl (fun s j => s.setObj (okey 0x2210 j) 0) { s with chans := [] }
  else if n = 3 then { s with seq := { s.seq with layers := [] } }
  else if n = 4 then (if s.obj (okey 0x2410 8) ≠ 0 then s.resetEntries else s)
  else if n = 5 then s.clearWlb (fun _ _ => true)
  else if n = 8 then
    { s with pans := FMap.mapv {} s.pans (fun _ x => { x with level := 0, step := 0 }),
             hubs := FMap.mapv {} s.hubs (fun _ x => { x with step := 0 }),
             weir := { s.weir with budget0 := 0, budget1 := 0 } }
  else if n = 9 then
    (s.setMods (fun _ x => { attempts := x.attempts })).setObj
      (okey 0x2911 6) (min ((s.timeUs - (s.fn 9).entered) / 1000) (2 ^ 32 - 1))
  else if n = 12 then s.setFrames []
  else if n = 13 then
    { s with pans := FMap.mapv {} s.pans (fun _ x => { x with arrs := FMap.mapv {} x.arrs (fun _ a => { a with rippleNext := true }) }) }
  else s

/-- The command table of R314 for a function that is Off. -/
def State.controlOff (s : State) (n code : Nat) : Except Nat State :=
  if code = 0 then .error abNothing
  else if code = 1 then .ok (s.goFn n .starting .ready 0)
  else if code = 2 then (if s.prereqOk n then .ok (s.goFn n .starting .running 0) else .error abPrereq)
  else if code = 5 then .error abState
  else .ok s

/-- The command table for Ready. -/
def State.controlReady (s : State) (n code : Nat) : Except Nat State :=
  if code = 0 then .error abNothing
  else if code = 2 then (if s.prereqOk n then .ok (s.goFn n .running .running 0) else .error abPrereq)
  else if code = 4 then (if s.dependents n then .error abDependent else .ok (s.goFn n .off .off 0))
  else if code = 5 then .error abState
  else .ok s

/-- A Running function begins to stop; channels of the DMA function are aborted (R317). -/
def State.beginStop (s : State) (n : Nat) (tgt : FnState) : State :=
  let s := s.goFn n .stopping tgt 0
  if n = 2 then s.abortChans else s

/-- The command table for Running. -/
def State.controlRunning (s : State) (n code : Nat) : Except Nat State :=
  if code = 0 then .error abNothing
  else if code = 2 then .ok s
  else if code = 3 ∨ code = 4 then
    if s.dependents n then .error abDependent else .ok (s.beginStop n (if code = 3 then .ready else .off))
  else .error abState

/-- The pending command of a function is replaced. -/
def State.setPend (s : State) (n c : Nat) : State := s.setFn n { s.fn n with pend := c }

/-- The command table for Starting and Stopping (R315). -/
def State.controlMoving (s : State) (n code : Nat) : Except Nat State :=
  let pend := (s.fn n).pend
  if code = 0 then (if pend = 0 then .error abNothing else .ok (s.setPend n 0))
  else if pend = code then .ok s
  else if pend ≠ 0 then .error abPending
  else if code = 2 then (if s.prereqOk n then .ok (s.setPend n 2) else .error abPrereq)
  else if code = 1 then .ok (s.setPend n 1)
  else if code = 5 then .error abState
  else if s.dependents n then .error abDependent
  else .ok (s.setPend n code)

/-- A Faulted function is acknowledged: Ready, and Faulted again where the cause persists (R324). -/
def State.acknowledged (s : State) (n : Nat) : State :=
  let s := (s.cleanUp n).goFn n .ready .ready 0
  if s.cause n = 0 then s else s.fault n (s.cause n) {}

/-- The command table for Faulted. -/
def State.controlFaulted (s : State) (n code : Nat) : Except Nat State :=
  if code = 0 then .error abNothing
  else if code = 4 then (if s.dependents n then .error abDependent else .ok ((s.cleanUp n).goFn n .off .off 0))
  else if code = 5 then .ok (s.acknowledged n)
  else .error abState

/-- A command of the control word, 0 to 5: the abort code that refuses it, or its effect (R314, R315, R318, R319). -/
def State.control (s : State) (n code : Nat) : Except Nat State :=
  if 5 < code then .error abValue
  else if (s.fn n).state == .wedged then .error abWedged
  else if isPermanent n then (if code = 0 then .error abNothing else if code = 5 then .error abState else .ok s)
  else match (s.fn n).state with
    | .off => s.controlOff n code
    | .ready => s.controlReady n code
    | .running => s.controlRunning n code
    | .starting | .stopping => s.controlMoving n code
    | .faulted => s.controlFaulted n code
    | .wedged => .error abWedged

/-- The pending command meets the state reached, or is discarded with event 0xnF2 (R315). -/
def State.applyPending (s : State) (n : Nat) : State :=
  let r := s.fn n
  if r.pend = 0 then s
  else
    let s := s.setPend n 0
    match s.control n r.pend with
    | .ok s => s
    | .error _ => s.event (0x100 * n + 0xF2)

/-- A start or stop completes: the TARGET is entered and the pending command applied (R315, R316). -/
def State.reach (s : State) (n : Nat) : State :=
  let t := (s.fn n).target
  (s.goFn n t t 0).applyPending n

/-- A start that cannot complete (R316, R366, R380); without the Causeway every work order in progress stops (R10). -/
def State.startFails (s : State) (n : Nat) : State :=
  if n = 9 then
    let s := ((s.setMods (fun _ x => { x with state := 7 })).setFn 9 { s.fn 9 with persists := 0x09F0 }).setObj
      (okey 0x2911 6) (min ((s.timeUs - (s.fn 9).entered) / 1000) (2 ^ 32 - 1))
    ((s.fault 9 0x09F0 {}).failOrders (fun _ => true) 0x09F0).stopPans (fun _ x => x.active) causeFault
  else s.fault n (0x100 * n + 0xF0) {}

/-- START_COMPLETE (R317): the starting work of function n ends; `ok` is false where a step of it failed. A cause that
persists fails it (R380). -/
def State.startEnds (s : State) (n : Nat) (ok : Bool) : State :=
  if ok && s.cause n = 0 then (s.startWork n).reach n
  else if s.cause n ≠ 0 then s.fault n (s.cause n) {}
  else s.startFails n

/-- START_COMPLETE (R315 to R317); while Quiesced no function changes its state by itself (R354). -/
def execStartComplete (n : FnNo) (ok : Bool) (s : State) : Host.Outcome State Fault Refusal :=
  if (s.fn n.val).state == .starting && s.awake && s.cfg.snap.state ≠ 2 then .next (s.startEnds n.val ok) else .next s

/-- The condition that ends Stopping (R317). -/
def State.stopMet (s : State) (n : Nat) : Bool :=
  let unused := s.seq.orders.all (fun o => !(o.started && o.uses n))
  if n = 2 then s.chansDown
  else if n = 8 then s.pans.all (fun e => e.2.level = 0)
  else if n = 9 then s.link.mods.all (fun e => e.2.toEast.unacked.isEmpty && e.2.toWest.unacked.isEmpty)
  else if n = 4 then unused && s.stock.arriving.isNone
  else if n = 13 then unused && s.pans.all (fun e => e.2.crusts = 0)
  else if n = 3 then s.seq.orders.all (fun o => !(o.started && o.kind.isProduct))
  else if n = 7 then s.seq.orders.all (fun o => !(o.started && o.kind.isHarrow))
  else unused

/-- STOP_COMPLETE (R315 to R317): function C writes back every resident group and frees its frames; it has stopped once the
writes have arrived. -/
def execStopComplete (n : FnNo) (s : State) : Host.Outcome State Fault Refusal :=
  if (s.fn n.val).state == .stopping && s.stopMet n.val && s.awake && s.cfg.snap.state ≠ 2 then
    let t := if n.val = 12 then s.writeBackAll (fun _ => true) false else s
    .next (if n.val = 12 && (t.windrowDown || t.winBusy) then t else t.reach n.val)
  else .next s

/-- STOPPING_LIMIT (R316): the work orders that use the function are aborted. -/
def execStoppingLimit (n : FnNo) (s : State) : Host.Outcome State Fault Refusal :=
  if (s.fn n.val).state == .stopping && s.obj (fnKey n.val 7) ≠ 0 && s.awake && s.cfg.snap.state ≠ 2 then
    .next ((s.abortUsers n.val).event (0x100 * n.val + 0xF1))
  else .next s

end Sys2Proof.Machine
end

