-- ==== Sys2Proof/Machine/Weir.lean ====
section
/-! DEFINITION. The Weir and the clocks (R362 to R364, R370 to R378): levels and the grant budget, clock steps, the
conditions of R374, power emergencies, hub heartbeats and the autonomous ramp, and the states that 2812 and 4000 + p
show. -/

namespace Sys2Proof.Machine

/-- The current of one level step, in units of 1/65536 A (R370). -/
def levelUnits : Nat := 1120

/-- The pan as the Weir commands it stands still. -/
def State.weirHolds (s : State) : Bool := s.weir.emergency || !(s.running 8)

/-- A pan brought to rest for a snapshot (R353): at a chunk boundary with nothing in its arrays. -/
def State.snapRest (s : State) (x : Pan) : Bool :=
  s.cfg.snap.state = 2 || (s.cfg.snap.state = 1 && x.cur.atBoundary && x.quiet)

/-- Demand level of a pan as the Weir sees it (R371, R376 step 2, R353 step 7). -/
def State.demandOf (s : State) (x : Pan) : Nat :=
  if s.weirHolds || s.snapRest x then 0
  else if x.state == .running || x.state == .stopping || x.state == .resuming then x.demand else 0

/-- The level that a pan is raised or lowered to. Until its crust is valid a pan keeps its level (R376 step 2). -/
def State.levelGoal (s : State) (x : Pan) : Nat :=
  if s.weirHolds && x.state == .stopping then x.level else s.demandOf x

/-- Pans of a half that the Weir governs; hubs in autonomous mode ramp by themselves (R378). -/
def State.governed (s : State) (half : Nat) : List (Nat × Pan) :=
  s.pans.filter (fun e => e.1 / 2048 = half && !(s.hub (e.1 / 64)).autonomous)

/-- The next raise: lowest hub and pan below its D (R373). No raise in an emergency or while function 8 is not Running. -/
def State.nextRaise (s : State) (half : Nat) : Option (Nat × Pan) :=
  if s.weirHolds then none else (s.governed half).find? (fun e => decide (e.2.level < s.levelGoal e.2))

/-- The next lowering: highest hub, and in it the highest pan, above its D (R373). -/
def State.nextLower (s : State) (half : Nat) : Option (Nat × Pan) :=
  (s.governed half).reverse.find? (fun e => decide (s.levelGoal e.2 < e.2.level))

/-- The rate of a half's budget: A/µs, doubled to keep the half rate whole (R373, R376, R377, R381). -/
def State.twiceRate (s : State) : Nat :=
  if s.isFaulted 8 then s.obj (okey 0x2880 1)
  else if s.weir.emergency then 2 * s.obj (okey 0x2880 1)
  else 2 * s.obj (okey 0x2810 1)

def State.budget (s : State) (half : Nat) : Int := if half = 0 then s.weir.budget0 else s.weir.budget1
def State.setBudget (s : State) (half : Nat) (b : Int) : State :=
  { s with weir := if half = 0 then { s.weir with budget0 := b } else { s.weir with budget1 := b } }

/-- Cycles of ballast in a span: the aclk cycles of the pans whose level is above their D (R372, R363). -/
def State.ballastCycles (s : State) (half ns : Nat) : Nat :=
  ((s.pans.filter (fun e => e.1 / 2048 = half && decide (s.demandOf e.2 < e.2.level))).map
    (fun e => ns * (110 - 11 * e.2.step) / 100)).sum

/-- One level step of a half: raised first or lowered first as Config says where both are due (log entry 60). -/
def State.levelStep (s : State) (half : Nat) : Option State :=
  let up := (s.nextRaise half).map (fun e => s.setPan e.1 { e.2 with level := e.2.level + 1 })
  let down := (s.nextLower half).map (fun e => s.setPan e.1 { e.2 with level := e.2.level - 1 })
  match up, down with
  | none, d => d
  | u, none => u
  | some u, some d => some (if Config.raiseFirst s.draws then u.draw else d.draw)

def State.setSnap (s : State) (x : Snap) : State := { s with cfg := { s.cfg with snap := x } }

/-- The time since Live was left does not count for the Stillwater watch (R354): it goes on from where it stood. -/
def State.skipStill (s : State) : State :=
  (List.range 64).foldl (fun t h => t.setHub h { t.hub h with movedAt := (t.hub h).movedAt + (s.timeUs - max (t.hub h).movedAt s.cfg.snap.left) }) s

/-- Live is entered once no pan has still to be raised (R353, R381). -/
def State.snapSettle (s : State) : State :=
  if s.cfg.snap.state = 3 && (s.nextRaise 0).isNone && (s.nextRaise 1).isNone then (s.skipStill.setSnap { s.cfg.snap with state := 0 }).pump else s

/-- LEVEL_GRANT (R373): the budget of a half accrues over `ns`, and one level step is made if it pays for it. What is left
while no step is due is not kept (log entry 61). -/
def execLevelGrant (half : HalfNo) (ns : Nat) (s : State) : Host.Outcome State Fault Refusal :=
  if !s.awake then .next s
  else
    let h := half.val
    let s := s.bump 64 (okey 0x2811 5) (s.ballastCycles h ns)
    let b := s.budget h + (s.twiceRate * 65536 * ns / 2000 : Nat)
    match s.levelStep h with
    | none => .next (s.setBudget h (min b 0)).snapSettle
    | some t => if b < levelUnits then .next (s.setBudget h b) else .next (t.setBudget h (b - levelUnits)).snapSettle

-- clock steps
/-- Step that hub h is told to take (R364, 2880/02). -/
def State.hubStep (s : State) (h : Nat) : Nat := max (s.hub h).step (s.obj (okey 0x2880 2))
/-- Step that pan p is told to take: never below its floor (R364). -/
def State.panStep (s : State) (p : Nat) : Nat := max (s.hubStep (p / 64)) (s.obj (okey (0x4000 + p) 9))

/-- CLOCK_STEP_CHANGE (R363, R373): the pans of a hub take their steps; each with a level above 0 costs 2 level steps for
each clock step that it changes. -/
def execClockStepChange (h : HubNo) (s : State) : Host.Outcome State Fault Refusal :=
  let ps := (List.range 64).map (fun k => 64 * h.val + k)
  let far (a b : Nat) : Nat := (a - b) + (b - a)
  let cost := (ps.map (fun p => if (s.pan p).level = 0 then 0 else 2 * levelUnits * far (s.panStep p) (s.pan p).step)).sum
  let s := ps.foldl (fun s p => s.setPan p { s.pan p with step := s.panStep p }) s
  .next (s.setBudget (h.val / 32) (s.budget (h.val / 32) - cost))

/-- Set the steps that triggers have brought hubs to; changes of a hub's step are counted (2811/02). -/
def State.setHubSteps (s : State) (f : Nat → Nat → Nat) : State :=
  let t := (List.range 64).foldl (fun s h => s.setHub h { s.hub h with step := f h (s.hub h).step }) s
  t.bump 64 (okey 0x2811 2) ((List.range 64).filter (fun h => t.hubStep h ≠ s.hubStep h)).length

-- the conditions of R374
def State.hotHub (s : State) (h : Nat) : Bool := decide (s.obj (okey 0x2810 4) ≤ (s.hub h).temp)
def State.emgHub (s : State) (h : Nat) : Bool := decide (s.obj (okey 0x2810 5) ≤ (s.hub h).temp)
/-- A throttle trigger that covers hub h holds (R374, R375). -/
def State.triggered (s : State) (h : Nat) : Bool := s.weir.overPower || s.weir.railAlert || s.hotHub h
def State.anyTrigger (s : State) : Bool := (List.range 64).any s.triggered
/-- A condition of a power emergency holds (R374). -/
def State.emgCondition (s : State) : Bool :=
  s.weir.railEmg || (List.range 64).any s.emgHub || s.obj (okey 0x2880 3) ≠ 0 || s.weir.overCurrent

/-- Event 0x0810 and the count, once per episode (R375). -/
def State.noteTriggers (s : State) : State :=
  if s.anyTrigger && !s.weir.episode then
    ({ s with weir := { s.weir with episode := true } }.event 0x0810).bump32 (okey 0x2811 1)
  else s

/-- A power emergency begins (R376): stop requests, event 0x0811, the count; raises stop at once (R381). -/
def State.noteEmergency (s : State) : State :=
  if s.emgCondition && !s.weir.emergency then
    let s := { s with weir := { s.weir with emergency := true, emgSince := s.timeUs } }
    ((s.event 0x0811).bump32 (okey 0x2811 3)).stopPans (fun _ x => x.active) causeEmergency
  else s

/-- The Weir acts on its conditions; it is part of the control island (R16, R394). -/
def State.weirReact (s : State) : State := if s.awake then s.noteTriggers.noteEmergency else s

-- measurements
/-- Sums of both halves, newest first. -/
def Weir.sums (w : Weir) : List Nat := List.zipWith (fun a b => a + b) w.samples0 w.samples1
/-- The last n measurements all satisfy p. -/
def lastAll (n : Nat) (p : Nat → Bool) (l : List Nat) : Bool := decide (n ≤ l.length) && (l.take n).all p
/-- The largest change within 1 µs that the newest measurement of a half ends: 11 measurements span 1 µs (R374). -/
def slewOf (l : List Nat) : Nat :=
  match l with
  | [] => 0
  | x :: t => ((t.take 10).map (fun y => (x - y) + (y - x))).foldl max 0

/-- RAIL_CURRENT_SAMPLE (R374): one measurement, 0.1 µs after the last of its half, with the temperatures of the half's
hubs. Power above the cap for 100 measurements, or 1,400 A exceeded for 10, satisfies the time (log entry 62). A change of
more than 20 A is a fault when it is first seen. -/
def execRailCurrentSample (half : HalfNo) (milliamps : Nat) (temps : List Nat) (s : State) : Host.Outcome State Fault Refusal :=
  let h := half.val
  let w := s.weir
  let old := if h = 0 then w.samples0 else w.samples1
  let l := (milliamps :: old).take 101
  let w := if h = 0 then { w with samples0 := l } else { w with samples1 := l }
  let cap := s.obj (okey 0x2810 2)
  let w := { w with overPower := lastAll 100 (fun x => decide (4000 * cap < 3 * x)) w.sums,
                    overCurrent := lastAll 10 (fun x => decide (1400000 < x)) w.sums }
  let s := (List.range 32).foldl (fun s k => s.setHub (32 * h + k) { s.hub (32 * h + k) with temp := temps.getD k 0 }) { s with weir := w }
  if !s.awake then .next s
  else
    let s := s.setObj (okey 0x2811 6) (min (max (s.obj (okey 0x2811 6)) (slewOf l)) (2 ^ 32 - 1))
    let s := if decide (20000 < slewOf l) && decide (slewOf old ≤ 20000) then s.fault 8 0x0830 {} else s
    .next s.weirReact

/-- RAIL_ALERT asserted (R374). -/
def execRailAlert (s : State) : Host.Outcome State Fault Refusal :=
  .next ({ s with weir := { s.weir with railAlert := true } }).weirReact

/-- RAIL_ALERT released (R375). -/
def execRailAlertDeasserted (s : State) : Host.Outcome State Fault Refusal :=
  .next { s with weir := { s.weir with railAlert := false } }

/-- RAIL_EMG asserted (R374, R376). -/
def execRailEmg (s : State) : Host.Outcome State Fault Refusal :=
  .next ({ s with weir := { s.weir with railEmg := true } }).weirReact

/-- EMERGENCY_END (R376 step 5): RAIL_EMG is released, and the emergency ends unless another condition holds. Pans go on
once function 8 is Running (R377). -/
def execEmergencyEnd (s : State) : Host.Outcome State Fault Refusal :=
  let s := { s with weir := { s.weir with railEmg := false } }
  if s.weir.emergency && !s.emgCondition && s.awake then
    let s := ({ s with weir := { s.weir with emergency := false } }.event 0x0812).bump 64 (okey 0x2811 4) (s.timeUs - s.weir.emgSince)
    .next (if s.running 8 then s.weirUp else s)
  else .next s

/-- THROTTLE_STEP (R375): 2 µs with a trigger have passed; every hub that one covers goes down one step, to step 9. -/
def execThrottleStep (s : State) : Host.Outcome State Fault Refusal :=
  if s.awake && s.anyTrigger then .next (s.setHubSteps (fun h k => if s.triggered h then min 9 (k + 1) else k)) else .next s

/-- THROTTLE_RELEASE (R375): a release interval without a trigger has passed; every throttled hub goes up one step. The
episode ends when none is throttled any more. -/
def execThrottleRelease (s : State) : Host.Outcome State Fault Refusal :=
  if s.awake && !s.anyTrigger then
    let s := s.setHubSteps (fun _ k => k - 1)
    .next (if s.hubs.all (fun e => e.2.step = 0) then { s with weir := { s.weir with episode := false } } else s)
  else .next s

/-- REFCLK_LOST (R362). -/
def execRefclkLost (s : State) : Host.Outcome State Fault Refusal :=
  let s := { s with weir := { s.weir with refclk := false } }
  if s.awake then .next (s.fault 8 0x0831 {}) else .next s

/-- REFCLK_RESTORED (R362, R324). -/
def execRefclkRestored (s : State) : Host.Outcome State Fault Refusal :=
  .next { s with weir := { s.weir with refclk := true } }

-- heartbeats and autonomous hubs
/-- The heartbeat reaches a hub: the control island and the hub's control link run, and for an east hub the Causeway does
(R369, R378, R386). -/
def State.beatReaches (s : State) (h : Nat) : Bool := s.awake && s.halfReach (h / 32) && !(s.linkDead (5300 + h))

/-- HUB_HEARTBEAT (R378). -/
def execHubHeartbeat (s : State) : Host.Outcome State Fault Refusal :=
  .next ((List.range 64).foldl (fun t h => if s.beatReaches h then t.setHub h { t.hub h with beatAt := s.timeUs + 1 } else t) s)

/-- AUTONOMOUS_MODE (R378): a hub without a heartbeat for 8 µs; its pans stop with cause fault stop. A hub whose last
heartbeat is less than 8 µs old does not enter it. -/
def execAutonomousMode (h : HubNo) (s : State) : Host.Outcome State Fault Refusal :=
  let x := s.hub h.val
  if x.autonomous || decide (x.beatAt ≠ 0 ∧ s.timeUs + 1 < x.beatAt + 8) then .next s
  else .next ((s.setHub h.val { x with autonomous := true }).stopPans (fun p y => p / 64 = h.val && y.active) causeFault)

/-- AUTONOMOUS_RAMP (R378): after the stop, the pans of an autonomous hub are lowered to level 0. -/
def execAutonomousRamp (h : HubNo) (s : State) : Host.Outcome State Fault Refusal :=
  if (s.hub h.val).autonomous && s.pans.all (fun e => e.1 / 64 ≠ h.val || e.2.state != .stopping) then
    .next { s with pans := FMap.mapv {} s.pans (fun p x => if p / 64 = h.val then { x with level := 0 } else x) }
  else .next s

-- what 2812 and 4000 + p show
def State.levels (s : State) (p : Nat → Bool) : Nat := ((s.pans.filter (fun e => p e.1)).map (fun e => e.2.level)).sum
def State.demands (s : State) (p : Nat → Bool) : Nat := ((s.pans.filter (fun e => p e.1)).map (fun e => s.demandOf e.2)).sum
def Weir.lastAmps (l : List Nat) : Nat := l.getD 0 0 / 1000

/-- Mode of 2812/01. -/
def State.weirMode (s : State) : Nat :=
  if s.isFaulted 8 then 4
  else if s.weir.emergency then 3
  else if (s.nextRaise 0).isSome || (s.nextRaise 1).isSome then 1
  else if (s.nextLower 0).isSome || (s.nextLower 1).isSome then 2
  else 0

/-- 2812/01 (R382): the condition bits are those of the five rows of R374 in their order. -/
def State.weirState (s : State) : List Byte :=
  let steps := (List.range 64).map s.hubStep
  let l0 := slewOf s.weir.samples0
  let l1 := slewOf s.weir.samples1
  let cond := b2n s.weir.overPower + pack 1 1 (b2n s.weir.railAlert) + pack 2 1 (b2n ((List.range 64).any s.hotHub)) +
    pack 3 1 (b2n s.emgCondition) + pack 4 1 (b2n (decide (20000 < l0) || decide (20000 < l1)))
  leBytes 1 s.weirMode ++ leBytes 1 cond ++ leBytes 1 (steps.foldl min 9) ++ leBytes 1 (steps.foldl max 0) ++
    leBytes 2 (Weir.lastAmps s.weir.samples0) ++ leBytes 2 (Weir.lastAmps s.weir.samples1) ++
    leBytes 4 (s.levels (fun p => decide (p < 2048))) ++ leBytes 4 (s.levels (fun p => decide (2048 ≤ p)))

/-- 2812/03 (R382). -/
def State.hubWeir (s : State) (h : Nat) : List Byte :=
  leBytes 1 (s.hubStep h) ++ leBytes 1 (s.hub h).temp ++ leBytes 2 (s.levels (fun p => p / 64 = h)) ++
    leBytes 2 (s.demands (fun p => p / 64 = h)) ++ leBytes 1 (b2n (s.hub h).autonomous + pack 1 1 (b2n (s.hotHub h))) ++ leBytes 1 0

/-- 4000 + p/08 (R382). -/
def State.panWeir (s : State) (p : Nat) : Nat :=
  let x := s.pan p
  let d := s.demandOf x
  pack 14 1 (b2n (decide (d < x.level))) + pack 10 4 x.step + pack 5 5 d + pack 0 5 x.level

/-- A write of 2880/02 or of a step floor: hub steps that change are counted (R364, 2811/02). -/
def State.setTestThrottle (s : State) (v : Nat) : State :=
  let t := s.setObj (okey 0x2880 2) v
  t.bump 64 (okey 0x2811 2) ((List.range 64).filter (fun h => t.hubStep h ≠ s.hubStep h)).length

end Sys2Proof.Machine
end

