-- ==== Sys2Proof/Machine/Causeway.lean ====
section
/-! DEFINITION. The Causeway's flits, replay and training (R365 to R369). A flit arrives at the receiving end of one
direction of a module; the sending end of that direction keeps what is not acknowledged yet. -/

namespace Sys2Proof.Machine

def State.mod (s : State) (m : Nat) : Mod := FMap.get {} s.link.mods m
def State.setMod (s : State) (m : Nat) (x : Mod) : State := { s with link := { s.link with mods := FMap.put {} s.link.mods m x } }
def Mod.dir (x : Mod) (toEast : Bool) : Dir := if toEast then x.toEast else x.toWest
def Mod.setDir (x : Mod) (toEast : Bool) (d : Dir) : Mod := if toEast then { x with toEast := d } else { x with toWest := d }

/-- Number of ones of a word. -/
def ones (x : Nat) : Nat := ((List.range 32).filter (fun k => bit x k)).length

/-- The flit's header word: words 0 and 1 (R367). -/
def flHeader (w : List (BitVec 32)) : Nat := (w.getD 0 0).toNat + 2 ^ 32 * (w.getD 1 0).toNat
def flSeq (h : Nat) : Nat := bits h 52 12
def flAck (h : Nat) : Nat := bits h 40 12
def flType (h : Nat) : Nat := bits h 36 4
def flAckv (h : Nat) : Bool := bit h 35
def flClass (h : Nat) : Nat := bits h 32 3
def flPlen (h : Nat) : Nat := bits h 14 6

/-- Every word has even parity with its parity bit (R367): word 62 holds the bits of words 0 to 31, word 63 those of words
32 to 61, of word 62 and its own. -/
def flParityOk (w : List (BitVec 32)) : Bool :=
  let wd (k : Nat) : Nat := (w.getD k 0).toNat
  let p (k : Nat) : Nat := if k < 32 then b2n (bit (wd 62) k) else b2n (bit (wd 63) (k - 32))
  (List.range 63).all (fun k => (ones (wd k) + p k) % 2 = 0) && ones (wd 63) % 2 = 0

/-- A reserved code (R368): TYPE above 3, CLASS above 4, PLEN above 60. -/
def flReserved (h : Nat) : Bool := decide (3 < flType h) || decide (4 < flClass h) || decide (60 < flPlen h)

/-- Distance of a sequence number behind another, modulo 4,096. -/
def seqBehind (a b : Nat) : Nat := (b + 4096 - a % 4096) % 4096

/-- Flits up to ACK are acknowledged; with any gone, the count of replays starts anew. -/
def Dir.acked (d : Dir) (ack : Nat) : Dir :=
  let keep := d.unacked.filter (fun e => !(decide (seqBehind e.1 ack < 2048)))
  if keep.length = d.unacked.length then d else { d with unacked := keep, replays := 0 }

/-- The sending end replays what is not acknowledged (R368), or raises 0x0930 after the third replay (R369). -/
def State.replay (s : State) (m : Nat) (toEast : Bool) : State :=
  let x := s.mod m
  let d := x.dir toEast
  if d.unacked.isEmpty then s
  else if d.replays = 3 then s.wedge 9 0x0930 { kind := 3, num := m }
  else
    let s := s.setMod m (x.setDir toEast { d with replays := d.replays + 1 })
    let s := (s.bump 64 (okey 0x2911 3) d.unacked.length).setObj (okey 0x2911 5) (max (s.obj (okey 0x2911 5)) (d.replays + 1))
    s.emit (.flits m toEast (d.unacked.map Prod.fst))

/-- The link carries flits: trained, and not left ACTIVE since. -/
def State.linkUp (s : State) (m : Nat) : Bool := (s.mod m).state = 5

/-- FLIT_RECEIVED (R367, R368). The flit that the sending end sends next is known here by its SEQ, or, with bad parity, by
nothing else being outstanding; it enters the replay buffer of 128 flits. -/
def execFlitReceived (m : ModNo) (toEast : Bool) (words : List (BitVec 32)) (s : State) : Host.Outcome State Fault Refusal :=
  if !(s.linkUp m.val) then .next s
  else
    let h := flHeader words
    let x := s.mod m.val
    let d := x.dir toEast
    let parity := flParityOk words
    let want := (d.last + 1) % 4096
    let fresh := if parity then flSeq h = d.next else d.next = want
    let s := if fresh && parity && (flType h = 1 || flType h = 2) then s.bump64 (okey 0x2911 1) else s
    let d := if fresh then { d with next := (d.next + 1) % 4096, unacked := (d.unacked ++ [(d.next, words)]).drop (d.unacked.length - 127) } else d
    if !parity || flReserved h || flSeq h ≠ want then
      let s := if parity then s else s.bump64 (okey 0x2911 2)
      .next ((s.setMod m.val (x.setDir toEast d)).emit (.nak m.val toEast d.last))
    else
      let x := x.setDir toEast { d with last := flSeq h }
      let back := x.dir (!toEast)
      let back := if flAckv h || flType h = 3 then back.acked (flAck h) else back
      let s := s.setMod m.val (x.setDir (!toEast) back)
      .next (if flType h = 3 then s.replay m.val (!toEast) else s)

/-- REPLAY_TIMEOUT (R368): no ACK for 2980/02 ns. -/
def execReplayTimeout (m : ModNo) (toEast : Bool) (s : State) : Host.Outcome State Fault Refusal :=
  if s.linkUp m.val && !((s.mod m.val).dir toEast).unacked.isEmpty then
    .next ((s.bump64 (okey 0x2911 4)).replay m.val toEast)
  else .next s

/-- MODULE_LEFT_ACTIVE (R368, R369): after bring-up. The state that the module is then in is open (log entry 63). -/
def execModuleLeftActive (m : ModNo) (s : State) : Host.Outcome State Fault Refusal :=
  if s.linkUp m.val then
    let v := Config.unstated 63 [m.val, s.draws] % 7
    let s := s.setMod m.val { s.mod m.val with state := if v < 5 then v else v + 1 }
    .next (s.draw.wedge 9 0x0931 { kind := 3, num := m.val })
  else .next s

/-- TRAINING_ATTEMPT_TIMEOUT (R366): the attempt fails; another follows, or the bring-up fails. -/
def execTrainingAttemptTimeout (s : State) : Host.Outcome State Fault Refusal :=
  if (s.fn 9).state == .starting && s.awake && s.cfg.snap.state ≠ 2 then
    let n := (s.mod 0).attempts
    if n < s.ctl.trainLimit then .next (s.setMods (fun _ _ => { state := 0, attempts := n + 1 }))
    else .next (s.startFails 9)
  else .next s

/-- 2910/02 (R382). -/
def State.modState (s : State) (m : Nat) : List Byte :=
  let x := s.mod m
  leBytes 1 x.state ++ leBytes 1 x.attempts ++ leBytes 1 x.failedE ++ leBytes 1 x.failedW ++ leBytes 4 0

end Sys2Proof.Machine
end

