-- ==== Sys2Proof/Machine/Faults.lean ====
section
/-! DEFINITION. Island links, the watchdog of the control island, the fault log's entries, region restore and injection
(R361, R384 to R398). -/

namespace Sys2Proof.Machine

/-- Number of an island link, for the record of replays. -/
def linkNo : LinkKind → Nat
  | .panHub p => p.val
  | .hubHub h => 5000 + h.val
  | .hubPort h => 5100 + h.val
  | .portCauseway m => 5200 + m.val
  | .controlHub h => 5300 + h.val
  | .controlPort h => 5400 + h.val
  | .controlNode => 5500

def State.setLink (s : State) (k n : Nat) : State := { s with link := { s.link with links := FMap.put 0 s.link.links k n } }

/-- A message on the bus is lost with its link: transfers of bus clients end (R332, R386). -/
def State.dropBusXfers (s : State) : State :=
  { s with mgt := { s.mgt with xfers := FMap.mapv none s.mgt.xfers (fun c x => if c < 128 then none else x) } }

/-- What the exhaustion of a link does (R386). -/
def State.exhausted (s : State) (k : LinkKind) : State :=
  match k with
  | .panHub p => s.fault 13 0x0D30 { kind := 1, num := p.val }
  | .hubHub h => s.fault 13 0x0D31 { kind := 2, num := h.val }
  | .hubPort h => s.fault 1 0x0132 { kind := 2, num := h.val }
  | .portCauseway m => s.wedge 9 0x0932 { kind := 3, num := m.val }
  | .controlHub h => s.wedge 14 0x0E30 { kind := 2, num := h.val }
  | .controlPort h => s.wedge 14 0x0E30 { kind := 4, num := h.val }
  | .controlNode => s.dropBusXfers.event 0x0A30

/-- ISLAND_LINK_WORD (R386): a word that passes is delivered; one that fails is replayed up to three times. A link whose
third replay failed delivers nothing more. -/
def execIslandLinkWord (k : LinkKind) (parityOk : Bool) (s : State) : Host.Outcome State Fault Refusal :=
  let n := s.linkFails (linkNo k)
  if n = 4 then .next s
  else if parityOk then .next (s.setLink (linkNo k) 0)
  else if n = 3 then .next (((s.setLink (linkNo k) 4).bump32 (okey 0x2E11 2)).exhausted k)
  else
    let s := (s.setLink (linkNo k) (n + 1)).bump64 (okey 0x2E11 1)
    .next (s.setObj (okey 0x2E11 3) (max (s.obj (okey 0x2E11 3)) (n + 1)))

/-- State of hub h can be reached from the dictionary (R10, R393). -/
def State.hubReach (s : State) (h : Nat) : Bool := !(s.linkDead (5300 + h)) && s.halfReach (h / 32)
/-- State of pan p can be reached from the dictionary. -/
def State.panReach (s : State) (p : Nat) : Bool := s.hubReach (p / 64) && !(s.linkDead p)

/-- SEQUENCER_WATCHDOG (R394): the control island halts itself. -/
def execSequencerWatchdog (s : State) : Host.Outcome State Fault Refusal :=
  .next { s with ctl := { s.ctl with halted := true } }

/-- 32 bytes of a log entry (R396). -/
def LogEnt.bytes (e : LogEnt) : List Byte :=
  leBytes 2 e.code ++ leBytes 1 e.kind ++ leBytes 1 e.fstate ++ leBytes 2 e.loc ++ leBytes 2 0 ++ leBytes 8 e.time ++
    leBytes 8 e.addr ++ leBytes 2 e.slot ++ leBytes 1 e.ring ++ leBytes 5 0

/-- Acknowledge every entry of KIND 1 or 2 (R397). -/
def State.ackLog (s : State) : State := { s with flt := { s.flt with log := s.flt.log.map (fun e => { e with acked := true }) } }

/-- Accepted write of 2C92/01: the poison of a region is lifted without clearing (R391). -/
def State.restoreRegion (s : State) (n : Nat) : State :=
  if (s.region n).poisoned then (s.setRegion n { s.region n with poisoned := false }).bump32 (okey 0x2C92 2) else s

/-- The test stop and the test resume of 2D90 (R92). -/
def State.maskHoldsCrust (s : State) (mask : Nat) : Bool := s.pans.any (fun e => bit mask (e.1 / 64) && decide (0 < e.2.crusts))
def State.testStop (s : State) (mask : Nat) : State := s.stopPans (fun p x => bit mask (p / 64) && x.active) causeTest
/-- Test resume: the most recent crust of every Stopped pan of the hubs that a test stop saved. -/
def State.testResume (s : State) (mask : Nat) : State :=
  if s.anyWedged then s
  else { s with pans := FMap.mapv {} s.pans (fun n x =>
    if bit mask (n / 64) && !(s.hub (n / 64)).autonomous && x.state == .stopped && x.job.isSome &&
        (x.newest.any (fun c => ckCause c.hdr = causeTest)) then x.resuming else x) }

end Sys2Proof.Machine
end

