-- ==== Sys2Proof/Machine/Store.lean ====
section
/-! DEFINITION. Values of objects (R305), the ranges of the object tables, storable objects (R345), the locks of R312 and of
single rules, and what an accepted write of a storable object does. -/

namespace Sys2Proof.Machine

/-- Size of a type in bytes (R305). -/
def Ty.size : Ty → Nat
  | .bool | .u8 => 1
  | .u16 => 2
  | .u32 | .real => 4
  | .u64 => 8
  | .str n => n

/-- Key of an object under the index that stands for its range. -/
def canonKey (i j : Nat) : Nat := okey (canonIndex i) j

/-- Ranges that the object tables give, where they are narrower than the type: lowest and highest value. -/
def ranges : FMap (Nat × Nat) :=
  [(0x110001, (1, 127)), (0x110002, (0, 4)), (0x211001, (1, 65535)), (0x211002, (1, 10000)), (0x211301, (0, 63)),
   (0x219003, (8, 128)), (0x219004, (0, 16383)), (0x222007, (0, 3)), (0x222009, (0, 2)), (0x232001, (0, 4095)),
   (0x234002, (16, 65536)), (0x234004, (16, 65536)), (0x235003, (1, 65535)), (0x24100A, (1, 15)), (0x249001, (0, 16383)),
   (0x251001, (1, 256)), (0x259001, (0, 7)), (0x259002, (0, 511)), (0x261002, (0, 4096)), (0x279002, (1, 32)),
   (0x281001, (1, 20)), (0x281002, (300, 1050)), (0x281003, (10, 65535)), (0x281004, (60, 114)), (0x281005, (0, 125)),
   (0x281202, (0, 63)), (0x288001, (1, 20)), (0x288002, (0, 9)), (0x291001, (0, 15)), (0x298001, (1, 3)),
   (0x298002, (100, 10000)), (0x2A1001, (1, 3600)), (0x2A1002, (100, 60000)), (0x2A1003, (1, 255)), (0x2A1004, (1, 65535)),
   (0x2A1005, (10, 60000)), (0x2A0101, (0, 3)), (0x2A8201, (1, 8)), (0x2B2001, (1, 7)), (0x2C2002, (0, 4096)),
   (0x2E2002, (0, 31)), (0x2E4002, (0, 4095)), (0x2E8001, (0, 5)), (0x2E8004, (1, 1000)), (0x300003, (10, 60000)),
   (0x302001, (0, 63)), (0x400009, (0, 9))]

/-- Alignment that a rule asks of an address or size, by canonical key (R129, R273, R279, R350). -/
def alignments : FMap Nat :=
  [(0x221001, 64), (0x234001, 128), (0x234003, 32), (0x234005, 64), (0x241001, 65536), (0x241002, 65536), (0x241003, 65536),
   (0x241004, 65536), (0x241005, 65536), (0x241006, 65536), (0x2B8002, 64)]

/-- Powers of two from 16 to 65,536. -/
def ringSizes : List Nat := (List.range 13).map (fun k => 16 * 2 ^ k)

/-- The value checks of R305 and R322: an abort code, or none where the value may be written. -/
def State.valueBad (s : State) (r : ObjRow) (i j v : Nat) : Option Nat :=
  let k := canonKey i j
  let range := FMap.get (0, v) ranges k
  if r.ty = .bool && decide (1 < v) then some abValue
  else if r.ty = .real && fld v 0 23 8 = 255 then some abValue
  else if v % FMap.get 1 alignments k ≠ 0 then some abValue
  else if k = 0x210003 && (isPermanent (i / 256 % 16) || v = 1) then some abValue
  else if k = 0x210003 && decide (3 < v) then some abHigh
  else if k = 0x251002 && decide (s.obj (okey 0x2510 1) ≤ v) then some abHigh
  else if k = 0x281005 && decide (v ≤ s.obj (okey 0x2810 4)) then some abLow
  else if v < range.1 then some abLow
  else if range.2 < v then some abHigh
  else if (k = 0x234002 || k = 0x234004) && !(ringSizes.contains v) then some abValue
  else none

/-- Command objects and write-1-to-clear objects (R345), by canonical key. -/
def commandKeys : List Nat :=
  [0x210001, 0x234006, 0x23400B, 0x222001, 0x212004, 0x2D9002, 0x2D9003, 0x259006, 0x2B8001, 0x2E2005, 0x235001, 0x221002, 0x221003,
   0x221004]

/-- An object that a bank may set (R345). -/
def storable (r : ObjRow) (i j : Nat) : Bool :=
  r.acc = .rw && !r.sel && !(commandKeys.contains (canonKey i j)) && i ≠ 0x1F00 && i ≠ 0x2A01 && i ≠ 0x2A81 && i ≠ 0x2A82 &&
    !(decide (0x3000 ≤ i ∧ i ≤ 0x3FFF))

/-- Function in whose Running, Starting, Stopping and Wedged states an object is locked, where its table says so (R312). -/
def lockOwner (i j : Nat) : List Nat :=
  if (i = 0x2C20 ∧ 1 ≤ j ∧ j ≤ 3) ∨ (i = 0x2320 ∧ j = 3) then [3, 12]
  else if i = 0x2410 ∧ 1 ≤ j ∧ j ≤ 8 then [4]
  else if i = 0x2510 ∧ 1 ≤ j ∧ j ≤ 3 then [5]
  else if i = 0x2610 ∧ (j = 1 ∨ j = 2) then [6]
  else if i = 0x2710 ∧ 1 ≤ j ∧ j ≤ 3 then [7]
  else []

/-- The object is locked in the present state (R312, R20, R277, R282). -/
def State.locked (s : State) (i j v : Nat) : Bool :=
  let busy (n : Nat) : Bool := let st := (s.fn n).state; st == .running || st == .starting || st == .stopping
  (lockOwner i j).any (fun n => busy n || s.isWedged n) ||
  (decide (i = 0x2B20) && v ≠ s.obj (okey 0x2B20 1) && (busy 4 || busy 5)) ||
  (decide (i = 0x2210 ∧ j = 1) && s.chans.any (fun e => e.2.state != .idle)) ||
  (decide (0x2340 ≤ i ∧ i ≤ 0x234F ∧ 1 ≤ j ∧ j ≤ 5) && (s.ring (i - 0x2340)).state != .disabled)

/-- A change of the split discards every cached Stockpile copy and KV page (R20, R127). -/
def State.setSplit (s : State) (v : Nat) : State :=
  if v = s.obj (okey 0x2B20 1) then s
  else s.dropCaches.setObj (okey 0x2B20 1) v

/-- An accepted write of a storable object. -/
def State.applyObj (s : State) (i j v : Nat) : State :=
  let k := okey i j
  if k = 0x2B2001 then s.setSplit v
  else if k = 0x288002 then s.setTestThrottle v
  else if k = 0x288003 then (s.setObj k v).weirReact
  else s.setObj k v

/-- The checks of a plain write after those of access: length, value, lock (R323). -/
def State.storeBad (s : State) (r : ObjRow) (i j : Nat) (data : List Byte) : Option Nat :=
  if data.length ≠ r.ty.size then some 0x06070010
  else match s.valueBad r i j (leNat data) with
    | some c => some c
    | none => if s.locked i j (leNat data) then some abLocked else none

end Sys2Proof.Machine
end

