-- ==== Sys2Proof/Machine/Bank.lean ====
section
/-! DEFINITION. Configuration banks (R342 to R352), capture, commit and erase, and the quiesce snapshot (R353 to R356). -/

namespace Sys2Proof.Machine

/-- A record of a bank (R344). -/
structure BankRec where
  index : Nat
  sub : Nat
  data : List Byte
deriving DecidableEq, Repr

def bankMagic : Nat := 0x4746434B
def productCode : Nat := 0xB301

/-- Records one after another; none where they do not parse (R344, R346). -/
def parseRecs : Nat → List Byte → Option (List BankRec)
  | _, [] => some []
  | 0, _ => none
  | fuel + 1, a :: b :: c :: v :: t =>
    let n := v.toNat
    let room := 4 * cdiv n 4
    if n = 0 ∨ 64 < n ∨ t.length < room then none
    else match parseRecs fuel (t.drop room) with
      | some rs => some (⟨leNat [a, b], c.toNat, t.take n⟩ :: rs)
      | none => none
  | _, _ => none

/-- Bytes of a record (R344). -/
def BankRec.bytes (r : BankRec) : List Byte :=
  let n := r.data.length
  leBytes 2 r.index ++ leBytes 1 r.sub ++ leBytes 1 n ++ r.data ++ List.replicate (4 * cdiv n 4 - n) 0

/-- Check a bank or an image: the status codes of 2B10/04, and the records (R346). -/
def imageCheck (hdr : List Byte) (body : Nat → List Byte) : Nat × List BankRec :=
  let h := leNat hdr
  let len := fld h 12 0 32
  if fld h 0 0 32 = 0xFFFFFFFF then (1, [])
  else if fld h 0 0 32 ≠ bankMagic ∨ fld h 4 0 16 ≠ 1 ∨ fld h 20 0 32 ≠ productCode then (2, [])
  else if 65472 < len ∨ len % 4 ≠ 0 then (4, [])
  else
    let b := body len
    if crc32c (hdr.take 60 ++ b) ≠ fld h 60 0 32 then (3, [])
    else match parseRecs (len / 4 + 1) b with
      | some rs => if rs.length = fld h 16 0 32 then (0, rs) else (4, [])
      | none => (4, [])

/-- Header and records of an image (R342). -/
def makeImage (seq count : Nat) (body : List Byte) : List Byte :=
  let h := leBytes 4 bankMagic ++ leBytes 2 1 ++ leBytes 2 0 ++ leBytes 4 seq ++ leBytes 4 body.length ++ leBytes 4 count ++
    leBytes 4 productCode ++ List.replicate 36 0
  h ++ leBytes 4 (crc32c (h ++ body)) ++ body

-- flash
/-- n bytes of bank k (0 A, 1 B) from an offset; erased flash reads 0xFF (R342). -/
def State.flashBytes (s : State) (k off n : Nat) : List Byte := (List.range n).map (fun i => FMap.get 0xFF s.cfg.flash (65536 * k + off + i))

/-- Bank k holds these bytes from now on. -/
def State.setBank (s : State) (k : Nat) (f : Nat → Byte) (n : Nat) : State :=
  let b := 65536 * k
  let mid := ((List.range n).map (fun i => (b + i, f i))).filter (fun e => e.2 ≠ 0xFF)
  { s with cfg := { s.cfg with flash := s.cfg.flash.filter (fun e => e.1 < b) ++ mid ++ s.cfg.flash.filter (fun e => decide (b + 65536 ≤ e.1)) } }

/-- Status and records of bank k (R346). -/
def State.bankCheck (s : State) (k : Nat) (parity : Bool) : Nat × List BankRec :=
  if parity then (5, []) else imageCheck (s.flashBytes k 0 64) (fun n => s.flashBytes k 64 n)

/-- SEQ of bank k as its header has it; 0 when erased (2B10/06, /07). -/
def State.bankSeq (s : State) (k : Nat) : Nat :=
  let h := leNat (s.flashBytes k 0 64)
  if fld h 0 0 32 = 0xFFFFFFFF then 0 else fld h 8 0 32

/-- Bank A is the newer of two valid ones (R348). -/
def newerA (a b : Nat) : Bool := let d := diff32 a b; d = 0 || decide (d ≤ 2 ^ 31)

/-- The bank that a commit or an erase works on: the one not loaded, A when Unconfigured (R350, R352). -/
def State.targetBank (s : State) : Nat := if s.obj (okey 0x2B10 1) = 0 then 1 else 0

/-- SEQ that a commit stores (R352). -/
def State.nextSeq (s : State) : Nat := if s.obj (okey 0x2B10 3) = 1 then 1 else (s.obj (okey 0x2B10 2) + 1) % 2 ^ 32

def State.setCommit (s : State) (c : Commit) : State := { s with cfg := { s.cfg with commit := c } }

/-- The image with the sequence number it is stored under. -/
def storedImage (seq : Nat) (image : List Byte) : List Byte :=
  let h := leBytes 4 bankMagic ++ leBytes 2 1 ++ (image.drop 6).take 2 ++ leBytes 4 seq ++ (image.drop 12).take 48
  let body := image.drop 64
  h ++ leBytes 4 (crc32c (h ++ body)) ++ body

/-- A bank whose erase or program was cut short at a step of R352 (R349; log entry 66): while the header is not programmed
it reads erased, and what was being erased or programmed holds open bytes. -/
def State.tearBank (s : State) (k step : Nat) (image : List Byte) : State :=
  let s' := s.draw
  if step ≤ 2 then s'.setBank k (fun i => if i < 64 then 0xFF else Config.tornByte s.draws i) 65536
  else if step = 3 then s'.setBank k (fun i => if i < 64 then Config.tornByte s.draws i else image.getD i 0xFF) 65536
  else s'.setBank k (fun i => Config.tornByte s.draws i) 65536

/-- A command of 2B80/01 is in progress. -/
def State.committing (s : State) : Bool := s.cfg.commit.status = 1

/-- COMMIT_STORED (R352): storing ends, or fails at a step. -/
def State.stored (s : State) (failedStep : Option Nat) : State :=
  let t := s.targetBank
  let seq := s.nextSeq
  let im := storedImage seq s.cfg.commit.image
  match failedStep with
  | none =>
    let s := s.setBank t (fun i => im.getD i 0xFF) im.length
    let s := [(1, t), (2, seq), (3, 0), (4 + t, 0), (6 + t, seq)].foldl (fun s e => s.setObj (okey 0x2B10 e.1) e.2) s
    (s.bump32 (okey 0x2B11 3)).setCommit { status := 2, cmd := 2, step := 4 }
  | some k =>
    let s := (s.tearBank t k im).bump32 (okey 0x2B11 4)
    (s.event 0x0B20).setCommit { status := 3, cmd := 2, step := k, abort := 0x0B20 }

/-- An erase or program in progress is cut short, by the loss of the supply or by a full reset, at a step that is open (R349,
R352; log entry 66). -/
def State.cutShort (s : State) : State :=
  let t := s.targetBank
  let im := storedImage s.nextSeq s.cfg.commit.image
  let k := Config.unstated 66 [s.draws] % 4 + 1
  if !s.committing then s
  else if s.cfg.commit.cmd = 3 then s.tearBank t 1 []
  else if k = 4 then s.setBank t (fun i => im.getD i 0xFF) im.length
  else s.tearBank t k im

/-- COMMIT_STORED (R352). -/
def execCommitStored (failedStep : Option Nat) (s : State) : Host.Outcome State Fault Refusal :=
  if s.committing && s.cfg.commit.cmd = 2 && s.awake then .next (s.stored failedStep) else .next s

/-- BANK_ERASED (R350): the erase ends. -/
def execBankErased (ok : Bool) (s : State) : Host.Outcome State Fault Refusal :=
  if s.committing && s.cfg.commit.cmd = 3 && s.awake && s.cfg.snap.state ≠ 2 then
    if ok then .next ((s.setBank s.targetBank (fun _ => 0xFF) 0).setCommit { status := 2, cmd := 3 })
    else .next ((s.tearBank s.targetBank 1 []).setCommit { status := 3, cmd := 3, step := 1 })
  else .next s

/-- 2B80/03 (R358). -/
def Commit.bytes (c : Commit) : List Byte :=
  leBytes 1 c.status ++ leBytes 1 c.cmd ++ leBytes 1 c.step ++ leBytes 1 0 ++ leBytes 4 c.record ++ leBytes 4 c.abort ++ leBytes 4 0

-- capture and commit
/-- Records of the storable objects that differ from their defaults, in ascending index and subindex (R350). -/
def State.settings (s : State) : List BankRec :=
  s.objs.filterMap (fun e =>
    let i := e.1 / 256
    let j := e.1 % 256
    match objRow i j, e.2 with
    | some r, some v => if storable r i j then some ⟨i, j, leBytes r.ty.size v⟩ else none
    | _, _ => none)

/-- Capture (R350): the image is written at once, the control plane's writes being immediate (log entry 5). -/
def State.capture (s : State) : State :=
  let rs := s.settings
  let im := makeImage 0 rs.length (rs.flatMap BankRec.bytes)
  (s.store (s.obj (okey 0x2B80 2)) im).setCommit { status := 2, cmd := 1 }

/-- Privilege that a write of an object needs (R307): Operator, Expert or Custodian. -/
def Lvl.writer : Lvl → Nat
  | .basic => 1
  | .expert => 2
  | .custodian => 3
  | .outside => 0

/-- Why a record of an image is refused (R351, R323). -/
def State.recordBad (s : State) (priv : Nat) (r : BankRec) : Option Nat :=
  match objRow r.index r.sub with
  | none => some (if indexExists r.index then 0x06090011 else 0x06020000)
  | some row =>
    if priv < row.lvl.writer then some 0x0F000001
    else if row.acc = .ro ∨ row.acc = .const then some 0x06010002
    else if !(storable row r.index r.sub) then some 0x06040043
    else s.storeBad row r.index r.sub r.data

/-- The first record refused, with its number, from record n on: each is judged with the values of those before it, in the order in
which they would be applied (log entry 37). -/
def State.firstBad (s : State) (priv n : Nat) : List BankRec → Option (Nat × Nat)
  | [] => none
  | r :: t =>
    match s.recordBad priv r with
    | some c => some (n, c)
    | none => (s.setObj (okey r.index r.sub) (leNat r.data)).firstBad priv (n + 1) t

/-- Commit (R351): the image is checked whole; all records are applied, or none. -/
def State.commit (s : State) (priv : Nat) : State × Answer :=
  let a := s.obj (okey 0x2B80 2)
  let (st, rs) := imageCheck (s.rdBytes a 64) (fun n => s.rdBytes (a + 64) n)
  if st ≠ 0 then (s.setCommit { status := 3, cmd := 2, abort := 0x08000000 }, .abort 0x08000000)
  else match s.firstBad priv 0 rs with
    | some (n, c) => (s.setCommit { status := 3, cmd := 2, record := n, abort := c }, .abort c)
    | none =>
      let im := s.rdBytes a (64 + (rs.flatMap BankRec.bytes).length)
      let s := rs.foldl (fun s r => s.applyObj r.index r.sub (leNat r.data)) s
      (s.setCommit { status := 1, cmd := 2, image := im }, .confirm)

/-- A code of 2B80/01 in a state that accepts it (R350). -/
def State.commitControl (s : State) (priv code : Nat) : State × Answer :=
  if code = 0 ∨ 3 < code then (s, .abort abValue)
  else if s.committing || !s.live then (s, .abort abState)
  else if code = 1 then (s.capture, .confirm)
  else if code = 2 then s.commit priv
  else (s.setCommit { status := 1, cmd := 3 }, .confirm)

-- loading at a full reset
/-- One record at load: applied, or skipped (R349). -/
def State.loadRecord (s : State) (r : BankRec) : State × Bool :=
  match objRow r.index r.sub with
  | none => (s, false)
  | some row =>
    if storable row r.index r.sub && r.data.length = row.ty.size && (s.valueBad row r.index r.sub (leNat r.data)).isNone then
      (s.applyObj r.index r.sub (leNat r.data), true)
    else (s, false)

/-- Records of the chosen bank, counted (2B11/01, /02); event 0x0B11 once. -/
def State.loadRecords (s : State) (rs : List BankRec) : State :=
  let x := rs.foldl (fun (a : State × Nat) r => let y := a.1.loadRecord r; (y.1, if y.2 then a.2 else a.2 + 1)) (s, 0)
  let s := (x.1.setObj (okey 0x2B11 1) (rs.length - x.2)).setObj (okey 0x2B11 2) x.2
  s.eventIf (x.2 ≠ 0) 0x0B11

/-- Phase 4 of a full reset (R347 to R349). -/
def State.loadConfig (s : State) (parityA parityB : Bool) : State :=
  let a := s.bankCheck 0 parityA
  let b := s.bankCheck 1 parityB
  let s := [(4, a.1), (5, b.1), (6, s.bankSeq 0), (7, s.bankSeq 1)].foldl (fun s e => s.setObj (okey 0x2B10 e.1) e.2) s
  if a.1 ≠ 0 && b.1 ≠ 0 then (s.setObj (okey 0x2B10 3) 1).event 0x0B10
  else
    let useA := a.1 = 0 && (b.1 ≠ 0 || newerA (s.bankSeq 0) (s.bankSeq 1))
    let s := s.eventIf (a.1 ≠ 0 || b.1 ≠ 0) 0x0B12
    let s := (s.setObj (okey 0x2B10 1) (if useA then 0 else 1)).setObj (okey 0x2B10 2) (if useA then s.bankSeq 0 else s.bankSeq 1)
    s.loadRecords (if useA then a.2 else b.2)

-- the quiesce snapshot
/-- A code of 3000/01 (R353). -/
def State.snapControl (s : State) (code : Nat) : Except Nat State :=
  if code = 1 then
    if s.cfg.snap.state = 0 && !(s.committing && s.cfg.commit.cmd ≠ 3) then
      .ok (s.setSnap { state := 1, since := s.timeUs, left := s.timeUs })
    else .error abState
  else if code = 2 then
    if s.cfg.snap.state = 2 then .ok (s.setSnap { s.cfg.snap with state := 3 }).snapSettle else .error abState
  else .error abValue

/-- A request of a port does not keep a quiesce waiting (R353): Rakes issue none, and a Held write stream stays Held; bursts
of channels and other writes go on to their end. -/
def State.reqRests (s : State) (q : Req) : Bool :=
  match q.who with
  | .stream _ _ => true
  | .dma | .walker => false
  | w => (s.nextWrite q.hub w).any Req.told

/-- Every write of the GPE has arrived in memory, but those of Held streams (R353). -/
def State.writesArrived (s : State) : Bool :=
  s.strm.tags.isEmpty && s.strm.reqs.all s.reqRests &&
    s.strm.bufs.all (fun b => b.role ≠ 3 || b.read || (s.nextWrite (b.launder / 4) .output).any Req.told)

/-- Steps 1 to 4 and 7 of R353 are complete: work orders on the remote port have ended, every pan is at rest or still, nothing is in
flight, no entry is being copied, every promotion accepted is applied, every level is 0. -/
def State.allAtRest (s : State) : Bool :=
  s.seq.orders.all (fun o => !(o.phase == .admitted && o.kind.isAtt)) &&
    s.pans.all (fun e => e.2.level = 0 && (e.2.state == .idle || e.2.state == .held || e.2.state == .stopped || (e.2.state != .stopping && e.2.cur.atBoundary && e.2.quiet))) &&
    s.writesArrived && s.win.promos.isEmpty && s.stock.arriving.isNone && s.stock.ents.all (fun e => enState e.2 ≠ 3) &&
    s.chans.all (fun e => e.2.state != .aborting)

/-- The state Quiesced is entered (R353). -/
def State.enterQuiesced (s : State) : State :=
  ((s.bump32 (okey 0x3000 4)).setObj (okey 0x3000 5) (min (s.timeUs - s.cfg.snap.since) (2 ^ 32 - 1))).setSnap
    { s.cfg.snap with state := 2, since := s.timeUs }

/-- Step 5 of R353: every slice writes back its resident groups (R105), once; a parity error met there is a fault, and the step
is taken again. -/
def State.quiesceFlush (s : State) : State :=
  if s.cfg.snap.flushed then s
  else
    let p (k : Nat) : Bool := !(s.region (k / 2 ^ 20)).poisoned
    if (s.badGroups p).isEmpty then (s.writeBackGood p true).setSnap { s.cfg.snap with flushed := true } else s.meetErrors p

/-- QUIESCED (R353): the slices write back once everything is at rest, and the state is entered when every write has arrived. -/
def execQuiesced (s : State) : Host.Outcome State Fault Refusal :=
  if s.cfg.snap.state = 1 && s.allAtRest && s.awake then
    let t := s.quiesceFlush
    .next (if t.cfg.snap.flushed && t.writesArrived then t.enterQuiesced else t)
  else .next s

/-- SNAPSHOT_EXPIRED (R356). -/
def execSnapshotExpired (s : State) : Host.Outcome State Fault Refusal :=
  if s.cfg.snap.state = 2 && s.awake then
    .next ((s.setSnap { s.cfg.snap with state := 3, expired := true }).event 0x0B30).snapSettle
  else .next s

end Sys2Proof.Machine
end

