-- ==== Sys2Proof/Machine/Rake.lean ====
section
/-! DEFINITION. Commands of the streams: the Rake's fetches, hub ports and port blocks, tags, translation, handles and gates, the
Stillwater watch (R228 to R251), and the resume of a Held stream (R246). -/

namespace Sys2Proof.Machine

/-- RAKE_FETCH (R230): the first stream of the launder whose run-ahead conditions hold starts its next buffer; one that has
fetched all ends with its end-of-stream handle. -/
def execRakeFetch (l : LaunderNo) (s : State) : Host.Outcome State Fault Refusal :=
  if !(s.awake && s.live) then .next s
  else match s.strm.streams.find? (fun x => x.launder = l.val && s.canFetch x) with
    | some x => .next ((s.startBuf x).filled (s.strm.bufCount + 1))
    | none => .next ((s.strm.streams.filter (fun x => x.launder = l.val)).foldl (fun s x => s.pushReady x (s.strm.bufs.length + 1)) s)

-- arbitration at a hub port, R241
/-- Place of a requester at its port, in the order of R241: Rake streams by launder and operand, then the channel, then the walker;
launder 3's output, the window slice, then the channel. -/
def portPlace : Requester → Nat
  | .stream l k => 3 * (l.val % 4) + k.val
  | .dma => 12
  | .walker => 13
  | .output => 0
  | .window => 1

/-- Priority of a request: PRIO of its stream; the channel's level; 2 for output and the window slice (R241, R269). -/
def State.prio (s : State) (q : Req) : Nat :=
  if q.who == .dma then s.obj (chKey (q.hub / 2) 7)
  else if q.write then 2
  else match s.strm.streams.find? (fun x => x.is q.launder q.ring q.slot q.role) with
    | some x => sdPrio x.desc
    | none => 0

/-- A request is urgent: by its age, or as one of a channel whose urgent flag is set (R241, R269). -/
def State.isUrgent (s : State) (q : Req) : Bool := q.urgent || (q.who == .dma && s.obj (okey (0x2280 + q.hub / 2) 1) = 1)

/-- A request may be granted as far as translation, pending writes and the order within its own sequence allow (R243, R247, R249,
R259, R353). -/
def State.readyHere (s : State) (q : Req) : Bool :=
  let clear := !(s.strm.tags.any (fun t => t.req.write && overlaps t.req.addr t.req.len q.addr q.len))
  !q.xheld && q.stuck = 0 &&
    (match q.who with
     | .stream _ _ => s.live && clear
     | .dma => (s.dmaReqs (q.hub / 2) q.write).head? = some q && (q.write || clear)
     | .walker => clear
     | .output => s.nextWrite q.hub .output = some q
     | .window => s.nextWrite q.hub .window = some q && clear)

/-- A request may be granted: a channel's only as its engine chooses (R268). -/
def State.ready (s : State) (q : Req) : Bool :=
  s.readyHere q && (!(q.who == .dma) || s.chanWins (q.hub / 2) q.write s.readyHere)

/-- Rank of a request at its port, urgent before priority before round robin; a smaller rank is served first (R241, R252). -/
def State.rank (s : State) (q : Req) : Nat :=
  let x := s.hub q.hub
  let after (next : Nat) : Nat := (portPlace q.who + 16 - next) % 16
  if s.isUrgent q then after (if q.write then x.urgWrite else x.urgRead)
  else 16 * (4 - s.prio q) + after (if q.write then x.rrWrite else x.rrRead)

/-- The request that a port grants (R241). -/
def State.pick (s : State) (h : Nat) (write : Bool) : Option Req :=
  (s.strm.reqs.filter (fun q => q.hub = h && q.write = write && s.ready q)).foldl
    (fun a q => match a with
      | none => some q
      | some b => if s.rank q < s.rank b then some q else a) none

/-- Lowest free tag of a port: the first 2190/03 tags serve writes, the others reads (R240; log entry 42). -/
def State.freeTag (s : State) (h : Nat) (write : Bool) : Option Nat :=
  ((List.range 256).filter (fun t => decide (t < s.strm.writeTags) = write)).find? (fun t =>
    !(s.strm.tags.any (fun x => x.no = t && x.req.hub = h)))

/-- A port has a request to grant, and a tag for it. -/
def State.grantable (s : State) (h : Nat) (write : Bool) : Bool := (s.pick h write).isSome && (s.freeTag h write).isSome

/-- The port block of a half serves its hubs in round robin by hub number (R242): no hub before h in its turn has a request. -/
def State.hubTurn (s : State) (h : Nat) (write : Bool) : Bool :=
  let next := FMap.get 0 s.strm.served (2 * (h / 32) + b2n write)
  let turn (k : Nat) : Nat := (k % 32 + 32 - next) % 32
  ((List.range 32).map (fun k => 32 * (h / 32) + k)).all (fun k => decide (turn h ≤ turn k) || !(s.grantable k write))

/-- Remove the first element equal to x. -/
def eraseOne {α : Type} [DecidableEq α] (x : α) : List α → List α
  | [] => []
  | y :: t => if y = x then t else y :: eraseOne x t

/-- Number of a tag over all hubs. -/
def tagKey (h no : Nat) : Nat := 256 * h + no

/-- A grant moves the round robins on (R241, R242, R252). -/
def State.turnOn (s : State) (h : Nat) (q : Req) : State :=
  let x := s.hub h
  let next := (portPlace q.who + 1) % 16
  let x := if q.write then { x with rrWrite := next } else { x with rrRead := next }
  let x := if !(s.isUrgent q) then x else if q.write then { x with urgWrite := next } else { x with urgRead := next }
  let s := s.setHub h { x with movedAt := s.timeUs }
  s.setStrm { s.strm with served := FMap.put 0 s.strm.served (2 * (h / 32) + b2n q.write) ((h % 32 + 1) % 32) }

/-- Grant a request under a tag (R240, R241, R249): the requester returns to its priority. -/
def State.grant (s : State) (h : Nat) (q : Req) (tag : Nat) : State :=
  let reqs := (eraseOne q s.strm.reqs).map (fun r => if r.hub = h && r.write = q.write && r.who = q.who then { r with urgent := false } else r)
  let s := s.bump64 (okey 0x2111 1)
  let s := if s.isUrgent q then s.bump64 (okey 0x2111 2) else s
  let s := s.turnOn h q
  let s := s.setStrm { s.strm with reqs := reqs, tags := s.strm.tags ++ [{ no := tag, req := { q with urgent := s.isUrgent q } }] }
  let s := if q.write then s.markStale (tagKey h tag) q.addr q.len
    else if q.who == .dma then s else s.updBuf q.buf (fun b => { b with granted := true })
  let s := if q.who == .dma then s.engineServed (h / 2) q else s
  let s := if q.write && q.who == .dma then s.dmaIssued q else s
  s.judgeWrites h

/-- PORT_GRANT (R241, R242). -/
def execPortGrant (h : HubNo) (write : Bool) (s : State) : Host.Outcome State Fault Refusal :=
  match s.pick h.val write, s.freeTag h.val write with
  | some q, some t => if s.hubTurn h.val write then .next (s.grant h.val q t) else .next s
  | _, _ => .next s

/-- URGENT (R241): the age of a requester that waits ready at a port reaches the threshold. -/
def execUrgent (h : HubNo) (q : Requester) (s : State) : Host.Outcome State Fault Refusal :=
  .next (s.setStrm { s.strm with
    reqs := s.strm.reqs.map (fun r => if r.hub = h.val && r.who = q && s.readyHere r then { r with urgent := true } else r) })

-- answers of the fabric
/-- The tag a fabric response names. -/
def State.tag? (s : State) (h no : Nat) (write : Bool) : Option Tag :=
  s.strm.tags.find? (fun t => t.no = no && t.req.hub = h && t.req.write = write)

/-- A tag is free again; an invalidation that waited for it alone is acknowledged (R240, R243). -/
def State.freeTags (s : State) (h : Nat) (t : Tag) : State :=
  let k := tagKey h t.no
  let inv := s.strm.invals.map (fun i => { i with tags := i.tags.filter (fun n => n ≠ k) })
  let s := s.setStrm { s.strm with tags := eraseOne t s.strm.tags, invals := inv.filter (fun i => !i.tags.isEmpty) }
  (inv.filter (fun i => i.tags.isEmpty)).foldl (fun s i => s.emit (.invalidated i.half i.page)) s

/-- A read whose data met a parity error in the hub buffer is fetched again in place; a second one in the refetch is
fault 0x0141 (R385, R389). -/
def State.badRead (s : State) (h : Nat) (q : Req) (poisoned : Bool) : State :=
  let s := (if poisoned then s.bump64 (okey 0x2E10 9) else s.disarm).bump64 (okey 0x2E10 6)
  if q.again then (s.bump32 (okey 0x2E10 5)).fault 1 0x0141 { kind := 2, num := h, addr := q.addr, slot := q.slot, ring := q.ring }
  else
    let q := { q with again := true }
    (s.missFor q).setStrm { (s.missFor q).strm with reqs := s.judged q :: s.strm.reqs }

/-- FABRIC_READ_RESPONSE (R240, R228, R259, R385, R389). -/
def execFabricReadResponse (h : HubNo) (tag : Nat) (poisoned : Bool) (s : State) : Host.Outcome State Fault Refusal :=
  match s.tag? h.val tag false with
  | none => .next s
  | some t =>
    let q := t.req
    let s := s.freeTags h.val t
    if q.who == .dma then
      -- the launder of a staging buffer lies in the hub stream buffers
      let hub := ddStage (s.chan (h.val / 2)).desc
      let inj := hub && s.injected 2 h.val
      let s := if poisoned then s.bump64 (okey 0x2E10 9) else if inj then s.disarm else s
      let s := if hub && (poisoned || inj) then s.bump64 (okey 0x2E10 6) else s
      .next (s.dmaData q (poisoned || inj))
    else if (s.buf? q.buf).isNone then .next s
    else if poisoned || s.injected 2 h.val then .next (s.badRead h.val q poisoned)
    else
      let data := (readBytes s.mem q.addr q.len).zipIdx.map (fun e => (q.addr + e.2, e.1))
      let s := s.updBuf q.buf (fun b => { b with data := b.data ++ data })
      let s := if q.again then (s.bump64 (okey 0x2E10 2)).logRepair 0x0E12 { kind := 2, num := h.val, addr := q.addr, slot := q.slot, ring := q.ring } else s
      .next (s.filled q.buf)

/-- An earlier write of the same channel to the same 256-byte block has not arrived: writes arrive there in their order (R263). -/
def State.behind (s : State) (t : Tag) : Bool :=
  t.req.who == .dma && (s.strm.tags.takeWhile (fun u => u ≠ t)).any (fun u =>
    u.req.write && u.req.who == .dma && u.req.hub = t.req.hub && u.req.addr / 256 = t.req.addr / 256)

/-- WRITE_ACKNOWLEDGED (R248, R249, R263). -/
def execWriteAcknowledged (h : HubNo) (tag : Nat) (s : State) : Host.Outcome State Fault Refusal :=
  match s.tag? h.val tag true with
  | none => .next s
  | some t =>
    if s.behind t then .next s
    else .next ((((s.freeTags h.val t).landedWrite (tagKey h.val tag) t.req.addr t.req.data).pushAll).dmaArrived t.req)

/-- ODD_EPOCH_WAIT (R250): the epoch of the buffer that waits is read again; a read of the Rake waits for Live (R353). -/
def execOddEpochWait (l : LaunderNo) (s : State) : Host.Outcome State Fault Refusal :=
  if !s.live then .next s
  else match s.strm.bufs.find? (fun b => b.launder = l.val && b.waitEpoch && !b.pushed) with
  | none => .next s
  | some b =>
    match s.strm.streams.find? (fun x => x.is b.launder b.ring b.slot b.role) with
    | none => .next s
    | some x => .next ((s.tryFill x b).filled b.id)

-- translation, R243
/-- Write streams and channels of a half that have come to a write that cannot be made are held or halt (R247, R274). -/
def State.judgeHalf (s : State) (half : Nat) : State :=
  let s := ((List.range 32).map (fun k => 32 * half + k)).foldl (fun s h => s.judgeWrites h) s
  ((List.range 16).map (fun k => 16 * half + k)).foldl (fun s c => s.judgeChan c) s

/-- The answer "mapped" (R243): the entry is held, and the requests it serves become ready. A half whose 4,096 entries are in
use gives up the one filled longest ago (DESIGN CHOICE, log entry 10). -/
def State.translated (s : State) (half page : Nat) (large write : Bool) : State :=
  let e : TlbEnt := { half := half, page := page, large := large, write := write }
  let mine := s.strm.tlb.filter (fun x => x.half = half)
  let others := s.strm.tlb.filter (fun x => x.half ≠ half)
  let s := s.setStrm { s.strm with tlb := ((e :: mine).take 4096) ++ others, misses := s.strm.misses.filter (fun m => !(e.covers m.1 m.2)) }
  let s := s.setStrm { s.strm with reqs := s.strm.reqs.map (fun q => if q.half = half && q.xheld then s.judged q else q) }
  s.judgeHalf half

/-- The answer "absent" (R243, R244, R247, R274). -/
def State.untranslated (s : State) (half page : Nat) : State :=
  let waits (q : Req) : Bool := q.half = half && q.xheld && q.pages.contains page
  let s := s.setStrm { s.strm with misses := s.strm.misses.filter (fun m => !(m.1 = half && m.2 = page)) }
  let ids := ((s.strm.reqs.filter (fun q => waits q && !q.write && q.who != .dma)).map Req.buf).eraseDups
  let s := ids.foldl (fun s i => s.deferFault i page) s
  let s := s.setStrm { s.strm with reqs := s.strm.reqs.map (fun q => if waits q && q.write then { q with stuck := 1 } else q) }
  (s.dmaAbsent half page).judgeHalf half

/-- TRANSLATION_RESPONSE (R243). -/
def execTranslationResponse (half : HalfNo) (page : Nat) (x : Xlate) (s : State) : Host.Outcome State Fault Refusal :=
  if s.strm.misses.any (fun m => m.1 = half.val && m.2 = page) then
    match x with
    | .mapped large write => .next (s.translated half.val page large write)
    | .absent => .next (s.untranslated half.val page)
  else .next s

/-- PAGE_INVALIDATION (R243): the entry is removed, requests not yet granted miss again, and the acknowledgement follows once
every request in flight that was translated through it has completed. -/
def execPageInvalidation (half : HalfNo) (page : Nat) (s : State) : Host.Outcome State Fault Refusal :=
  let gone := s.strm.tlb.filter (fun e => e.covers half.val page)
  let flying := (s.strm.tags.filter (fun t => t.req.half = half.val && t.req.pages.any (fun p => gone.any (fun e => e.covers half.val p)))).map
    (fun t => tagKey t.req.hub t.no)
  let s := s.setStrm { s.strm with tlb := s.strm.tlb.filter (fun e => !(e.covers half.val page)) }
  let ws := s.strm.reqs.filter (fun q => q.half = half.val && !(s.mapped q) && !q.xheld)
  let s := s.setStrm { s.strm with reqs := s.strm.reqs.map (fun q => if q.half = half.val then s.judged q else q) }
  let s := ws.foldl (fun s q => s.missFor q) s
  if flying.isEmpty then .next (s.emit (.invalidated half.val page))
  else .next (s.setStrm { s.strm with invals := s.strm.invals ++ [{ half := half.val, page := page, tags := flying }] })

-- handles, R228, R245
/-- Pans of a work order on a hub. -/
def State.pansOn (s : State) (h r slot : Nat) : List Nat := (s.pans.filter (fun e => e.1 / 64 = h && e.2.job = some (r, slot))).map Prod.fst

/-- A pan of hub h has reached a deferred-fault handle: the stream is Held, its record is fixed, and so are the pans that can go no
further (R245). -/
def State.holdStream (s : State) (h : Nat) (b : Buf) : State :=
  match s.strm.streams.find? (fun x => x.ring = b.ring && x.slot = b.slot && x.role = b.role && s.reaches x h), s.order? b.ring b.slot with
  | some x, some o =>
    let rec_ : FaultRec := { faddr := b.fault.getD 0, desc := x.daddr, resume := x.pushedRun, cause := 1, ring := b.ring, slot := b.slot, since := s.timeUs }
    let s := if x.held then s
      else ((((s.event 0x0110).bump32 (okey 0x2111 4)).orderEvent b.ring b.slot evHeld).updStream x (fun x => { x with held := true })).setStrm
        { (((s.event 0x0110).bump32 (okey 0x2111 4)).orderEvent b.ring b.slot evHeld |>.updStream x (fun x => { x with held := true })).strm with
          faultRecs := FMap.put none s.strm.faultRecs x.launder (some rec_) }
    (s.pansOn h b.ring b.slot).foldl (fun s pn => s.starve o pn) s
  | _, _ => s

/-- The hub write port takes an output buffer: its writes go to the port; one whose buffer holds a parity error is not issued
(R226, R389). -/
def State.writeOut (s : State) (h : Nat) (b : Buf) : State :=
  if b.bad then
    ((((s.popHandle (4 * h + 3) false).freeBuf b.id).bump64 (okey 0x2E10 6)).bump32 (okey 0x2E10 5)).fault 1 0x0140
      { kind := 2, num := h, addr := (b.runs.headD (0, 0)).1, slot := b.slot, ring := b.ring }
  else
    let s := (s.popHandle (4 * h + 3) true).updBuf b.id (fun b => { b with read := true })
    b.runs.foldl (fun s r => s.writeRun h .output b.ring b.slot b.id r.1 ((List.range r.2).map (fun k => ((b.data.find? (fun e => e.1 = r.1 + k)).map Prod.snd).getD 0))) s

/-- The head handle of a launder meets its consumer (R228, R244, R245, R249). Staging and gate handles are popped by their own
consumers. -/
def State.popHead (s : State) (l : Nat) (h : Handle) : State :=
  if h.kind = 2 then s.popHandle l false
  else match s.buf? h.buf with
    | none => s.popHandle l false
    | some b =>
      if b.ring = dmaRing then s
      else if b.role = 3 then s.writeOut (l / 4) b
      else if h.kind = 1 then s.holdStream (l / 4) b
      else if !b.stale.isEmpty then s
      else (s.popHandle l true).updBuf b.id (fun b => { b with read := true })

/-- A consumer releases the oldest handle that it holds: the write port once every write of the buffer is issued, the pans once
none of them reads from the buffer any more (R228). -/
def State.releaseHead (s : State) (l : Nat) (h : Handle) : State :=
  let free (s : State) : State :=
    let q := s.queue l
    ((s.setQueue l { q with held := q.held.drop 1 }).freeBuf h.buf).moved (l / 4)
  match s.buf? h.buf with
  | none => free s
  | some b =>
    if b.ring = dmaRing then s
    else if b.role = 3 then (if s.strm.reqs.any (fun q => q.write && q.buf = b.id) then s else free s)
    else match s.letGo (l / 4) b with
      | some t => free t
      | none => s

/-- HANDLE_POP (R228, R244, R245, R249): the consumer takes the head handle, or releases the oldest it holds; room in the queue
lets a stream end (R228). While Quiesced the queues stand (R354). -/
def execHandlePop (l : LaunderNo) (release : Bool) (s : State) : Host.Outcome State Fault Refusal :=
  let q := s.queue l.val
  if s.cfg.snap.state = 2 then .next s
  else if release then
    match q.held with
    | [] => .next s
    | h :: _ => .next ((s.releaseHead l.val h).pushHub (l.val / 4))
  else
    match q.q with
    | [] => .next s
    | h :: _ => .next ((s.popHead l.val h).pushHub (l.val / 4))

/-- GATE_POP (R251): the handle is released at once; not while Quiesced (R354). -/
def execGatePop (l : LaunderNo) (s : State) : Host.Outcome State Fault Refusal :=
  let q := s.queue l.val
  if s.cfg.snap.state = 2 then .next s
  else match q.q, s.strm.streams.find? (fun x => x.launder / 4 = l.val / 4 && x.gated && sdGate x.desc = l.val % 4 + 1) with
  | h :: _, some x =>
    let s := s.popHandle l.val false
    let s := if h.buf = 0 then s else s.freeBuf h.buf
    .next (s.updStream x (fun x => { x with gated := false }))
  | _, _ => .next s

-- the Stillwater watch, R235
/-- A stream waits for credit (R229): nothing but a place for its buffer is missing. -/
def State.waitsCredit (s : State) (x : Stream) : Bool :=
  x.more && !x.gated && !x.held && (s.receivers x).all s.depthLeft && !((s.receivers x).all (fun l => (s.place l x.nextLen).isSome))

/-- A stream at a gate waits for a handle of a launder whose channel waits for credit. -/
def State.gateStill (s : State) (x : Stream) : Bool :=
  let g := 4 * (x.launder / 4) + (sdGate x.desc - 1)
  x.gated && (s.queue g).q.isEmpty && s.chanCredit (leDmach (s.entry g))

/-- Rows of a hub's pans wait for room in launder 3. -/
def State.drainWaits (s : State) (h : Nat) : Bool :=
  !(s.outRoom h) && s.pans.any (fun e => e.1 / 64 = h && e.2.arrs.any (fun a => a.2.cells.any (fun c => c.2.ended)))

/-- The conditions of R235 for a hub at this moment: some stage waits; every producer that waits waits for credit, under which waits
that R234 does not cover are counted; nothing of the hub is on its way. Streams Held by a fault do not count. -/
def State.still (s : State) (h : Nat) : Bool :=
  let xs := s.strm.streams.filter (fun x => x.launder / 4 = h && !x.held && !x.stopped && !x.ended)
  let cs := (List.range 32).filter (fun c => s.chanCredit c && (if (s.chan c).gateWait then ddGlaunder (s.chan c).desc / 4 else chHub c) = h)
  (!xs.isEmpty || !cs.isEmpty || s.drainWaits h) &&
    xs.all (fun x => if x.gated then s.gateStill x else !(s.canFetch x)) &&
    !(s.strm.tags.any (fun t => t.req.hub = h)) && !(s.strm.reqs.any (fun q => q.hub = h && q.stuck = 0))

/-- Milliseconds for which a hub has been still (2113/02): since the last progress event in it, while the snapshot is Live (R354). -/
def State.stillMs (s : State) (h : Nat) : Nat :=
  if s.still h then ((if s.live then s.timeUs else s.cfg.snap.left) - (s.hub h).movedAt) / 1000 else 0

/-- STILLWATER (R235, R354): a hub that has been still for 2110/02 ms wedges function 1 with fault 0x0130. -/
def execStillwater (h : HubNo) (s : State) : Host.Outcome State Fault Refusal :=
  if s.still h.val && s.live && decide (s.obj (okey 0x2110 2) ≤ s.stillMs h.val) then .next (s.wedge 1 0x0130 { kind := 2, num := h.val }) else .next s

-- resume, R246, R247
/-- The pans that a Held stream of a work order held go on. -/
def State.unholdPans (s : State) (x : Stream) : State :=
  ((s.pans.filter (fun e => e.2.job = some (x.ring, x.slot) && s.reaches x (e.1 / 64))).map Prod.fst).foldl (fun s pn => s.unholdPan pn) s

/-- A Held read stream is resumed (R246): every buffer after the resume point goes, in every hub, and is fetched again. -/
def State.resumeRead (s : State) (x : Stream) : State :=
  let bad := s.strm.bufs.filter (fun b => b.ring = x.ring && b.slot = x.slot && b.role = x.role && (b.hop || b.launder = x.launder) && decide (x.pushedRun ≤ b.firstRun))
  let ids := bad.map Buf.id
  let seq := (bad.map Buf.seq).foldl min x.seq
  let s := ids.foldl (fun s i => s.cancelReads i) s
  let s := (s.receivers x).foldl (fun s l => let q := s.queue l; s.setQueue l { q with q := q.q.filter (fun h => !(ids.contains h.buf)) }) s
  let s := s.setStrm { s.strm with bufs := s.strm.bufs.filter (fun b => !(ids.contains b.id)), faultRecs := FMap.put none s.strm.faultRecs x.launder none }
  (s.updStream x (fun x => { x with held := false, stopped := false, ended := false, run := x.pushedRun, seq := seq })).unholdPans x

/-- A held write stream is resumed (R247): the faulting write is made again, and later ones follow in order. -/
def State.resumeWrites (s : State) (l : Nat) : State :=
  let mine (q : Req) : Bool := q.told && 4 * q.hub + 3 = l
  let ws := s.strm.reqs.filter mine
  let s := s.setStrm { s.strm with
    faultRecs := FMap.put none s.strm.faultRecs l none,
    tlb := s.strm.tlb.filter (fun e => !(ws.any (fun q => q.pages.any (fun p => e.covers q.half p) && s.noWrite q))) }
  let s := s.setStrm { s.strm with reqs := s.strm.reqs.map (fun q => if mine q then { s.judged { q with stuck := 0 } with told := false } else q) }
  ws.foldl (fun s q => s.missFor q) s

/-- Accepted write of 2120/04 (R246, R247). -/
def State.resumeStream (s : State) (l : Nat) : State :=
  let s := s.bump32 (okey 0x2111 7)
  match s.strm.streams.find? (fun x => x.launder = l && s.heldStream x) with
  | some x => s.resumeRead x
  | none => s.resumeWrites l

end Sys2Proof.Machine
end

