-- ==== Sys2Proof/Machine/Reset.lean ====
section
/-! DEFINITION. The full reset (R379, R380): what it keeps, its phases, the bring-up of the functions (R318, R319), and the
loss of the supply (R349). A reset is one command; the time of its phases is not modelled. -/

namespace Sys2Proof.Machine

/-- Order in which functions are brought up (R318). -/
def bringUpOrder : List Nat := [8, 9, 13, 1, 2, 12, 3, 4, 5, 6, 7]

/-- A record at Off, where a reset begins to bring a function up (R316). -/
def FnRec.atOff : FnRec := { state := .off, target := .off }

/-- What outlives a full reset: package memory, the keys and the banks, the inputs from outside and the temperatures; the
queue of commands and the trace are the model's own. Crusts valid now are counted as discarded (R89, R92); the count of full
resets goes on (R321). -/
def State.afterEntry (s : State) (cause : Nat) : State :=
  let crusts := (s.pans.map (fun e => e.2.crusts)).sum
  let resets := s.obj (okey 0x1F00 2)
  let t : State := { State.reset with
    pending := s.pending, out := s.out, mem := s.mem, draws := s.draws, objs := [],
    fns := (List.range 15).filterMap (fun n => if n = 0 then none else some (n, FnRec.atOff)),
    hubs := FMap.mapv {} s.hubs (fun _ h => { temp := h.temp }),
    weir := { railAlert := s.weir.railAlert, railEmg := s.weir.railEmg, refclk := s.weir.refclk },
    link := { mods := FMap.tab {} 16 (fun _ => { state := 0 }) },
    mgt := { keys := s.mgt.keys },
    cfg := { flash := s.cfg.flash } }
  let t := ((t.setObj (okey 0x2D10 3) crusts).setObj (okey 0x2E30 1) cause).setObj (okey 0x1F00 2) resets
  if cause = 0 then t.setObj (okey 0x1F00 2) 0 else t.bump32 (okey 0x1F00 2)

/-- What applies from a full reset on takes the values loaded (R345). -/
def State.latch (s : State) : State :=
  { s with ctl := { s.ctl with nodeId := s.obj (okey 0x1100 1), dataRate := s.obj (okey 0x1100 2), trainLimit := s.obj (okey 0x2980 1) },
           strm := { s.strm with writeTags := s.obj (okey 0x2190 3) } }

/-- Every region in use is poisoned at the end of phase 4 (R391). -/
def State.poisonAll (s : State) : State :=
  { s with win := { s.win with regions := (List.range (s.obj (okey 0x2C20 2))).map (fun n => (n, ({ poisoned := true } : Region))) } }

/-- The state that function n is to reach: its reset target, lowered to Ready where a prerequisite has not reached Running
(R318). -/
def State.resetGoal (s : State) (n : Nat) : FnState :=
  let t := s.obj (fnKey n 3)
  if t = 0 then .off else if t = 3 && (prereqs n).all s.running then .running else .ready

/-- Function 9 in phase 6: attempts fail until one trains, or the last one fails (R366). -/
def State.trainAll (s : State) (failed : Option Nat) : State :=
  let limit := s.ctl.trainLimit
  let ok := failed.any (fun k => decide (k < limit))
  let n := if ok then (failed.getD 0) + 1 else limit
  (s.setMods (fun _ x => { x with attempts := n })).startEnds 9 ok

/-- Bring-up of one function (R317, R318, R379). Functions 8 and 9 are brought up whatever their target; a scrub that fails
leaves function D Faulted (R380). -/
def State.bringUp (s : State) (env : ResetEnv) (n : Nat) : State :=
  let goal := s.resetGoal n
  if n = 13 && !env.scrubOk then
    ((s.goFn 13 .starting .ready 0).setFn 13 { (s.goFn 13 .starting .ready 0).fn 13 with persists := 0x0DF0 }).startEnds 13 true
  else if goal == .off && !(n = 8 || n = 9) then s
  else
    let s := s.goFn n .starting (if goal == .off then .ready else goal) 0
    if n = 9 then s.trainAll env.failedTrainings else s.startEnds n true

/-- At the end of phase 8 functions 8 and 9 go from Ready to Off where their target is Off (R379). -/
def State.toOff (s : State) (n : Nat) : State :=
  if s.obj (fnKey n 3) = 0 && (s.fn n).state == .ready then s.goFn n .off .off 0 else s

/-- A frame sent on the bus (R328, 1101/06). -/
def State.sendFrame (s : State) (id : Nat) (data : List Byte) : State := (s.emit (.frame id data)).bump64 (okey 0x1101 6)

/-- Phases 4 to 8 (R379). -/
def State.bringUpAll (s : State) (env : ResetEnv) : State :=
  let s := (s.loadConfig env.parityA env.parityB).latch.poisonAll
  let s := [10, 11, 14].foldl (fun s n => s.goFn n .running .running 0) s
  let s := bringUpOrder.foldl (fun s n => s.bringUp env n) s
  let s := (s.toOff 9).toOff 8
  (s.sendFrame (0x700 + s.ctl.nodeId) [0]).weirReact

/-- A full reset (R379, R380). Causes: 0 power-on, 1 PKG_RST, 2 1F00/01, 3 the repeat after a failed phase 2 or 3. -/
def State.fullReset (s : State) (cause : Nat) (env : ResetEnv) : State :=
  let t := s.cutShort.afterEntry cause
  if env.pass1 then t.bringUpAll env
  else
    let t := t.afterEntry 3
    if env.pass2 then t.bringUpAll env else { t with ctl := { t.ctl with heldAfterPhase1 := true } }

/-- PKG_RST asserted (R379, R394). -/
def execPkgRst (env : ResetEnv) (s : State) : Host.Outcome State Fault Refusal := .next (s.fullReset 1 env)

/-- Power-on (R379). -/
def execPowerOn (env : ResetEnv) (s : State) : Host.Outcome State Fault Refusal := .next (s.fullReset 0 env)

/-- POWER_LOST (R349): all that is not flash is lost and the block stands still until power-on. -/
def execPowerLost (s : State) : Host.Outcome State Fault Refusal :=
  let s := s.cutShort
  .next { State.reset with
    pending := s.pending, out := s.out, draws := s.draws,
    weir := { railAlert := s.weir.railAlert, railEmg := s.weir.railEmg, refclk := s.weir.refclk },
    mgt := { keys := s.mgt.keys }, cfg := { flash := s.cfg.flash }, ctl := { halted := true } }

end Sys2Proof.Machine
end

