-- ==== Sys2Proof/Machine/Sessions.lean ====
section
/-! DEFINITION. Sessions (R333 to R338): handshake, lockout, close, keys, selectors, and the ends of transfers that come with
them. -/

namespace Sys2Proof.Machine

/-- The session of a client address, with its number (R333). -/
def State.sessionOf (s : State) (cl : Nat) : Option (Nat × Session) :=
  (s.mgt.sessions.findSome? (fun e => match e.2 with
    | some x => if x.cl = cl then some (e.1, x) else none
    | none => none))

def State.setMgt (s : State) (m : Mgt) : State := { s with mgt := m }
def State.setSession (s : State) (n : Nat) (x : Option Session) : State :=
  s.setMgt { s.mgt with sessions := FMap.put none s.mgt.sessions n x }
def State.sessionCount (s : State) : Nat := (s.mgt.sessions.filter (fun e => e.2.isSome)).length
def State.clientOf (s : State) (cl : Nat) : Client := FMap.get {} s.mgt.clients cl
def State.setClient (s : State) (cl : Nat) (x : Client) : State := s.setMgt { s.mgt with clients := FMap.put {} s.mgt.clients cl x }
def State.xfer (s : State) (cl : Nat) : Option Xfer := FMap.get none s.mgt.xfers cl
def State.setXfer (s : State) (cl : Nat) (x : Option Xfer) : State := s.setMgt { s.mgt with xfers := FMap.put none s.mgt.xfers cl x }

/-- Counting of an answer: 1101/06 on the bus (R340). -/
def State.countAnswer (s : State) (cl : Nat) : State := if cl < 128 then s.bump64 (okey 0x1101 6) else s

/-- A transfer in progress is aborted with a code, which is sent (R331, R332, R336). -/
def State.abortXfer (s : State) (cl code : Nat) : State :=
  match s.xfer cl with
  | none => s
  | some _ => ((s.setXfer cl none).emit (.answer cl (.abort code))).countAnswer cl

/-- A session closes: a transfer in progress is aborted, its selectors are lost (R336). -/
def State.closeSession (s : State) (n : Nat) : State :=
  match FMap.get none s.mgt.sessions n with
  | none => s
  | some x => (s.abortXfer x.cl 0x0F000002).setSession n none

/-- The session of a client address closes, if it has one. -/
def State.closeOf (s : State) (cl : Nat) : State :=
  match s.sessionOf cl with
  | none => s
  | some (n, _) => s.closeSession n

/-- Key of privilege p; the Custodian key is provisioned when the package is made (R337). -/
def State.keyOf (s : State) (p : Nat) : List Byte :=
  let k := FMap.get [] s.mgt.keys p
  if p = 3 && k.isEmpty then (List.range (16 + Config.custodianKeyLen.val)).map (fun i => Config.custodianKeyByte (Fin.ofNat 64 i)) else k

/-- A write of 2A01/01 (R334 step 1). -/
def State.openHandshake (s : State) (cl p : Nat) : State × Answer :=
  if (s.keyOf p).isEmpty then (s, .abort 0x0F000001)
  else if s.sessionCount = 8 || (s.clientOf cl).locked then (s, .abort abState)
  else
    let s := s.closeOf cl
    (s.draw.setClient cl { s.clientOf cl with chal := some (p, (Config.challenge s.draws).toNat) }, .confirm)

/-- The message M of R334 step 3. -/
def macMessage (chal cl p : Nat) : List Byte := leBytes 32 chal ++ leBytes 1 cl ++ leBytes 1 p ++ leBytes 4 Config.serial.toNat

/-- Lowest free session number (R334 step 5). -/
def State.freeSession (s : State) : Option Nat := ((List.range 9).drop 1).find? (fun n => (FMap.get none s.mgt.sessions n).isNone)

/-- A failed response: the challenge is gone, the failure is counted, and may lock the address out (R334, R335). -/
def State.authFails (s : State) (cl : Nat) : State :=
  let s := (s.event 0x0A10).bump32 (okey 0x2A11 2)
  let c := s.clientOf cl
  if s.obj (okey 0x2A10 3) ≤ c.fails + 1 then
    ((s.setClient cl { chal := none, fails := 0, locked := true }).event 0x0A11).bump32 (okey 0x2A11 3)
  else s.setClient cl { c with chal := none, fails := c.fails + 1 }

/-- A write of 2A01/03 (R334 steps 4 and 5). -/
def State.respond (s : State) (cl : Nat) (mac : List Byte) : State × Answer :=
  let c := s.clientOf cl
  match c.chal with
  | none => (s, .abort abState)
  | some (p, ch) =>
    if hmac (s.keyOf p) (macMessage ch cl p) ≠ mac then (s.authFails cl, .abort 0x0F000001)
    else match s.freeSession with
      | none => (s.setClient cl { c with chal := none }, .abort abState)
      | some n =>
        let s := s.setClient cl { c with chal := none, fails := 0 }
        ((s.setSession n (some { cl := cl, priv := p, last := s.timeUs })).bump32 (okey 0x2A11 1), .confirm)

/-- A write of a key slot (R337): length byte and key. Pending challenges of the level are discarded. -/
def State.writeKey (s : State) (p : Nat) (data : List Byte) : State × Answer :=
  let n := (data.headD 0).toNat
  if !(n = 0 || decide (16 ≤ n ∧ n ≤ 64)) || (p = 3 && n = 0) then (s, .abort abValue)
  else
    let m := s.mgt
    (s.setMgt { m with keys := FMap.put [] m.keys p ((data.drop 1).take n),
                       clients := FMap.mapv {} m.clients (fun _ c => if c.chal.any (fun x => x.1 = p) then { c with chal := none } else c) },
     .confirm)

/-- Own session, 2A01/04 (R340). -/
def State.ownSession (s : State) (cl : Nat) : Nat :=
  let ch := pack 7 1 (b2n (s.clientOf cl).chal.isSome)
  match s.sessionOf cl with
  | none => ch
  | some (n, x) => ch + pack 4 2 x.priv + pack 0 4 n

/-- 2A20/n (R340). -/
def State.sessionBytes (s : State) (n : Nat) : List Byte :=
  match FMap.get none s.mgt.sessions n with
  | none => leBytes 16 0
  | some x =>
    leBytes 1 1 ++ leBytes 1 x.cl ++ leBytes 1 (if x.cl < 128 then 0 else 1) ++ leBytes 1 x.priv ++
      leBytes 4 (min ((s.timeUs - x.last) / 1000) (2 ^ 32 - 1)) ++ leBytes 8 x.served

/-- A transfer of the client's session has completed (R336, R340). -/
def State.served (s : State) (cl : Nat) : State :=
  match s.sessionOf cl with
  | none => s
  | some (n, x) => s.setSession n (some { x with served := satAdd 64 x.served 1, last := s.timeUs })

/-- Value of a selector as a client's session has it (R309). -/
def State.selOf (s : State) (cl k : Nat) : Nat :=
  match s.sessionOf cl with
  | none => objDefault k
  | some (_, x) => (FMap.get none x.sel k).getD (objDefault k)

/-- A selector is written (R309). -/
def State.setSel (s : State) (cl k v : Nat) : State :=
  match s.sessionOf cl with
  | none => s
  | some (n, x) => s.setSession n (some { x with sel := FMap.put none x.sel k (if v = objDefault k then none else some v) })

/-- LOCKOUT_EXPIRY (R335). -/
def execLockoutExpiry (cl : ClientNo) (s : State) : Host.Outcome State Fault Refusal :=
  if s.awake then .next (s.setClient cl.val { s.clientOf cl.val with locked := false }) else .next s

/-- CHALLENGE_EXPIRY (R334): the challenge serves no response any more. -/
def execChallengeExpiry (cl : ClientNo) (s : State) : Host.Outcome State Fault Refusal :=
  if s.awake then .next (s.setClient cl.val { s.clientOf cl.val with chal := none }) else .next s

/-- IDLE_TIMEOUT (R336). -/
def execIdleTimeout (sess : Nat) (s : State) : Host.Outcome State Fault Refusal :=
  if s.awake && (FMap.get none s.mgt.sessions sess).isSome then
    .next (((s.closeSession sess).event 0x0A12).bump32 (okey 0x2A11 4))
  else .next s

end Sys2Proof.Machine
end

