-- ==== Sys2Proof/Machine/Read.lean ====
section
/-! DEFINITION. What a read of each object returns (R306, R308): the objects whose value is computed from the state, and the
rest as held. -/

namespace Sys2Proof.Machine

def RingState.code : RingState → Nat
  | .disabled => 0 | .running => 1 | .draining => 2 | .halted => 3
def ChState.code : ChState → Nat
  | .idle => 0 | .active => 1 | .paced => 2 | .waiting => 3 | .aborting => 4 | .halted => 5
def PanState.code : PanState → Nat
  | .idle => 0 | .running => 1 | .held => 2 | .stopping => 3 | .stopped => 4 | .resuming => 5

/-- ISO 646 characters padded with zeros (R305). -/
def asciiBytes (n : Nat) (t : List Nat) : List Byte := t.map (fun c => BitVec.ofNat 8 c) ++ List.replicate (n - t.length) 0

/-- "Ubkar GPE" and "B1" (R320). -/
def deviceName : List Nat := [0x55, 0x62, 0x6B, 0x61, 0x72, 0x20, 0x47, 0x50, 0x45]
def hardwareVersion : List Nat := [0x42, 0x31]

/-- The bits of a word that its fields occupy, given as (lowest bit, width): reserved bits read as zero (R5). -/
def fieldMask (fs : List (Nat × Nat)) : Nat := (fs.map (fun f => (2 ^ f.2 - 1) * 2 ^ f.1)).sum
/-- Fields of a region descriptor (R100), of a QD (R182), of a Harrow record (R200). -/
def rgFields : List (Nat × Nat) := [(256, 54), (192, 52), (128, 52), (64, 52), (0, 52)]
def qdFields : List (Nat × Nat) :=
  (List.range 9).map (fun k => (64 * k, 52)) ++ [(576, 20), (608, 20), (640, 13), (655, 1), (656, 6), (672, 12), (688, 16), (704, 16)]
def hrFields : List (Nat × Nat) := [(0, 12), (15, 1), (16, 6), (24, 7), (64, 52), (128, 52), (192, 52), (256, 52)]

/-- Launder state 2112/02 (R253). -/
def State.launderState (s : State) (l : Nat) : List Byte :=
  let e := s.entry l
  let bs := s.strm.bufs.filter (fun b => b.launder = l)
  let q := s.queue l
  let xs := s.strm.streams.filter (fun x => x.launder = l)
  let dma := leProd e = 2 && s.chanCredit (leDmach e) && (if (s.chan (leDmach e)).gateWait then ddGlaunder (s.chan (leDmach e)).desc = l else s.stageLaunder (leDmach e) = some l)
  let waits := xs.any s.waitsCredit || dma || (l % 4 = 3 && s.drainWaits (l / 4))
  let wantsHandle := q.q.isEmpty && xs.any (fun x => !x.ended && s.pans.any (fun p => p.1 / 64 = l / 4 && p.2.active && p.2.job = some (x.ring, x.slot)))
  leBytes 8 e ++ leBytes 2 ((bs.map Buf.len).sum) ++ leBytes 1 q.q.length ++ leBytes 1 (s.windows l) ++
    leBytes 2 (((bs.filter (fun b => decide (s.poolBase (l / 4) ≤ b.base))).map Buf.len).sum) ++
    leBytes 1 (b2n waits + pack 1 1 (b2n wantsHandle) + pack 2 1 (b2n (s.isHeld l))) ++
    leBytes 1 ((q.q.head?.map Handle.seq).getD 0)

/-- Hub state 2113/02 (R253). -/
def State.hubState (s : State) (h : Nat) : List Byte :=
  let pool := ((s.strm.bufs.filter (fun b => b.launder / 4 = h && decide (s.poolBase h ≤ b.base))).map Buf.len).sum
  let ts := s.strm.tags.filter (fun t => t.req.hub = h)
  let wins := ((List.range 4).map (fun k => s.windows (4 * h + k))).sum
  leBytes 2 (1536 - s.poolBase h - pool) ++ leBytes 2 (ts.filter (fun t => !t.req.write)).length ++
    leBytes 1 (ts.filter (fun t => t.req.write)).length ++ leBytes 1 (64 - wins) ++
    leBytes 2 (min (s.stillMs h) 65535) ++ leBytes 8 0

/-- Fault record 2120/03 of a launder (R245); zeros but for FLAGS while its stream is not Held. -/
def State.faultRecord (s : State) (l : Nat) : List Byte :=
  match FMap.get none s.strm.faultRecs l with
  | none => leBytes 64 0
  | some r =>
    if !(s.isHeld l) then leBytes 64 0
    else
      let d := match s.strm.streams.find? (fun x => x.launder = l && x.held) with
        | some x => x.desc
        | none => 0
      let ix := if r.write || r.resume = 0 then [0, 0, 0, 0, 0, 0] else sdIndex d (r.resume - 1)
      leBytes 8 r.faddr ++ leBytes 8 r.desc ++ ix.flatMap (fun i => leBytes 4 i) ++ leBytes 1 r.cause ++
        leBytes 1 (b2n r.write + pack 1 1 (b2n (r.resume = 0)) + 4) ++ leBytes 1 r.ring ++ leBytes 1 0 ++ leBytes 2 r.slot ++ leBytes 2 0 ++
        leBytes 4 (min ((s.timeUs - r.since) / 1000) (2 ^ 32 - 1)) ++ leBytes 12 0

/-- Launder of a requester in a tag (2190/05). -/
def Requester.launder (q : Req) : Nat := match q.who with
  | .stream l _ => l.val
  | .output => 4 * q.hub + 3
  | _ => 0xFF

/-- Tag state 2190/05 (R253). -/
def State.tagState (s : State) (sel : Nat) : List Byte :=
  match s.strm.tags.find? (fun t => t.req.hub = sel / 256 && t.no = sel % 256) with
  | none => leBytes 16 0
  | some t => leBytes 8 t.req.addr ++ leBytes 1 (1 + pack 1 1 (b2n t.req.write) + pack 2 1 (b2n t.req.urgent)) ++
      leBytes 1 (Requester.launder t.req) ++ leBytes 2 t.req.len ++ leBytes 4 0

/-- WLB entry 2590/03 (R180). -/
def WlbEnt.bytes (x : WlbEnt) : List Byte :=
  leBytes 4 x.seqid ++ leBytes 4 x.page ++ leBytes 8 x.gen ++ leBytes 8 (x.kaddr + pack 63 1 (b2n x.valid)) ++ leBytes 8 x.vaddr

/-- Hub work 3020/02 (R358). -/
def State.hubWork (s : State) (h : Nat) : List Byte :=
  let on := s.seq.orders.filter (fun o => o.started && o.kind.occupies && o.onHub h)
  let cur := on.find? (fun o => o.phase != .preempted)
  let pre := on.find? (fun o => o.phase == .preempted)
  (match cur with
   | some o => leBytes 2 o.slot ++ leBytes 1 o.ring ++ leBytes 1 (woOpcode o.raw)
   | none => leBytes 2 0 ++ leBytes 1 0xFF ++ leBytes 1 0) ++
  (match pre with
   | some o => leBytes 2 o.slot ++ leBytes 1 o.ring
   | none => leBytes 2 0 ++ leBytes 1 0xFF) ++ leBytes 9 0

/-- The group that 2C90/02 names, as 2C90/03 returns it (R58, R390). -/
def State.groupWord (s : State) (sel : Nat) : Except Nat (List Byte) :=
  let n := sel / 2 ^ 20
  let d := s.regionDesc n
  if s.regionCount ≤ n ∨ !(rgValid d) ∨ rgGroups d ≤ sel % 2 ^ 20 then .error 0x06040043
  else if (s.region n).poisoned || (s.groupNow sel).bad || (s.frame? sel).any (fun f => !(s.hubReach f.hub)) then .error 0x06060000
  else .ok (leBytes 8 ((s.groupNow sel).gw % 2 ^ 56))

/-- A crust body (R84); a word with an inverted parity bit cannot be read (R322). -/
def crustBody (c : Crust) : Except Nat (List Byte) := if c.bad then .error 0x06060000 else .ok c.body

/-- Progress 2790/0A of the admitted UPDATE or PRECOND of a layer (R223). -/
def State.harrowProgress (s : State) (l : Nat) : Nat :=
  match s.seq.orders.find? (fun o => o.started && o.kind.isHarrow && woLayer o.raw = l) with
  | some o => o.progress
  | none => 0

/-- The 64 bytes of a moment header (2790/08, /09). -/
def State.momentHeader (s : State) (l k : Nat) : List Byte :=
  let a := hrMset (FMap.get 0 s.seq.records l) k
  if a = 0 then leBytes 64 0 else s.rdBytes a 64

/-- Objects of a pan (R92, R382). -/
def State.readPan (s : State) (p j : Nat) : Except Nat (List Byte) :=
  let x := s.pan p
  let hdr (c : Crust) : List Byte := leBytes 32 c.hdr
  if !(s.panReach p) then .error 0x06060000
  else if j = 1 then .ok (leBytes 1 x.state.code)
  else if j = 2 then .ok (leBytes 1 (b2n x.crust0.valid + pack 1 1 (b2n x.crust1.valid)))
  else if j = 3 then .ok (hdr x.crust0)
  else if j = 4 then .ok (hdr x.crust1)
  else if j = 5 then crustBody x.crust0
  else if j = 6 then crustBody x.crust1
  else if j = 7 then .ok x.liveBrine
  else if j = 8 then .ok (leBytes 2 (s.panWeir p))
  else .ok (leBytes 1 (s.obj (okey (0x4000 + p) 9)))

/-- State beyond a link that is exhausted cannot be read (R393). -/
def State.viaHub (s : State) (h : Nat) (b : List Byte) : Except Nat (List Byte) :=
  if s.hubReach h then .ok b else .error 0x06060000

/-- State of a half whose port block cannot be reached cannot be read (R10, R393). -/
def State.viaHalf (s : State) (half : Nat) (b : List Byte) : Except Nat (List Byte) :=
  if s.portReach half then .ok b else .error 0x06060000

/-- Objects that are computed, by canonical key: none where the object is held as it is. -/
def State.readComputed (s : State) (cl i j : Nat) : Option (Except Nat (List Byte)) :=
  let k := canonKey i j
  let n := i / 256 % 16
  let sel (x : Nat) : Nat := s.selOf cl x
  let num (w v : Nat) : Option (Except Nat (List Byte)) := some (.ok (leBytes w v))
  let raw (b : List Byte) : Option (Except Nat (List Byte)) := some (.ok b)
  if i / 0x1000 = 4 then some (s.readPan (i - 0x4000) j)
  else if commandKeys.contains k && !([0x235001, 0x221002, 0x221003, 0x221004].contains k) then
    num (if k = 0x2D9002 ∨ k = 0x2D9003 then 8 else if k = 0x23400B then 2 else 1) 0
  else if k = 0x300001 then num 1 0
  else match i / 256 with
  | 0x10 =>
    if k = 0x100100 then num 1 s.errorRegister
    else if k = 0x100800 then raw (asciiBytes 16 deviceName)
    else if k = 0x100900 then raw (asciiBytes 8 hardwareVersion)
    else if k = 0x100A00 then raw ((List.range 16).map (fun m => Config.softwareVersion (Fin.ofNat 16 m)))
    else if k = 0x101804 then num 4 Config.serial.toNat
    else none
  | 0x1F => if i = 0x1F10 then (if j = 15 then num 2 s.notRunning else num 4 (s.stateWord j)) else none
  | 0x30 =>
    if k = 0x300002 then num 4 s.snapWord
    else if k = 0x302002 then raw (s.hubWork (sel 0x302001))
    else none
  | _ =>
    if k = 0x210002 then num 4 (s.stateWord n)
    else if k = 0x210006 then num 4 (min ((s.timeUs - (s.fn n).entered) / 1000) (2 ^ 32 - 1))
    else match i / 256 with
    | 0x21 =>
      let l := sel 0x211201
      if k = 0x211202 then some (s.viaHub (l / 4) (s.launderState l))
      else if k = 0x211302 then some (s.viaHub (sel 0x211301) (s.hubState (sel 0x211301)))
      else if k = 0x212001 then num 2 s.heldCount
      else if k = 0x212003 then some (s.viaHub (sel 0x212002 / 4) (s.faultRecord (sel 0x212002)))
      else if k = 0x219005 then some (s.viaHub (sel 0x219004 / 256) (s.tagState (sel 0x219004)))
      else none
    | 0x22 =>
      let c := if i < 0x2280 then i - 0x2220 else i - 0x2280
      let x := s.chan c
      let num (w v : Nat) : Option (Except Nat (List Byte)) := some (s.viaHalf (chHalf c) (leBytes w v))
      let raw (b : List Byte) : Option (Except Nat (List Byte)) := some (s.viaHalf (chHalf c) b)
      if k = 0x222003 then num 1 ((s.chanState c).code + pack 7 1 (b2n x.pendStart))
      else if k = 0x222004 then num 8 x.daddr
      else if k = 0x222005 then num 4 x.off
      else if k = 0x222006 then num 32 x.status
      else if k = 0x228002 then raw (x.staging.take 512 ++ List.replicate (512 - x.staging.length) 0)
      else if k = 0x228003 then num 4 x.off
      else none
    | 0x23 =>
      let r := i - 0x2340
      if k = 0x232002 then num 16 (s.layer (sel 0x232001)).word
      else if k = 0x234007 then num 1 ((s.ring r).state.code + pack 7 1 (b2n (s.ring r).pendEnable))
      else if k = 0x234009 then num 4 (s.ring r).tail
      else if k = 0x23400A then num 4 (s.ring r).chead
      else none
    | 0x24 =>
      if k = 0x241201 then num 8 s.onchipBytes
      else if k = 0x241202 then num 8 (s.allocBytes 0)
      else if k = 0x241203 then num 8 (s.allocBytes 1)
      else if k = 0x241204 then num 8 (s.allocBytes 2)
      else if k = 0x249002 then num 32 (s.entryRec (sel 0x249001))
      else none
    | 0x25 =>
      if k = 0x259003 then some (s.viaHalf (sel 0x259001 / 4) (s.wlbAt (512 * sel 0x259001 + sel 0x259002)).bytes)
      else if k = 0x259007 then num 2 ((s.att.rev.map (fun v => if v.round < v.size then v.round else 0xFFFF)).getD 0xFFFF)
      else none
    | 0x26 => if k = 0x269003 then num 128 (s.qd (sel 0x269002) &&& fieldMask qdFields) else none
    | 0x27 =>
      let l := sel 0x279006
      if k = 0x279007 then num 128 (FMap.get 0 s.seq.records l &&& fieldMask hrFields)
      else if k = 0x279008 then raw (s.momentHeader l 0)
      else if k = 0x279009 then raw (s.momentHeader l 1)
      else if k = 0x27900A then num 4 (s.harrowProgress l)
      else none
    | 0x28 =>
      if k = 0x281201 then raw s.weirState
      else if k = 0x281203 then some (s.viaHub (sel 0x281202) (s.hubWeir (sel 0x281202)))
      else none
    | 0x29 => if k = 0x291002 then raw (s.modState (sel 0x291001)) else none
    | 0x2A =>
      if k = 0x2A0102 then num 32 (((s.clientOf cl).chal.map Prod.snd).getD 0)
      else if k = 0x2A0104 then num 1 (s.ownSession cl)
      else if k = 0x2A1105 then num 1 s.sessionCount
      else if i = 0x2A20 then raw (s.sessionBytes j)
      else none
    | 0x2B => if k = 0x2B8003 then raw s.cfg.commit.bytes else none
    | 0x2C =>
      let rg := s.region (sel 0x2C9101)
      if k = 0x2C2104 then num 4 s.framesUsed
      else if k = 0x2C9003 then some (s.groupWord (sel 0x2C9002))
      else if k = 0x2C9102 then num 64 (rg.desc &&& fieldMask rgFields)
      else if k = 0x2C9103 then num 1 (rg.owner.getD 0xFF)
      else none
    | 0x2E =>
      if k = 0x2E2003 then raw ((s.flt.log.getD (sel 0x2E2002) {}).bytes)
      else if k = 0x2E2004 then num 1 s.unacked
      else if k = 0x2E4001 then num 2 s.poisonedCount
      else if k = 0x2E4003 then num 1 (b2n (s.region (sel 0x2E4002)).poisoned)
      else none
    | _ => none

/-- The value of an existing object that may be read, as bytes, or the abort code (R306, R308). -/
def State.readValue (s : State) (cl : Nat) (r : ObjRow) (i j : Nat) : Except Nat (List Byte) :=
  match s.readComputed cl i j with
  | some x => x
  | none => .ok (leBytes r.ty.size (if r.sel then s.selOf cl (okey i j) else s.obj (okey i j)))

end Sys2Proof.Machine
end

