-- ==== Sys2Proof/Machine/Dict.lean ====
section
/-! DEFINITION. The dictionary endpoint: access and privilege (R303 to R307, R333), reads, writes with the order of the abort
codes (R322, R323), and the rows that are single writes of an object. -/

namespace Sys2Proof.Machine

/-- Level of an index that the tables do not list, by its place in the bands (R304). -/
def bandLevel (i : Nat) : Lvl := if 0x2000 ≤ i ∧ i < 0x3000 ∧ 0x80 ≤ i % 256 then .expert else .basic

def levelOf (i j : Nat) : Lvl := ((objRow i j).map ObjRow.lvl).getD (bandLevel i)

/-- The session's privilege reaches the request (R307). -/
def granted (priv : Nat) (l : Lvl) (write : Bool) : Bool :=
  if write then decide (l.writer ≤ priv)
  else match l with
    | .basic | .outside => true
    | .expert | .custodian => decide (2 ≤ priv)

/-- What a client address may do outside a session (R333). -/
def outsideOk (i j : Nat) (write : Bool) : Bool :=
  (!write && decide (0x1000 ≤ i ∧ i ≤ 0x10FF)) || (i = 0x2A01 && decide (1 ≤ j ∧ j ≤ 4))

/-- Checks of session, privilege and existence, in the order of R323. -/
def State.gate (s : State) (cl i j : Nat) (write : Bool) : Option Nat :=
  let refused : Option Nat := match s.sessionOf cl with
    | none => if outsideOk i j write then none else some 0x0F000002
    | some (_, x) => if outsideOk i j write || granted x.priv (levelOf i j) write then none else some 0x0F000001
  match refused with
  | some c => some c
  | none =>
    if !(indexExists i) then some 0x06020000
    else if (objRow i j).isNone && !(j = 0 && highestSub i ≠ 0) then some 0x06090011
    else none

/-- A read that meets a parity error in the group that 2C90/02 names raises its fault (R384, R390). -/
def State.readError (s : State) (cl i j : Nat) : State :=
  let key := s.selOf cl (okey 0x2C90 2)
  let f := s.groupNow key
  if i = 0x2C90 ∧ j = 3 ∧ f.bad then s.windrowError key f.hub else s

/-- A read (R306 to R308). -/
def State.serveRead (s : State) (cl i j : Nat) : State × Answer :=
  match s.gate cl i j false with
  | some c => (s, .abort c)
  | none =>
    match objRow i j with
    | none => (s, .data (leBytes 1 (highestSub i)))
    | some r =>
      if r.acc = .wo then (s, .abort 0x06010001)
      else match s.readValue cl r i j with
        | .ok b => (s, .data b)
        | .error c => (s.readError cl i j, .abort c)

-- writes
/-- A DMA start is refused because of LOW, HIGH and the pacing mode (R270). -/
def State.paceBad (s : State) (c : Nat) : Bool :=
  let lo := s.obj (chKey c 0x0A)
  let hi := s.obj (chKey c 0x0B)
  s.obj (chKey c 9) ≠ 0 && !(decide (lo < hi) && decide (hi ≤ 64))

/-- Undefined codes and other value checks of command objects (R313, R282, R271, R350, R353, R397, R340, R321, R391). -/
def State.codeBad (s : State) (k i v : Nat) : Option Nat :=
  if k = 0x210001 then (if 5 < v then some abValue else none)
  else if k = 0x234006 ∨ k = 0x2B8001 then (if v = 0 ∨ 3 < v then some abValue else none)
  else if k = 0x222001 then
    (if v = 0 ∨ 3 < v then some abValue else if v = 1 && s.paceBad (i - 0x2220) then some 0x06040043 else none)
  else if k = 0x300001 then (if v = 0 ∨ 2 < v then some abValue else none)
  else if k = 0x2E2005 ∨ k = 0x2A0105 then (if v = 1 then none else some abValue)
  else if k = 0x1F0001 then (if v = 0xA5A5 then none else some abValue)
  else if k = 0x2C9201 then (if s.obj (okey 0x2C20 2) ≤ v then some abHigh else none)
  else none

/-- While the state is Quiesced no object changes but the ones R354 names; the full reset ends the snapshot (R356; log entry
68). -/
def State.frozen (s : State) (r : ObjRow) (i : Nat) : Bool :=
  s.cfg.snap.state = 2 && !(r.sel || decide (0x1100 ≤ i ∧ i ≤ 0x1EFF) || i = 0x1F00 || i / 256 = 0x2A || decide (0x3000 ≤ i ∧ i ≤ 0x3FFF))

def answerOr (s : State) (c : Nat) : Option State → State × Answer
  | some t => (t, .confirm)
  | none => (s, .abort c)

def answerOf (s : State) : Except Nat State → State × Answer
  | .ok t => (t, .confirm)
  | .error c => (s, .abort c)

/-- An object whose write does something of its own: none for the others. -/
def State.writeSpecial (s : State) (cl priv k i v : Nat) (data : List Byte) : Option (State × Answer) :=
  if k = 0x210001 then some (answerOf s (s.control (i / 256 % 16) v))
  else if k = 0x234006 then
    some (answerOr s (if (s.ring (i - 0x2340)).pendEnable then abPending else abState) (s.ringControl (i - 0x2340) v))
  else if k = 0x23400B then some (if s.canAbort (i - 0x2340) v then (s.abort (i - 0x2340) v, .confirm) else (s, .abort abState))
  else if k = 0x222001 && !(s.portReach (chHalf (i - 0x2220))) then some (s, .abort 0x06060000)
  else if k = 0x222001 then
    some (answerOr s (if (s.chan (i - 0x2220)).pendStart then abPending else abState) (s.chanControl (i - 0x2220) v))
  else if k = 0x212004 then
    some (if s.isWedged 1 then (s, .abort abWedged) else if s.isHeld v then (s.resumeStream v, .confirm) else (s, .abort abState))
  else if k = 0x2D9002 then some (if s.maskHoldsCrust v then (s, .abort abState) else (s.testStop v, .confirm))
  else if k = 0x2D9003 then some (s.testResume v, .confirm)
  else if k = 0x259006 then some (s.clearWlb (fun e _ => bit v (e / 512)), .confirm)
  else if k = 0x2B8001 then some (s.commitControl priv v)
  else if k = 0x300001 then some (answerOf s (s.snapControl v))
  else if k = 0x2E2005 then some (s.ackLog, .confirm)
  else if k = 0x235001 ∨ k = 0x221002 ∨ k = 0x221003 ∨ k = 0x221004 then
    some (s.setObj k (s.obj k - (s.obj k &&& v)), .confirm)
  else if k = 0x2C9201 then some (if s.isWedged 12 then (s, .abort abState) else (s.restoreRegion v, .confirm))
  else if k = 0x2A0101 then some (s.openHandshake cl v)
  else if k = 0x2A0103 then some (s.respond cl data)
  else if k = 0x2A0105 then some (s.closeOf cl, .confirm)
  else if i = 0x2A81 then some (s.writeKey (k % 256 - 1) data)
  else if k = 0x2A8201 then
    some (if (FMap.get none s.mgt.sessions v).isSome then ((s.closeSession v).event 0x0A13, .confirm) else (s, .confirm))
  else if k = 0x1F0001 then some (s, .confirm)
  else none

/-- The answer to a write that Quiesced refuses: a state check that comes before it in the order of R323, else 0x08000022. -/
def frozenAbort : Option (State × Answer) → Nat
  | some (_, .abort c) => if [abWedged, abPending, abNothing, abPrereq, abDependent].contains c then c else abState
  | _ => abState

/-- The privilege of the session a client writes in, 0 with none. -/
def State.privOf (s : State) (cl : Nat) : Nat :=
  match s.sessionOf cl with
  | some (_, x) => x.priv
  | none => 0

/-- A write (R305 to R308, R322, R323). -/
def State.serveWrite (s : State) (cl i j : Nat) (data : List Byte) : State × Answer :=
  match s.gate cl i j true with
  | some c => (s, .abort c)
  | none =>
    match objRow i j with
    | none => (s, .abort 0x06010002)
    | some r =>
      let v := leNat data
      let k := canonKey i j
      if r.acc = .ro ∨ r.acc = .const then (s, .abort 0x06010002)
      else if data.length ≠ r.ty.size then (s, .abort 0x06070010)
      else match (s.valueBad r i j v).or (s.codeBad k i v) with
        | some c => (s, .abort c)
        | none =>
          if s.frozen r i then (s, .abort (frozenAbort (s.writeSpecial cl (s.privOf cl) k i v data)))
          else
            match s.writeSpecial cl (s.privOf cl) k i v data with
            | some x => x
            | none =>
              if r.sel then (s.setSel cl (okey i j) v, .confirm)
              else if s.locked i j v then (s, .abort abLocked)
              else (s.applyObj i j v, .confirm)

-- requests
/-- The bus carries requests of bus clients: neither bus-off nor its link exhausted (R329, R386). -/
def State.busUp (s : State) : Bool := s.obj (okey 0x1101 3) ≠ 2 && !(s.linkDead 5500)

/-- A request of a client address reaches the endpoint: the control island runs, and a bus client's route does (R379, R394). -/
def State.reachable (s : State) (cl : Nat) : Bool := s.awake && (decide (128 ≤ cl) || s.busUp)

/-- Counting of a request: 1101/05 on the bus, 1110/01 on the mailbox (R340). -/
def State.countRequest (s : State) (cl : Nat) : State :=
  if cl < 128 then s.bump64 (okey 0x1101 5) else s.bump64 (okey 0x1110 1)

/-- An answer ends a transfer: it counts as served and restarts its session's idle time, by data or confirmation or by an
abort code (R336, R340; log entry 73). -/
def State.answer (s : State) (cl : Nat) (a : Answer) : State := ((s.served cl).emit (.answer cl a)).countAnswer cl

/-- The full reset that a confirmed write of 1F00/01 begins once its confirmation has been sent (R321). -/
def State.thenReset (s : State) (i j : Nat) (a : Answer) (env : ResetEnv) : State :=
  if i = 0x1F00 ∧ j = 1 ∧ a = .confirm then s.fullReset 2 env else s

/-- An initiate from a client whose transfer is in progress aborts the earlier one (R331). -/
def State.initiate (s : State) (cl : Nat) : State := s.abortXfer cl 0x05040001

/-- A write that begins a new handshake leaves the earlier transfer to the close of its session, whose code is another (R334,
R339). -/
def State.handshakes (s : State) (cl i j : Nat) (data : List Byte) : Bool :=
  i = 0x2A01 && j = 1 && data.length = 1 && decide (leNat data ≤ 3) && (s.sessionOf cl).isSome &&
    (s.openHandshake cl (leNat data)).2 = .confirm

/-- The initiate of a write, before it is served. -/
def State.initWrite (s : State) (cl i j : Nat) (data : List Byte) : State :=
  if s.handshakes cl i j data then s else s.initiate cl

/-- The state in which a write is served: its request counted, an earlier transfer of its client ended. -/
def State.asked (s : State) (cl i j : Nat) (data : List Byte) : State := (s.countRequest cl).initWrite cl i j data

/-- A whole write transfer of a client address. -/
def State.write (s : State) (cl i j : Nat) (data : List Byte) (env : ResetEnv) : State :=
  if !(s.reachable cl) then s
  else
    let (t, a) := (s.asked cl i j data).serveWrite cl i j data
    (t.answer cl a).thenReset i j a env

/-- A whole write of a number of w bytes. -/
def State.writeNum (s : State) (cl i j w v : Nat) : Host.Outcome State Fault Refusal := .next (s.write cl i j (leBytes w v) {})

-- command rings
/-- RING_ENABLE: 1 to 2340 + r/06 (R282). -/
def execRingEnable (cl : ClientNo) (r : RingNo) (s : State) : Host.Outcome State Fault Refusal := s.writeNum cl.val (0x2340 + r.val) 6 1 1
/-- RING_DISABLE: 2 to 2340 + r/06 (R282). -/
def execRingDisable (cl : ClientNo) (r : RingNo) (s : State) : Host.Outcome State Fault Refusal := s.writeNum cl.val (0x2340 + r.val) 6 1 2
/-- RING_RESUME: 3 to 2340 + r/06 (R282). -/
def execRingResume (cl : ClientNo) (r : RingNo) (s : State) : Host.Outcome State Fault Refusal := s.writeNum cl.val (0x2340 + r.val) 6 1 3
/-- ABORT_SLOT: a slot number to 2340 + r/0B (R295). -/
def execAbortSlot (cl : ClientNo) (r : RingNo) (slot : Nat) (s : State) : Host.Outcome State Fault Refusal :=
  s.writeNum cl.val (0x2340 + r.val) 0x0B 2 slot

-- function control, R313
/-- CANCEL: 0 to 2n00/01. -/
def execCancel (cl : ClientNo) (n : FnNo) (s : State) : Host.Outcome State Fault Refusal := s.writeNum cl.val (0x2000 + 0x100 * n.val) 1 1 0
/-- PREPARE: 1 to 2n00/01. -/
def execPrepare (cl : ClientNo) (n : FnNo) (s : State) : Host.Outcome State Fault Refusal := s.writeNum cl.val (0x2000 + 0x100 * n.val) 1 1 1
/-- ENABLE: 2 to 2n00/01. -/
def execEnable (cl : ClientNo) (n : FnNo) (s : State) : Host.Outcome State Fault Refusal := s.writeNum cl.val (0x2000 + 0x100 * n.val) 1 1 2
/-- DISABLE: 3 to 2n00/01. -/
def execDisable (cl : ClientNo) (n : FnNo) (s : State) : Host.Outcome State Fault Refusal := s.writeNum cl.val (0x2000 + 0x100 * n.val) 1 1 3
/-- SHUT_DOWN: 4 to 2n00/01. -/
def execShutDown (cl : ClientNo) (n : FnNo) (s : State) : Host.Outcome State Fault Refusal := s.writeNum cl.val (0x2000 + 0x100 * n.val) 1 1 4
/-- ACKNOWLEDGE: 5 to 2n00/01. -/
def execAcknowledge (cl : ClientNo) (n : FnNo) (s : State) : Host.Outcome State Fault Refusal := s.writeNum cl.val (0x2000 + 0x100 * n.val) 1 1 5

/-- FULL_RESET: a code to 1F00/01 (R321). -/
def execFullReset (cl : ClientNo) (code : Nat) (env : ResetEnv) (s : State) : Host.Outcome State Fault Refusal :=
  .next (s.write cl.val 0x1F00 1 (leBytes 2 code) env)

-- the session manager
/-- OPEN: a privilege code to 2A01/01 (R334). -/
def execOpen (cl : ClientNo) (priv : Nat) (s : State) : Host.Outcome State Fault Refusal := s.writeNum cl.val 0x2A01 1 1 priv
/-- RESPONSE: R to 2A01/03 (R334). -/
def execResponse (cl : ClientNo) (mac : List Byte) (s : State) : Host.Outcome State Fault Refusal := .next (s.write cl.val 0x2A01 3 mac {})
/-- CLOSE: 1 to 2A01/05 (R336). -/
def execClose (cl : ClientNo) (s : State) : Host.Outcome State Fault Refusal := s.writeNum cl.val 0x2A01 5 1 1
/-- CLOSE_SESSION: a session number to 2A82/01 (R336). -/
def execCloseSession (cl : ClientNo) (sess : Nat) (s : State) : Host.Outcome State Fault Refusal := s.writeNum cl.val 0x2A82 1 1 sess
/-- KEY_WRITE: length byte and key to 2A81/P + 1 (R337). -/
def execKeyWrite (cl : ClientNo) (priv : Nat) (data : List Byte) (s : State) : Host.Outcome State Fault Refusal :=
  .next (s.write cl.val 0x2A81 (priv + 1) data {})
/-- HEARTBEAT_TIME: a period to 1100/03 (R328). -/
def execHeartbeatTime (cl : ClientNo) (ms : Nat) (s : State) : Host.Outcome State Fault Refusal := s.writeNum cl.val 0x1100 3 2 ms

-- configuration and snapshot
/-- CAPTURE: 1 to 2B80/01 (R350). -/
def execCapture (cl : ClientNo) (s : State) : Host.Outcome State Fault Refusal := s.writeNum cl.val 0x2B80 1 1 1
/-- COMMIT: 2 to 2B80/01 (R350, R351). -/
def execCommit (cl : ClientNo) (s : State) : Host.Outcome State Fault Refusal := s.writeNum cl.val 0x2B80 1 1 2
/-- ERASE: 3 to 2B80/01 (R350). -/
def execErase (cl : ClientNo) (s : State) : Host.Outcome State Fault Refusal := s.writeNum cl.val 0x2B80 1 1 3
/-- QUIESCE: 1 to 3000/01 (R353). -/
def execQuiesce (cl : ClientNo) (s : State) : Host.Outcome State Fault Refusal := s.writeNum cl.val 0x3000 1 1 1
/-- RELEASE: 2 to 3000/01 (R353). -/
def execRelease (cl : ClientNo) (s : State) : Host.Outcome State Fault Refusal := s.writeNum cl.val 0x3000 1 1 2

-- single registers
/-- REGION_RESTORE: a region number to 2C92/01 (R391). -/
def execRegionRestore (cl : ClientNo) (region : Nat) (s : State) : Host.Outcome State Fault Refusal := s.writeNum cl.val 0x2C92 1 2 region
/-- STOCKPILE_PART: the split to 2B20/01 (R20). -/
def execStockpilePart (cl : ClientNo) (units : Nat) (s : State) : Host.Outcome State Fault Refusal := s.writeNum cl.val 0x2B20 1 1 units
/-- TEST_STOP: a hub mask to 2D90/02 (R92). -/
def execTestStop (cl : ClientNo) (mask : BitVec 64) (s : State) : Host.Outcome State Fault Refusal := s.writeNum cl.val 0x2D90 2 8 mask.toNat
/-- TEST_RESUME: a hub mask to 2D90/03 (R92). -/
def execTestResume (cl : ClientNo) (mask : BitVec 64) (s : State) : Host.Outcome State Fault Refusal := s.writeNum cl.val 0x2D90 3 8 mask.toNat
/-- WLB_INVALIDATE: a walker mask to 2590/06 (R179). -/
def execWlbInvalidate (cl : ClientNo) (mask : Nat) (s : State) : Host.Outcome State Fault Refusal := s.writeNum cl.val 0x2590 6 1 mask
/-- FAULT_LOG_ACKNOWLEDGE: 1 to 2E20/05 (R397). -/
def execFaultLogAcknowledge (cl : ClientNo) (s : State) : Host.Outcome State Fault Refusal := s.writeNum cl.val 0x2E20 5 1 1
/-- INJECT_ARM: 1 to 2E80/03 (R398). -/
def execInjectArm (cl : ClientNo) (s : State) : Host.Outcome State Fault Refusal := s.writeNum cl.val 0x2E80 3 1 1
/-- TEST_EMERGENCY: 1 to 2880/03 (R374). -/
def execTestEmergency (cl : ClientNo) (s : State) : Host.Outcome State Fault Refusal := s.writeNum cl.val 0x2880 3 1 1
/-- STREAM_RESUME: a launder number to 2120/04 (R246). -/
def execStreamResume (cl : ClientNo) (l : LaunderNo) (s : State) : Host.Outcome State Fault Refusal := s.writeNum cl.val 0x2120 4 1 l.val

-- DMA channels, R271
/-- DMA_START: 1 to 2220 + c/01. -/
def execDmaStart (cl : ClientNo) (c : ChanNo) (s : State) : Host.Outcome State Fault Refusal := s.writeNum cl.val (0x2220 + c.val) 1 1 1
/-- DMA_ABORT: 2 to 2220 + c/01. -/
def execDmaAbort (cl : ClientNo) (c : ChanNo) (s : State) : Host.Outcome State Fault Refusal := s.writeNum cl.val (0x2220 + c.val) 1 1 2
/-- DMA_CLEAR: 3 to 2220 + c/01. -/
def execDmaClear (cl : ClientNo) (c : ChanNo) (s : State) : Host.Outcome State Fault Refusal := s.writeNum cl.val (0x2220 + c.val) 1 1 3

-- any object
/-- REGISTER_WRITE: data to any object (R308). -/
def execRegisterWrite (cl : ClientNo) (index sub : Nat) (data : List Byte) (s : State) : Host.Outcome State Fault Refusal :=
  .next (s.write cl.val index sub data {})

/-- WRITE_1_TO_CLEAR (R306, R265, R299): a mask to 2350/01 or to 2210/02 to 2210/04. Another object is not of this command. -/
def execWrite1ToClear (cl : ClientNo) (index sub mask : Nat) (s : State) : Host.Outcome State Fault Refusal :=
  if [0x235001, 0x221002, 0x221003, 0x221004].contains (okey index sub) then
    s.writeNum cl.val index sub (if index = 0x2350 then 2 else 4) mask
  else .next s

end Sys2Proof.Machine
end

