-- ==== Sys2Proof/Machine/Harrow.lean ====
section
/-! DEFINITION. The Harrow (R200 to R225): UPDATE and PRECOND, tile by tile through the phases of R208 and R216, with every value as
the rules form it. -/

namespace Sys2Proof.Machine

/-- ε₁ of R205: the FP32 value nearest to 10^-30. -/
def eps1 : Nat := rn32 (Val.div (Val.ofNat 1) (Val.ofNat (10 ^ 30)))

/-- Correctly rounded square root in FP32, for the norms of R220. -/
def f32sqrt (c : Nat) : Nat :=
  match dec32 c with
  | .nan => f32nan
  | .inf neg => if neg then f32nan else f32inf
  | .fin neg m e =>
    if m = 0 then c
    else if neg then f32nan
    else
      let k : Int := 120 + e.natAbs
      let sh := 2 * k + e
      rn32 (.fin false (isqrt (m <<< sh.toNat)) (-k))

/-- rn(1 / sqrt(sqrt(x))) of R218. -/
def f32root4 (c : Nat) : Nat :=
  match dec32 c with
  | .nan => f32nan
  | .inf neg => if neg then f32nan else 0
  | .fin neg m e =>
    if m = 0 then f32inf
    else if neg then f32nan
    else
      let k : Int := 100 + e.natAbs
      let n := (1 <<< (4 * k - e).toNat) / m
      rn32 (.fin false (isqrt (isqrt n)) (-k))

/-- b^t exactly, rounded to binary64. -/
def Val.pow (b : Val) (t : Nat) : Nat := match b with
  | .fin neg m e => rn64 (.fin (neg && t % 2 = 1) (m ^ t) (e * t))
  | v => rn64 v

/-- 1 - b^t formed in binary64, rounded once to FP32 (R205). -/
def oneMinusPow (b t : Nat) : Nat := rn32 (dec64 (rn64 (Val.sub (Val.ofNat 1) (dec64 (Val.pow (dec32 b) t)))))

def alignUp (x : Nat) : Nat := cdiv x 4096 * 4096

/-- A layer as an UPDATE or PRECOND sees it: its region, shape, record, the addresses read and written. -/
structure HLayer where
  w : Nat
  h : Nat
  region : Nat
  d : Nat
  src : Nat
  dst : Nat
  mSrc : Nat
  mDst : Nat
  rates : List Nat
  frozen : List Byte

def HLayer.rows (x : HLayer) : Nat := rgRows x.d
def HLayer.cols (x : HLayer) : Nat := rgCols x.d
def HLayer.vec (x : HLayer) : Bool := !(rgMatrix x.d)
/-- Elements of the storage of one array, tile padding included for a matrix (R65, R201). -/
def HLayer.store (x : HLayer) : Nat := if x.vec then x.rows * x.cols else 256 * rgGroups x.d
/-- Place of element (i, j). -/
def HLayer.idx (x : HLayer) (i j : Nat) : Nat := if x.vec then i * x.cols + j else tileOff x.cols 1 i j
/-- OFMT code of the forward copy; none where none is written (R201). -/
def HLayer.fwd (x : HLayer) : Option Nat :=
  if hrUnver x.h then none else if hrFwdfmt x.h = 0 then some 1 else if hrFwdfmt x.h = 1 then some 2 else none
/-- Offset of the master. -/
def HLayer.moff (x : HLayer) : Nat := match x.fwd with
  | some f => alignUp (ofmtSize f * x.store)
  | none => 0
-- areas of a moment set, R202
def HLayer.nr (x : HLayer) : Nat := if x.vec then x.rows * x.cols else x.rows
def HLayer.roff (_ : HLayer) : Nat := 8192
def HLayer.coff (x : HLayer) : Nat := alignUp (8192 + 4 * x.nr)
def HLayer.mmoff (x : HLayer) : Nat := alignUp (x.coff + (if x.vec then 0 else 4 * x.cols))
def HLayer.nl (x : HLayer) : Nat := cdiv x.rows 128
def HLayer.nrt (x : HLayer) : Nat := cdiv x.cols 128
def HLayer.lsoff (x : HLayer) : Nat := alignUp (x.mmoff + (if hrMom x.h then 4 * x.store else 0))
def HLayer.rsoff (x : HLayer) : Nat := alignUp (x.lsoff + 65536 * x.nl)
def HLayer.lroff (x : HLayer) : Nat := alignUp (x.rsoff + 65536 * x.nrt)
def HLayer.rroff (x : HLayer) : Nat := alignUp (x.lroff + 32768 * x.nl)
-- rates
def HLayer.eta (x : HLayer) : Nat := x.rates.getD 0 0
def HLayer.lam (x : HLayer) : Nat := x.rates.getD 1 0
def HLayer.b1 (x : HLayer) : Nat := x.rates.getD 2 0
def HLayer.b2 (x : HLayer) : Nat := x.rates.getD 3 0
def HLayer.bs (x : HLayer) : Nat := x.rates.getD 4 0
def HLayer.kmax (x : HLayer) : Nat := x.rates.getD 5 0
def HLayer.limit (x : HLayer) : Nat := x.rates.getD 6 0
def HLayer.damping (x : HLayer) : Nat := x.rates.getD 7 0
def HLayer.graft (x : HLayer) : Bool := x.rates.getD 8 0 = 1
/-- Element (i, j) is frozen (R213). -/
def HLayer.frz (x : HLayer) (i j : Nat) : Bool :=
  let k := hrFrzkind x.h
  let at_ (n : Nat) : Bool := bit (x.frozen.getD (n / 8) 0).toNat (n % 8)
  if k = 0 then false else if k = 3 then true else if k = 1 then at_ i else at_ (rgElem x.d i j).1
/-- Rows and columns of group g. -/
def HLayer.rowsOf (x : HLayer) (a : Nat) : List Nat := ((List.range 16).map (fun k => 16 * a + k)).filter (fun i => decide (i < x.rows))
def HLayer.colsOf (x : HLayer) (b : Nat) : List Nat := ((List.range 16).map (fun k => 16 * b + k)).filter (fun j => decide (j < x.cols))
def HLayer.tileRows (x : HLayer) : Nat := cdiv x.rows 16
def HLayer.tileCols (x : HLayer) : Nat := rgTileCols x.d
/-- All elements, row-major. -/
def HLayer.elems (x : HLayer) : List (Nat × Nat) := (List.range x.rows).flatMap (fun i => (List.range x.cols).map (fun j => (i, j)))

/-- The layer of an admitted work order. -/
def State.hLayer (s : State) (o : Order) : HLayer :=
  let h := o.harrow
  let l := woLayer o.raw
  let d := s.regionDesc (hrRegion h)
  match o.claim with
  | some (_, t, old) => { w := o.raw, h := h, region := hrRegion h, d := d, src := s.slotAddr l old, dst := s.slotAddr l t,
                          mSrc := hrMset h old, mDst := hrMset h t, rates := o.rates, frozen := o.frozen }
  | none => { w := o.raw, h := h, region := hrRegion h, d := d, src := hrPaddr h, dst := hrPaddr h,
              mSrc := hrMset h 0, mDst := hrMset h 0, rates := o.rates, frozen := o.frozen }

def State.f32At (s : State) (a : Nat) : Nat := s.rdN a 4

/-- Gradient element as FP32 (R205), from its group's copy in the slice or in near memory (R210). -/
def State.grad (s : State) (x : HLayer) (i j : Nat) : Nat :=
  let (g, e) := rgElem x.d i j
  rn32 (Val.mul (dec64 ((s.groupNow (groupKey x.region g)).read e)) (dec32 (woGscale x.w)))

/-- Partial sum of squares of a list of unfrozen gradients, by fma from +0 (R209). -/
def sumSq (l : List Nat) : Nat := l.foldl (fun a g => f32fma g g a) 0

/-- ρ_i and n_i (R209). -/
def HLayer.rowSum (x : HLayer) (g : Nat → Nat → Nat) (i : Nat) : Nat × Nat :=
  let live := (List.range x.tileCols).map (fun b => (x.colsOf b).filter (fun j => !(x.frz i j)))
  let t := live.foldl (fun a js => f64add a (rn64 (dec32 (sumSq (js.map (g i)))))) 0
  (rn32 (dec64 t), (live.map List.length).sum)
/-- κ_j and m_j. -/
def HLayer.colSum (x : HLayer) (g : Nat → Nat → Nat) (j : Nat) : Nat × Nat :=
  let live := (List.range x.tileRows).map (fun a => (x.rowsOf a).filter (fun i => !(x.frz i j)))
  let t := live.foldl (fun a is => f64add a (rn64 (dec32 (sumSq (is.map (fun i => g i j)))))) 0
  (rn32 (dec64 t), (live.map List.length).sum)

/-- A new statistic (R206). -/
def newStat (b2 old sum n : Nat) : Nat :=
  if n = 0 then old else f32max eps1 (f32fma b2 old (f32mul (f32sub f32one b2) (f32div sum (f32ofNat n))))

/-- R̄ of the new row statistics (R209). -/
def HLayer.rbar (x : HLayer) (rr : List Nat) : Nat :=
  let sums := (List.range x.tileRows).map (fun a => (x.rowsOf a).foldl (fun t i => f64add t (rn64 (dec32 (rr.getD i 0)))) 0)
  rn32 (Val.div (dec64 (sums.foldl (fun t v => f64add t v) 0)) (Val.ofNat x.rows))

-- the precondition phase, R216 to R220
/-- A 128 × 128 matrix of codes. -/
def mk128 (f : Nat → Nat → Nat) : List Nat := (List.range 16384).map (fun k => f (k / 128) (k % 128))
def at128 (m : List Nat) (i j : Nat) : Nat := m.getD (128 * i + j) 0

/-- A matrix of the precondition phase and the non-finite chunks promoted into it (R33). -/
structure Mat where
  m : List Nat
  bad : Nat := 0

/-- Chunks of element (i, j) of a product of the precondition phase, for chunk length l: BF16 × BF16 in window mode (R54, R55, R216). -/
def bfChunks (s : State) (l k : Nat) (a b : Nat → Nat → Nat) (i j : Nat) : List Val :=
  let op : Operand := { fmt := 6 }
  let p : Plan := { kind := .product, m := 128, n := 128, k := k, l := l, shape := Config.precondShape.val, st := op, mv := op, win := true }
  let blk := p.setOf i j
  let (r0, c0) := p.origin blk 0
  let arr := arrayOf p.shape (i - r0) (j - c0)
  (List.range p.chunks).map (fun c =>
    let k0 := c * p.l
    let an := (p.anchor (fun i x => some (a i x)) (fun j x => some (b x j)) { b := blk } { chunk := c } arr).getD 0
    let cell := (List.range (min p.l (p.k - k0))).foldl (fun (cell : Cell) q => cell.add p true true (a i (k0 + q)) (b (k0 + q) j)) { anchor := an }
    s.chunkValue p cell i j k0)

/-- A product of the precondition phase into FP32 drain registers. -/
def bfProduct (s : State) (l k : Nat) (a b : Nat → Nat → Nat) : Mat :=
  let vals (i j : Nat) : List Val := bfChunks s l k a b i j
  { m := mk128 (fun i j => (vals i j).foldl promote32 0), bad := (mk128 (fun i j => ((vals i j).filter Val.isNan).length)).sum }

/-- BF16 rounding of an FP32 code. -/
def toBf (c : Nat) : Nat := Fmt.bf16.rn (dec32 c)
/-- FP32 code of a BF16 code. -/
def ofBf (c : Nat) : Nat := rn32 (Fmt.bf16.decode c)

/-- A product of two FP32 matrices, operands rounded to BF16. -/
def mulBf (s : State) (l : Nat) (a b : List Nat) : Mat := bfProduct s l 128 (fun i k => toBf (at128 a i k)) (fun k j => toBf (at128 b k j))

/-- Trace in FP32 over n diagonal entries, ascending. -/
def trace (m : List Nat) (n : Nat) : Nat := (List.range n).foldl (fun t i => f32add t (at128 m i i)) 0

def finite128 (m : List Nat) : Bool := m.all (fun c => (dec32 c).finite)

/-- The iteration of R218: the root if it converges, the iterations run and the non-finite chunks promoted; `fuel` is what is left of
kmax. -/
def newton (s : State) (l limit : Nat) : Nat → List Nat → List Nat → Nat → Nat → Option (List Nat) × Nat × Nat
  | 0, _, _, n, z => (none, n, z)
  | fuel + 1, m, x, n, z =>
    let t := mk128 (fun i j => f32div (f32sub (if i = j then f32ofNat 5 else 0) (at128 m i j)) (f32ofNat 4))
    let t2 := mulBf s l t t
    let t4 := mulBf s l t2.m t2.m
    let m' := mulBf s l t4.m m
    let x' := mulBf s l x t
    let z := z + t2.bad + t4.bad + m'.bad + x'.bad
    if !(finite128 t2.m && finite128 t4.m && finite128 m'.m && finite128 x'.m) then (none, n + 1, z)
    else
      let res := (List.range 128).foldl (fun r i =>
        f32max r (rowSum 128 (fun j => rn32 (dec32 (f32sub (if i = j then f32one else 0) (at128 m'.m i j))).abs))) 0
      if f32lt limit res || (dec32 limit).isNan then newton s l limit fuel m'.m x'.m (n + 1) z else (some x'.m, n + 1, z)

/-- What became of a block (R217 to R219): BF16 root, fallen back, zero trace, put through R218, iterations, non-finite chunks. -/
structure Root where
  root : List Nat
  fell : Bool := false
  zero : Bool := false
  ran : Bool := false
  its : Nat := 0
  bad : Nat := 0

def bfOne : Nat := 0x3F80
def identity128 (n : Nat) : List Nat := mk128 (fun i j => if i = j && i < n then bfOne else 0)

/-- The root of a block of n real rows (R216 to R219). -/
def rootOf (s : State) (x : HLayer) (a : List Nat) (n : Nat) : Root :=
  let pad := f32div (trace a n) (f32ofNat n)
  let a := mk128 (fun i j => if i < n && j < n then at128 a i j else if i = j then pad else 0)
  let tr := trace a 128
  if (dec32 tr).isZero then { root := identity128 n, zero := true }
  else if !(dec32 tr).finite then { root := identity128 n, fell := true }
  else
    let e := f32mul x.damping tr
    let ah := mk128 (fun i j => if i = j then f32add (at128 a i j) e else at128 a i j)
    let t := trace ah 128
    let r := f32root4 t
    let inv := f32recip t
    match newton s (chunkLen x.w) x.limit x.kmax (mk128 (fun i j => f32mul (at128 ah i j) inv)) (mk128 (fun i j => if i = j then r else 0)) 0 0 with
    | (some m, k, z) => { root := mk128 (fun i j => if i < n && j < n then toBf (at128 m i j) else 0), ran := true, its := k, bad := z }
    | (none, k, z) => { root := identity128 n, fell := true, ran := true, its := k, bad := z }

/-- A 128 × 128 block in memory, elements of `size` bytes, tile-blocked. -/
def State.block128 (s : State) (a size : Nat) : List Nat := mk128 (fun i j => s.rdN (a + tileOff 128 size i j) size)
def State.putBlock128 (s : State) (a size : Nat) (m : List Nat) : State :=
  (joinWrites ((List.range 128).flatMap (fun i => (List.range 128).map (fun j => (a + tileOff 128 size i j, leBytes size (at128 m i j)))))).foldl
    (fun s w => s.store w.1 w.2) s

/-- A bitmap of a moment header: bit per block. -/
def State.headerBit (s : State) (a off k : Nat) : Bool := bit (s.rd8 (a + off + k / 8)).toNat (k % 8)
def State.putHeaderBit (s : State) (a off k : Nat) (v : Bool) : State :=
  s.store (a + off + k / 8) [BitVec.ofNat 8 (setBit (s.rd8 (a + off + k / 8)).toNat (k % 8) v)]

/-- Real rows of block a of n. -/
def blockSize (n a : Nat) : Nat := min 128 (n - 128 * a)

/-- What a root that was formed counts and raises, each event once per work order (R219, R223). -/
def State.countRoot (s : State) (o : Order) (r : Root) : State :=
  let s := ((s.bump 64 (okey 0x2711 5) (b2n r.ran)).bump 64 (okey 0x2711 6) (b2n r.fell)).bump 64 (okey 0x2711 7) (b2n r.zero)
  let s := s.bump 64 (okey 0x2711 8) r.its
  let was (b : Nat) : Bool := (s.order? o.ring o.slot).any (fun q => bit q.events b)
  let s := if r.fell then (s.eventIf (!(was evFellBack)) 0x0712).orderEvent o.ring o.slot evFellBack else s
  if r.zero then (s.eventIf (!(was evZeroTrace)) 0x0713).orderEvent o.ring o.slot evZeroTrace else s

/-- Non-finite chunks promoted into FP32 totals (R33). -/
def State.countBad (s : State) (o : Order) (n : Nat) : State := (List.range n).foldl (fun s _ => s.countNonfinite o.ring o.slot .nan) s

/-- One side of a PRECOND: its extent, that of its reduction, and the places of its areas and bitmaps in a moment set (R202). -/
structure Side where
  n : Nat
  red : Nat
  soff : Nat
  xoff : Nat
  foff : Nat
  zoff : Nat
def HLayer.left (x : HLayer) : Side := ⟨x.rows, x.cols, x.lsoff, x.lroff, 64, 2112⟩
def HLayer.right (x : HLayer) : Side := ⟨x.cols, x.rows, x.rsoff, x.rroff, 1088, 3136⟩

/-- Roots are formed in this step (R216). -/
def State.rootsNow (s : State) (x : HLayer) : Bool := woRoot x.w || !(bit (s.rd8 (x.mSrc + 4)).toNat 0)

/-- Block a of a side: its statistic, and its root formed or copied (R216 steps 2 and 3). `g k` is Ĝ for row (or column) k of the
side and reduction index. -/
def State.precondBlock (s : State) (o : Order) (x : HLayer) (d : Side) (g : Nat → Nat → Nat) (a : Nat) : State :=
  let gb (i k : Nat) : Nat := if 128 * a + i < d.n then g (128 * a + i) k else 0
  let pr := bfProduct s (chunkLen x.w) d.red gb (fun k j => gb j k)
  let old := s.block128 (x.mSrc + d.soff + 65536 * a) 4
  let st := mk128 (fun i j => f32fma x.bs (at128 old i j) (at128 pr.m i j))
  let roots := s.rootsNow x
  let r : Root := if roots then rootOf s x st (blockSize d.n a)
    else { root := s.block128 (x.mSrc + d.xoff + 32768 * a) 2, fell := s.headerBit x.mSrc d.foff a, zero := s.headerBit x.mSrc d.zoff a }
  let s := (s.putBlock128 (x.mDst + d.soff + 65536 * a) 4 st).putBlock128 (x.mDst + d.xoff + 32768 * a) 2 r.root
  let s := (s.putHeaderBit x.mDst d.foff a r.fell).putHeaderBit x.mDst d.zoff a r.zero
  (if roots then s.countRoot o r else s).countBad o (pr.bad + r.bad)

/-- Norm over a tile-block by R142, elements row-major in a 128-wide block (log entry 56). -/
def norm128 (m : List Nat) : Nat := f32sqrt (rowDot 16384 (fun k => m.getD k 0) (fun k => m.getD k 0))

/-- Element (p, q) of tile-block (a, b) lies in the layer and is not frozen. -/
def HLayer.real (x : HLayer) (a b p q : Nat) : Bool :=
  decide (128 * a + p < x.rows) && decide (128 * b + q < x.cols) && !(x.frz (128 * a + p) (128 * b + q))

/-- V_ab of a tile-block from the roots in the target set (R216 step 4). -/
def State.direction (s : State) (x : HLayer) (a b : Nat) : Mat :=
  let gb (p q : Nat) : Nat := if x.real a b p q then toBf (s.grad x (128 * a + p) (128 * b + q)) else 0
  let inner := bfProduct s (chunkLen x.w) 128 gb (at128 (s.block128 (x.mDst + x.rroff + 32768 * b) 2))
  let v := bfProduct s (chunkLen x.w) 128 (at128 (s.block128 (x.mDst + x.lroff + 32768 * a) 2)) (fun p q => toBf (at128 inner.m p q))
  { v with bad := inner.bad + v.bad }

/-- Directions of PRECOND (R219, R220) as a function of the element; `u` is the factored direction. -/
def State.precondDir (s : State) (x : HLayer) (u : Nat → Nat → Nat) (i j : Nat) : Nat :=
  let a := i / 128
  let b := j / 128
  if s.headerBit x.mDst x.left.foff a || s.headerBit x.mDst x.right.foff b then u i j
  else
    let v := (s.direction x a b).m
    let vij := at128 v (i % 128) (j % 128)
    if !x.graft then vij
    else
      let nv := norm128 (mk128 (fun p q => if x.real a b p q then at128 v p q else 0))
      if (dec32 nv).isZero then u i j
      else f32mul vij (f32div (norm128 (mk128 (fun p q => if x.real a b p q then u (128 * a + p) (128 * b + q) else 0))) nv)

-- phase 2
/-- Copy bytes of the set read to the target; an area in place is left (R213, R215). -/
def State.carry (s : State) (a b n : Nat) : State := if a = b then s else s.store b (s.rdBytes a n)

/-- Master, forward copy and first moment of an element are carried over (R213, R215). -/
def State.carryElem (s : State) (x : HLayer) (i j : Nat) : State :=
  let k := x.idx i j
  let s := s.carry (x.src + x.moff + 4 * k) (x.dst + x.moff + 4 * k) 4
  let s := match x.fwd with
    | some f => s.carry (x.src + ofmtSize f * k) (x.dst + ofmtSize f * k) (ofmtSize f)
    | none => s
  if hrMom x.h then s.carry (x.mSrc + x.mmoff + 4 * k) (x.mDst + x.mmoff + 4 * k) 4 else s

/-- The step of an unfrozen element along direction u (R205, R206): first moment, master, forward copy. -/
def State.stepElem (s : State) (o : Order) (x : HLayer) (ic1 i j u : Nat) : State :=
  let k := x.idx i j
  let ma := x.mmoff + 4 * k
  let m := f32fma x.b1 (s.f32At (x.mSrc + ma)) (f32mul (f32sub f32one x.b1) u)
  let d := if hrMom x.h then f32mul m ic1 else u
  let p := s.f32At (x.src + x.moff + 4 * k)
  let p := f32sub p (f32mul x.eta (f32fma x.lam p d))
  let s := if hrMom x.h then s.storeN (x.mDst + ma) 4 m else s
  let s := s.storeN (x.dst + x.moff + 4 * k) 4 p
  match x.fwd with
  | none => s
  | some f =>
    let (c, sub) := convert f false (dec32 p)
    (s.storeN (x.dst + ofmtSize f * k) (ofmtSize f) c).countOut o.ring o.slot sub

/-- A skipped step carries over what its tiles do not hold, UCOUNT unchanged (R215). -/
def State.skipEnd (s : State) (o : Order) (x : HLayer) : State :=
  let s := s.carry x.mSrc x.mDst 8192
  let s := if x.vec then s
    else (s.carry (x.mSrc + x.roff) (x.mDst + x.roff) (4 * x.nr)).carry (x.mSrc + x.coff) (x.mDst + x.coff) (4 * x.cols)
  let s := if o.kind == .precond then s.carry (x.mSrc + x.lsoff) (x.mDst + x.lsoff) (x.rroff + 32768 * x.nrt - x.lsoff) else s
  ((s.bump32 (okey 0x2711 4)).event 0x0710).orderEvent o.ring o.slot evSkipped

/-- t of R205: UCOUNT of the set read, plus 1. The target's UCOUNT is written with the last tile. -/
def State.stepNo (s : State) (x : HLayer) : Nat := s.rdN x.mSrc 4 + 1

/-- The second moment of a vector's element, and its direction (R207). -/
def State.vectorElem (s : State) (o : Order) (x : HLayer) (i j : Nat) : State :=
  let va := x.roff + 4 * x.idx i j
  if o.skip || x.frz i j then (s.carryElem x i j).carry (x.mSrc + va) (x.mDst + va) 4
  else
    let t := s.stepNo x
    let gv := s.grad x i j
    let v := f32max eps1 (f32fma x.b2 (s.f32At (x.mSrc + va)) (f32mul (f32sub f32one x.b2) (f32mul gv gv)))
    (s.storeN (x.mDst + va) 4 v).stepElem o x (f32recip (oneMinusPow x.b1 t)) i j
      (f32mul gv (f32rsqrt (f32mul v (f32recip (oneMinusPow x.b2 t)))))

/-- Factored direction from the new statistics in the target set (R206). -/
def State.factoredDir (s : State) (x : HLayer) (i j : Nat) : Nat :=
  let k := f32mul (s.f32At (x.mDst + 8)) (oneMinusPow x.b2 (s.stepNo x))
  f32mul (f32mul (s.grad x i j) (f32rsqrt (s.f32At (x.mDst + x.roff + 4 * i)))) (f32rsqrt (f32div (s.f32At (x.mDst + x.coff + 4 * j)) k))

/-- Phase 2 of a matrix's element (R205, R206, R213, R219). -/
def State.matrixElem (s : State) (o : Order) (x : HLayer) (i j : Nat) : State :=
  if o.skip || x.frz i j then s.carryElem x i j
  else s.stepElem o x (f32recip (oneMinusPow x.b1 (s.stepNo x))) i j
    (if o.kind == .precond then s.precondDir x (s.factoredDir x) i j else s.factoredDir x i j)

/-- Bytes that a matrix leaves in its staging area are free (R203). -/
def State.stageBytes (s : State) (x : HLayer) : State :=
  (s.store (woStagebase x.w) ((List.range (32 * (x.rows + x.cols) + 4096)).map (Config.stageByte s.draws))).draw

/-- Elements of group k of the region. -/
def HLayer.groupEls (x : HLayer) (k : Nat) : List (Nat × Nat) :=
  (x.rowsOf (k / x.tileCols)).flatMap (fun i => (x.colsOf (k % x.tileCols)).map (fun j => (i, j)))

/-- Tiles of a stage (R208, R216): groups; row tiles, column tiles and the mean; blocks of both sides and tile-blocks; groups or runs
of 256 elements. -/
def HLayer.stageTiles (x : HLayer) (stage : Nat) : Nat := match stage with
  | 1 => rgGroups x.d
  | 2 => x.tileRows + x.tileCols + 1
  | 3 => x.nl + x.nrt + x.nl * x.nrt
  | _ => if x.vec then cdiv (x.rows * x.cols) 256 else rgGroups x.d

/-- The findings of phase 1 on group k: an update requested for frozen parameters, which may fault (R213, R214), and values that are
not finite (R215). -/
def State.judgeGroup (s : State) (o : Order) (x : HLayer) (k : Nat) : State :=
  let f := s.groupNow (groupKey x.region k)
  let els := x.groupEls k
  let req : Bool := f.gw ≠ 0 && els.any (fun e => x.frz e.1 e.2)
  if req && s.obj (okey 0x2790 1) = 1 then s.fault 7 0x0730 { slot := o.slot, ring := o.ring }
  else
    let was : Bool := (s.order? o.ring o.slot).any (fun q => bit q.events evFrozen)
    let s := if req then ((s.bump 64 (okey 0x2711 3) 1).eventIf (!was) 0x0711).orderEvent o.ring o.slot evFrozen else s
    let bad : Bool := gwNonfin f.gw || els.any (fun e => !(dec32 (s.grad x e.1 e.2)).finite)
    if bad then s.updOrder o.ring o.slot (fun q => { q with skip := true }) else s

/-- A row or column sum that is not finite (R215). -/
def State.sumsBad (s : State) (x : HLayer) : Bool :=
  (List.range x.rows).any (fun i => !(dec32 (x.rowSum (s.grad x) i).1).finite) ||
    (List.range x.cols).any (fun j => !(dec32 (x.colSum (s.grad x) j).1).finite)

/-- The combine (R206, R208, R209): a row tile, a column tile, or the mean of the new row statistics. -/
def State.combineTile (s : State) (x : HLayer) (q : Nat) : State :=
  let g := s.grad x
  let old (a : Nat) : Nat := s.f32At (x.mSrc + a)
  if q < x.tileRows then
    (x.rowsOf q).foldl (fun s i =>
      let r := x.rowSum g i
      s.storeN (x.mDst + x.roff + 4 * i) 4 (newStat x.b2 (old (x.roff + 4 * i)) r.1 r.2)) s
  else if q < x.tileRows + x.tileCols then
    (x.colsOf (q - x.tileRows)).foldl (fun s j =>
      let r := x.colSum g j
      s.storeN (x.mDst + x.coff + 4 * j) 4 (newStat x.b2 (old (x.coff + 4 * j)) r.1 r.2)) s
  else s.storeN (x.mDst + 8) 4 (x.rbar ((List.range x.rows).map (fun i => s.f32At (x.mDst + x.roff + 4 * i))))

/-- The precondition phase (R216): blocks of the left side, of the right side, tile-blocks; ROOTS and ROOTAT with the last. -/
def State.precondTile (s : State) (o : Order) (x : HLayer) (q : Nat) : State :=
  let gh (i j : Nat) : Nat := if x.frz i j then 0 else toBf (s.grad x i j)
  if q < x.nl then s.precondBlock o x x.left gh q
  else if q < x.nl + x.nrt then s.precondBlock o x x.right (fun j i => gh i j) (q - x.nl)
  else
    let k := q - x.nl - x.nrt
    let s := s.countBad o (s.direction x (k / x.nrt) (k % x.nrt)).bad
    if q + 1 < x.stageTiles 3 then s
    else
      let roots := s.rootsNow x
      let flags := (s.rd8 (x.mSrc + 4)).toNat
      let at_ := if roots then s.stepNo x else s.rdN (x.mSrc + 12) 4
      (s.store (x.mDst + 4) [BitVec.ofNat 8 (setBit flags 0 (roots || bit flags 0))]).storeN (x.mDst + 12) 4 at_

/-- A tile of phase 2; the header follows the last (R208, R215). -/
def State.lastTile (s : State) (o : Order) (x : HLayer) (q : Nat) : State :=
  let s := if x.vec then
      ((List.range 256).filter (fun k => decide (256 * q + k < x.rows * x.cols))).foldl (fun s k =>
        s.vectorElem o x ((256 * q + k) / x.cols) ((256 * q + k) % x.cols)) s
    else (x.groupEls q).foldl (fun s e => s.matrixElem o x e.1 e.2) s
  if q + 1 < x.stageTiles 4 then s
  else if o.skip then s.skipEnd o x
  else s.storeN x.mDst 4 (s.stepNo x)

/-- The work order's place in its phases, and what 2790/0A shows of it (R223). -/
def State.toStage (s : State) (o : Order) (stage tiles : Nat) (ran : Bool := false) : State :=
  let ph := if stage ≤ 2 then 1 else stage - 1
  s.updOrder o.ring o.slot (fun q => { q with stage := stage, tiles := tiles, progress := ph * 2 ^ 30 + tiles, ran := ran })

/-- Running pans of the work order change their demand with the phase (R371). -/
def State.setDemand (s : State) (o : Order) (d : Nat) : State :=
  { s with pans := FMap.mapv {} s.pans (fun _ x => if x.job = some (o.ring, o.slot) && x.state == .running then { x with demand := d } else x) }

/-- The stage after one that is complete: the combine, the precondition phase of a PRECOND, phase 2, which a step to be skipped goes
to at once (R208, R215, R216). -/
def Order.nextStage (o : Order) : Nat :=
  if o.stage = 1 then (if o.skip then 4 else 2) else if o.stage = 2 && o.kind == .precond then 3 else 4

/-- Before its first phase the slices write back the region (R222). A vector, which has phase 2 alone, has its groups judged here
(DEDUCED: R213 to R215 name phase 1; log entry 33). -/
def State.beginHarrow (s : State) (o : Order) (x : HLayer) : State :=
  let s := s.flushRegion x.region
  if s.windrowDown then s
  else if !x.vec then s.toStage o 1 0
  else
    let s := (List.range (rgGroups x.d)).foldl (fun s k => if (s.order? o.ring o.slot).any Order.live then s.judgeGroup o x k else s) s
    if (s.order? o.ring o.slot).any Order.live then s.toStage o 4 0 else s

/-- Tile q of a stage (R208, R216). -/
def State.harrowTile (s : State) (o : Order) (x : HLayer) : State := match o.stage with
  | 1 => (s.stageBytes x).judgeGroup o x o.tiles
  | 2 => s.combineTile x o.tiles
  | 3 => s.precondTile o x o.tiles
  | _ => s.lastTile o x o.tiles

/-- After a tile: the next tile, the next stage, or the end of the work. Phase 1 ends with the judgement of the sums (R215). -/
def State.harrowStep (s : State) (o : Order) (x : HLayer) : State :=
  let s := s.harrowTile o x
  match s.order? o.ring o.slot with
  | none => s
  | some q =>
    if !q.live then s
    else
      let k := o.tiles + 1
      if k < x.stageTiles o.stage then s.toStage o o.stage k
      else if o.stage = 4 then s.toStage o 4 k true
      else
        let skip : Bool := q.skip || (o.stage = 1 && s.sumsBad x)
        let next := { q with skip := skip }.nextStage
        ((s.updOrder o.ring o.slot (fun q => { q with skip := skip })).toStage o next 0).setDemand o { o with stage := next }.boilDemand

/-- The next step of an admitted UPDATE or PRECOND, on the pan that its tile is dealt to, pan q mod P (R208; blocks of the
precondition phase are dealt likewise, log entry 48). -/
def State.runHarrow (s : State) (o : Order) : State :=
  let x := s.hLayer o
  if !(s.panUp o (panAt (woMask o.raw) (o.tiles % pansOf (woMask o.raw)))) then s
  else if o.stage = 0 then s.beginHarrow o x
  else s.harrowStep o x

/-- A Harrow row: read, or the next step of its run. -/
def State.harrowRow (s : State) (k : Kind) (r : Nat) (ph : Phase) : Host.Outcome State Fault Refusal :=
  match ph with
  | .read => s.readAs r (fun q => q == k)
  | .run slot =>
    match s.toRun r slot (fun q => q == k) with
    | none => .next s
    | some o => .next (s.runHarrow o)

/-- UPDATE (R205 to R209). -/
def execUpdate (r : RingNo) (ph : Phase) (s : State) : Host.Outcome State Fault Refusal := s.harrowRow .update r.val ph
/-- PRECOND (R216 to R220). -/
def execPrecond (r : RingNo) (ph : Phase) (s : State) : Host.Outcome State Fault Refusal := s.harrowRow .precond r.val ph

end Sys2Proof.Machine
end

