-- ==== Sys2Proof/Machine/Qcal.lean ====
section
/-! DEFINITION. QCAL (R189 to R192): calibration of one quantised tensor in one step (log entry 48). The effective scale
of every class I unit is written at SADDR (log entry 55). -/

namespace Sys2Proof.Machine

/-- FP32 code of 2^-126. -/
def fMin : Nat := 0x00800000

/-- A source element, BF16 (R182). -/
def State.qSrc (s : State) (d i j : Nat) : Nat := s.rdN (qdSrcaddr d + tileOff (qdCols d) 2 i j) 2

/-- The flake columns of a descriptor. -/
def State.qFlakes (s : State) (d : Nat) : List Nat := (List.range (qdNflk d)).map (fun k => s.rdN (qdFlkladdr d + 4 * k) 4)

/-- Non-flake elements of a tensor, row by row. -/
def qElems (d : Nat) (fl : List Nat) : List (Nat × Nat) :=
  (List.range (qdRows d)).flatMap (fun i => ((List.range (qdCols d)).filter (fun j => !(fl.contains j))).map (fun j => (i, j)))

/-- Class I scale units. -/
def qUnits (d : Nat) : Nat := if qdGran d = 0 then 1 else if qdGran d = 1 then qdRows d else qdCols d

/-- Flat: the largest and smallest non-flake source values are equal (R190). A unit with no such value is not flat. -/
def flatVals (l : List Val) : Bool := match l with
  | [] => false
  | v :: t => Val.eq v v && t.all (fun x => Val.eq v x)

/-- A quantised element: code, clipped, and the factor g. -/
structure QElem where
  q : Nat
  clipped : Bool
  g : Val

/-- INT8 quantisation of y with zero point z; a NaN has no stated integer (log entry 20). -/
def qInt8 (z : Int) (y : Nat) : QElem :=
  match dec32 y with
  | .nan => ⟨Config.unstated 2 [y] % 256, Config.unstated 3 [y] % 2 = 1, .nan⟩
  | .inf neg => let q : Int := if neg then -128 else 127; ⟨(q % 256).toNat, true, Val.ofInt (q - z)⟩
  | v =>
    let n := v.toInt + z
    let q := max (-128) (min 127 n)
    ⟨(q % 256).toNat, n ≠ q, if n ≠ q then Val.ofInt (q - z) else Val.sub (Val.ofInt (q - z)) v⟩

/-- E4M3 or E5M2 quantisation. -/
def qFloat (fm : Nat) (inf : Bool) (y : Nat) : QElem :=
  let (c, o) := convert fm inf (dec32 y)
  let q := (ofmt fm).decode c
  let cl := o = 1 || o = 2
  ⟨c, cl, if cl then q else Val.sub q (dec32 y)⟩

/-- OFMT code of an element format. -/
def qOfmt (f : Nat) : Nat := if f = 0 ∨ f = 3 then 1 else 0

/-- floor (log2 x) of a magnitude. -/
def Val.floorLog2 : Val → Int
  | .fin _ m e => e + (m.log2 : Int)
  | _ => 0

/-- Class G: exponent of a group of values, none where one is not finite. -/
def groupExp (fmt : Nat) (l : List Val) : Option Int :=
  if l.any (fun v => !v.finite) then none
  else
    let a := l.foldl (fun (m : Val) v => if Val.lt m v.abs then v.abs else m) Val.zero
    let emax : Int := if fmt = 3 then 8 else if fmt = 4 then 15 else 0
    some (if a.isZero then -126 else max (-127) (min 127 (a.floorLog2 - emax)))

/-- Class G element. -/
def qGroup (fmt : Nat) (inf : Bool) (x : Option Int) (v : Val) : QElem :=
  match x with
  | none => ⟨0, false, .zero⟩
  | some x =>
    let y := Val.mul v (Val.pow2 (-x))
    if fmt = 5 then
      let n := (Val.mul y (Val.pow2 6)).toInt
      let q := max (-128) (min 127 n)
      ⟨(q % 256).toNat, n ≠ q, .zero⟩
    else
      let (c, o) := convert (qOfmt fmt) inf y
      ⟨c, o = 1 || o = 2, .zero⟩

/-- What QCAL forms: elements with their places, effective scales to write, and the counts. -/
structure QRun where
  els : List ((Nat × Nat) × QElem)
  scales : List (Nat × List Byte)
  flats : List Nat := []
  floored : Nat := 0
  nonfin : Nat := 0

/-- Zero point of unit u. -/
def State.qZero (s : State) (d u : Nat) : Int := if qdZp d then toSigned 8 (s.rd8 (qdZaddr d + u)).toNat else 0

/-- Class I. INF is reserved in a QCAL (R406), so that conversions saturate. -/
def State.qcalI (s : State) (d : Nat) (els : List (Nat × Nat)) : QRun :=
  let units := List.range (qUnits d)
  let flat := units.filter (fun u => flatVals ((els.filter (fun e => qdUnit d e.1 e.2 = u)).map (fun e => Fmt.bf16.decode (s.qSrc d e.1 e.2))))
  let sl (u : Nat) : Nat := s.rdN (qdLsaddr d + 4 * u) 4
  let low (u : Nat) : Bool := Val.lt (dec32 (sl u)) (dec32 fMin)
  let se (u : Nat) : Nat := if flat.contains u || low u then fMin else sl u
  let one (e : Nat × Nat) : QElem :=
    let u := qdUnit d e.1 e.2
    let z := s.qZero d u
    if flat.contains u then ⟨(if qdFormat d = 2 then (z % 256).toNat else 0), false, .zero⟩
    else
      let y := f32mul (rn32 (Fmt.bf16.decode (s.qSrc d e.1 e.2))) (f32recip (se u))
      if qdFormat d = 2 then qInt8 z y else qFloat (qOfmt (qdFormat d)) false y
  { els := els.map (fun e => (e, one e)), scales := units.map (fun u => (qdSaddr d + 4 * u, leBytes 4 (se u))), flats := flat,
    floored := (units.filter (fun u => low u && !(flat.contains u))).length }

/-- Scale groups of class G: row and column of the scale matrix. -/
def qGroups (d : Nat) : List (Nat × Nat) :=
  let (r, c) := if qdAxis d = 0 then (qdRows d, cdiv (qdCols d) (qdG d)) else (cdiv (qdRows d) (qdG d), qdCols d)
  (List.range r).flatMap (fun a => (List.range c).map (fun b => (a, b)))
def qGroupOf (d i j : Nat) : Nat × Nat := if qdAxis d = 0 then (i, j / qdG d) else (i / qdG d, j)

/-- Class G. -/
def State.qcalG (s : State) (d : Nat) (els : List (Nat × Nat)) : QRun :=
  let fmt := qdFormat d
  let v (e : Nat × Nat) : Val := Fmt.bf16.decode (s.qSrc d e.1 e.2)
  let ex (g : Nat × Nat) : Option Int := groupExp fmt ((els.filter (fun e => qGroupOf d e.1 e.2 = g)).map v)
  let cols := if qdAxis d = 0 then cdiv (qdCols d) (qdG d) else qdCols d
  { els := els.map (fun e => (e, qGroup fmt false (ex (qGroupOf d e.1 e.2)) (v e))),
    scales := (qGroups d).map (fun g => (qdSaddr d + tileOff cols 1 g.1 g.2, [match ex g with
      | some x => BitVec.ofNat 8 (x + 127).toNat
      | none => 0xFF])),
    nonfin := ((qGroups d).filter (fun g => (ex g).isNone)).length }

/-- The clip record (R191). -/
def clipRecord (d : Nat) (elems clipped : Nat) (cclip : Nat → Nat) (chan : Nat → Bool) (flats : List Nat) (t c set : Bool) : List Byte :=
  let share := if elems = 0 then Config.unstated 4 [] % 2 ^ 16 else min (clipped * 2 ^ 16 / elems) 0xFFFF
  let map := if qdClass d = 1 then flats.foldl (fun a u => a + 2 ^ u) 0 else 0
  let units := if qdClass d = 1 then qUnits d else 1
  leBytes 8 elems ++ leBytes 8 clipped ++ leBytes 4 (qdCols d) ++ leBytes 4 flats.length ++ leBytes 2 share ++
    leBytes 1 (b2n t + pack 1 1 (b2n c) + pack 2 1 (b2n set)) ++ leBytes 5 0 ++
    (List.range (qdCols d)).flatMap (fun j => leBytes 4 (min (cclip j) (2 ^ 30 - 1) + pack 31 1 (b2n (chan j)))) ++
    leBytes (64 * cdiv (cdiv units 8) 64) map

/-- The effect of a QCAL on descriptor number n. -/
def State.runQcal (s : State) (o : Order) (n : Nat) : State :=
  let d := s.qd n
  let fl := s.qFlakes d
  let els := qElems d fl
  let bad := qdClass d = 1 && (List.range (qUnits d)).any (fun u => !(dec32 (s.rdN (qdLsaddr d + 4 * u) 4)).finite)
  if bad then (s.event 0x0614).updOrder o.ring o.slot (fun o => { o with phase := .ended 2 0x0614 })
  else
    let r := if qdClass d = 1 then s.qcalI d els else s.qcalG d els
    let clipped := r.els.filter (fun e => e.2.clipped)
    let cclip (j : Nat) : Nat := (clipped.filter (fun e => e.1.2 = j)).length
    let chan (j : Nat) : Bool := qdThreshc d ≠ 0 && !(fl.contains j) && decide (qdThreshc d * qdRows d < cclip j * 2 ^ 16)
    let anyChan := (List.range (qdCols d)).any chan
    let tens := qdThresht d ≠ 0 && decide (qdThresht d * els.length < clipped.length * 2 ^ 16)
    let set := tens || anyChan
    -- elements, factors, scales
    let flk := (List.range (qdRows d)).flatMap (fun i => fl.map (fun j => (i, j)))
    let zq (e : Nat × Nat) : Nat := if qdFormat d = 2 then (s.qZero d (qdUnit d e.1 e.2) % 256).toNat else 0
    let q := r.els.map (fun e => (qdQaddr d + tileOff (qdCols d) 1 e.1.1 e.1.2, leBytes 1 e.2.q)) ++
      flk.map (fun e => (qdQaddr d + tileOff (qdCols d) 1 e.1 e.2, leBytes 1 (zq e)))
    let g := if !(qdLearn d) then []
      else r.els.map (fun e => (qdGaddr d + tileOff (qdCols d) 2 e.1.1 e.1.2, leBytes 2 (Fmt.bf16.rn e.2.g))) ++
        flk.map (fun e => (qdGaddr d + tileOff (qdCols d) 2 e.1 e.2, leBytes 2 0))
    let rec_ := [(qdClipaddr d, clipRecord d els.length clipped.length cclip chan r.flats tens anyChan set)]
    let s := (q ++ g ++ r.scales ++ rec_).foldl (fun s x => s.store x.1 x.2) s
    -- REWET, bit 12 of bytes 80-81
    let a := s.obj (okey 0x2610 1) + 128 * n + 81
    let s := s.store a [BitVec.ofNat 8 (setBit (s.rd8 a).toNat 4 set)]
    let s := if set then ((s.event 0x0610).bump32 (okey 0x2611 6)).orderEvent o.ring o.slot evRewetSet else s
    let s := if r.flats.isEmpty then s else (s.event 0x0611).orderEvent o.ring o.slot evFlat
    let s := (s.eventIf (r.floored ≠ 0) 0x0612).eventIf (r.nonfin ≠ 0) 0x0613
    let s := ((s.bump 64 (okey 0x2611 2) els.length).bump 64 (okey 0x2611 3) clipped.length).bump 64 (okey 0x2611 4) r.flats.length
    ((s.bump 64 (okey 0x2611 5) r.floored).bump 64 (okey 0x2611 0x0A) r.nonfin).markRan o.ring o.slot

/-- QCAL (R189). -/
def execQcal (r : RingNo) (ph : Phase) (s : State) : Host.Outcome State Fault Refusal :=
  match ph with
  | .read => s.readAs r.val (fun k => k == .qcal)
  | .run slot =>
    match s.toRun r.val slot (fun k => k == .qcal) with
    | none => .next s
    | some o => if s.pansUp o then .next (s.runQcal o (woQcalQd o.raw)) else .next s

end Sys2Proof.Machine
end

