-- ==== Sys2Proof/Machine/Usdo.lean ====
section
/-! DEFINITION. USDO messages on the bus and in the mailbox (R326 to R332): expedited and segmented transfers, the mailbox
buffers, frames of the node, bus errors and bus-off. -/

namespace Sys2Proof.Machine

/-- Data bytes of one upload segment: a 64-byte message less 8 bytes of header (PRESUMED, log entry 69). -/
def segmentBytes : Nat := 56

/-- What a message leads to: the state, the answer if there is one, whether it completes a transfer, and the object of a
write. -/
structure Served where
  state : State
  ans : Option Answer
  done : Bool := true
  obj : Nat × Nat := (0, 0)

/-- One message of a client to this node (R331, R332). -/
def State.serveMsg (s : State) (cl : Nat) (msg : Usdo) : Served :=
  match msg with
  | .upload i j => let (t, a) := (s.initiate cl).serveRead cl i j; { state := t, ans := some a }
  | .download i j d =>
    let (t, a) := (s.initWrite cl i j d).serveWrite cl i j d
    { state := t, ans := some a, obj := (i, j) }
  | .downloadInit i j n =>
    let s := s.initiate cl
    match s.gate cl i j true, objRow i j with
    | some c, _ => { state := s, ans := some (.abort c) }
    | none, none => { state := s, ans := some (.abort 0x06010002) }
    | none, some r =>
      if r.acc = .ro ∨ r.acc = .const then { state := s, ans := some (.abort 0x06010002) }
      else if n ≠ r.ty.size then { state := s, ans := some (.abort 0x06070010) }
      else { state := s.setXfer cl (some { index := i, sub := j, down := true, size := n }), ans := some .confirm, done := false }
  | .downloadSegment d last =>
    match s.xfer cl with
    | none => { state := s, ans := some (.abort 0x05040001) }
    | some x =>
      if !x.down then { state := s.setXfer cl none, ans := some (.abort 0x05040001) }
      else if x.size < (x.data ++ d).length then { state := s.setXfer cl none, ans := some (.abort 0x06070010) }
      else if last then
        let (t, a) := (s.setXfer cl none).serveWrite cl x.index x.sub (x.data ++ d)
        { state := t, ans := some a, obj := (x.index, x.sub) }
      else { state := s.setXfer cl (some { x with data := x.data ++ d }), ans := some .confirm, done := false }
  | .uploadInit i j =>
    let (t, a) := (s.initiate cl).serveRead cl i j
    match a with
    | .data b => { state := t.setXfer cl (some { index := i, sub := j, down := false, size := b.length, data := b }), ans := some .confirm, done := false }
    | _ => { state := t, ans := some a }
  | .uploadSegment =>
    match s.xfer cl with
    | none => { state := s, ans := some (.abort 0x05040001) }
    | some x =>
      if x.down then { state := s.setXfer cl none, ans := some (.abort 0x05040001) }
      else
        let rest := x.data.drop segmentBytes
        let t := s.setXfer cl (if rest.isEmpty then none else some { x with data := rest })
        { state := t, ans := some (.data (x.data.take segmentBytes)), done := rest.isEmpty }
  | .other => { state := s, ans := some (.abort 0x05040001) }

/-- Send the answer of a message; a transfer counts for its session when it completes (R336). -/
def Served.send (x : Served) (cl : Nat) : State :=
  match x.ans with
  | none => x.state
  | some a =>
    let s := if x.done then x.state.answer cl a else (x.state.emit (.answer cl a)).countAnswer cl
    s

/-- The reset begun by a write of 1F00/01 that a message carried: its surroundings are those of `ResetEnv`'s defaults (log
entry 70). -/
def Served.finish (x : Served) (cl : Nat) : State :=
  match x.ans with
  | some a => (x.send cl).thenReset x.obj.1 x.obj.2 a {}
  | none => x.state

/-- USDO_REQUEST (R328, R331): a message on the bus; one for another node, or broadcast, is not answered. -/
def execUsdoRequest (cl : ClientNo) (dest : Nat) (msg : Usdo) (s : State) : Host.Outcome State Fault Refusal :=
  if !(s.reachable cl.val) || dest ≠ s.ctl.nodeId then .next s
  else .next (((s.countRequest cl.val).serveMsg cl.val msg).finish cl.val)

-- the mailbox, R330
def State.mbx (s : State) (ch : Nat) : Mbx := FMap.get {} s.mgt.mbx ch
def State.setMbx (s : State) (ch : Nat) (x : Mbx) : State := s.setMgt { s.mgt with mbx := FMap.put {} s.mgt.mbx ch x }

/-- The control island takes the request of a channel and writes the response; broadcast, and a destination that is not this
node, have none. -/
def State.takeMail (s : State) (ch seq dest : Nat) (msg : Usdo) : State :=
  let cl := 128 + ch
  let s := s.countRequest cl
  if dest ≠ s.ctl.nodeId then s
  else
    let x := s.serveMsg cl msg
    match x.ans with
    | none => x.state
    | some a => ((x.send cl).setMbx ch { req := none, resp := some (seq, a) }).thenReset x.obj.1 x.obj.2 a {}

/-- MAILBOX_REQUEST (R330): a request written while the channel's response is FULL waits. A request buffer still FULL is not
written again. -/
def execMailboxRequest (ch : MbxNo) (seq dest : Nat) (msg : Usdo) (s : State) : Host.Outcome State Fault Refusal :=
  let b := s.mbx ch.val
  if !s.awake || b.req.isSome then .next s
  else if b.resp.isSome then .next (s.setMbx ch.val { b with req := some (seq, dest, msg) })
  else .next (s.takeMail ch.val seq dest msg)

/-- MAILBOX_RESPONSE_CLEARED (R330): the command processor clears FULL; a request that waits is served. -/
def execMailboxResponseCleared (ch : MbxNo) (s : State) : Host.Outcome State Fault Refusal :=
  let b := s.mbx ch.val
  let s := s.setMbx ch.val {}
  match b.req with
  | some (seq, dest, msg) => if s.awake then .next (s.takeMail ch.val seq dest msg) else .next s
  | none => .next s

/-- SEGMENT_TIMEOUT (R332). -/
def execSegmentTimeout (cl : ClientNo) (s : State) : Host.Outcome State Fault Refusal :=
  if s.awake && (s.xfer cl.val).isSome then .next (s.abortXfer cl.val 0x05040000) else .next s

/-- HEARTBEAT (R328): one period of 1100/03 has passed. -/
def execHeartbeat (s : State) : Host.Outcome State Fault Refusal :=
  if s.awake && s.obj (okey 0x1100 3) ≠ 0 && s.busUp then .next (s.sendFrame (0x700 + s.ctl.nodeId) [5]) else .next s

/-- BUS_OFF (R329): transfers on the bus are abandoned without a response; sessions stay open. -/
def execBusOff (s : State) : Host.Outcome State Fault Refusal :=
  if s.awake && s.obj (okey 0x1101 3) ≠ 2 then
    .next ((((s.dropBusXfers).setObj (okey 0x1101 3) 2).bump32 (okey 0x1101 4)).event 0x0A20)
  else .next s

/-- BUS_OFF_RECOVERY (R326): 128 occurrences of 11 recessive bits; the counters restart. -/
def execBusOffRecovery (s : State) : Host.Outcome State Fault Refusal :=
  if s.awake && s.obj (okey 0x1101 3) = 2 then
    .next (((s.setObj (okey 0x1101 3) 0).setObj (okey 0x1101 1) 0).setObj (okey 0x1101 2) 0)
  else .next s

/-- BUS_ERROR (R326, R340): the counters take their new values; error-passive from 128 on (PRESUMED, ISO 11898-1; log entry
71). -/
def execBusError (tec rec_ : Nat) (s : State) : Host.Outcome State Fault Refusal :=
  if s.awake && s.obj (okey 0x1101 3) ≠ 2 then
    let s := (s.setObj (okey 0x1101 1) (min tec 255)).setObj (okey 0x1101 2) (min rec_ 255)
    .next (s.setObj (okey 0x1101 3) (if 128 ≤ tec ∨ 128 ≤ rec_ then 1 else 0))
  else .next s

end Sys2Proof.Machine
end

