-- ==== Sys2Proof/Machine/Dispatch.lean ====
section
/-! DEFINITION. One arm per command, each a direct call of its meaning. -/

namespace Sys2Proof.Machine

/-- The effect of a command on everything but the queue. -/
def exec (i : Instr) (s : State) : Host.Outcome State Fault Refusal :=
  match i with
  | .doorbell r wrote => Sys2Proof.Machine.execDoorbell r wrote s
  | .ringPoll r => Sys2Proof.Machine.execRingPoll r s
  | .dx r => Sys2Proof.Machine.execDx r s
  | .dw r => Sys2Proof.Machine.execDw r s
  | .dualDraw r => Sys2Proof.Machine.execDualDraw r s
  | .product r ph => Sys2Proof.Machine.execProduct r ph s
  | .norm r ph => Sys2Proof.Machine.execNorm r ph s
  | .normb r ph => Sys2Proof.Machine.execNormb r ph s
  | .softmax r ph => Sys2Proof.Machine.execSoftmax r ph s
  | .softmaxb r ph => Sys2Proof.Machine.execSoftmaxb r ph s
  | .point r ph => Sys2Proof.Machine.execPoint r ph s
  | .pointb r ph => Sys2Proof.Machine.execPointb r ph s
  | .dwconv r ph => Sys2Proof.Machine.execDwconv r ph s
  | .dwconvb r ph => Sys2Proof.Machine.execDwconvb r ph s
  | .atts r ph => Sys2Proof.Machine.execAtts r ph s
  | .attf r ph => Sys2Proof.Machine.execAttf r ph s
  | .attb r ph => Sys2Proof.Machine.execAttb r ph s
  | .qcal r ph => Sys2Proof.Machine.execQcal r ph s
  | .update r ph => Sys2Proof.Machine.execUpdate r ph s
  | .precond r ph => Sys2Proof.Machine.execPrecond r ph s
  | .fence r => Sys2Proof.Machine.execFence r s
  | .versionSet r ph => Sys2Proof.Machine.execVersionSet r ph s
  | .versionDrop r ph => Sys2Proof.Machine.execVersionDrop r ph s
  | .versionPublish r => Sys2Proof.Machine.execVersionPublish r s
  | .stream r ph => Sys2Proof.Machine.execStream r ph s
  | .admission => Sys2Proof.Machine.execAdmission s
  | .preEmption r => Sys2Proof.Machine.execPreEmption r s
  | .chainLink r slot => Sys2Proof.Machine.execChainLink r slot s
  | .workOrderComplete r slot => Sys2Proof.Machine.execWorkOrderComplete r slot s
  | .ringEnable cl r => Sys2Proof.Machine.execRingEnable cl r s
  | .ringDisable cl r => Sys2Proof.Machine.execRingDisable cl r s
  | .ringResume cl r => Sys2Proof.Machine.execRingResume cl r s
  | .abortSlot cl r slot => Sys2Proof.Machine.execAbortSlot cl r slot s
  | .cancel cl n => Sys2Proof.Machine.execCancel cl n s
  | .prepare cl n => Sys2Proof.Machine.execPrepare cl n s
  | .enable cl n => Sys2Proof.Machine.execEnable cl n s
  | .disable cl n => Sys2Proof.Machine.execDisable cl n s
  | .shutDown cl n => Sys2Proof.Machine.execShutDown cl n s
  | .acknowledge cl n => Sys2Proof.Machine.execAcknowledge cl n s
  | .startComplete n ok => Sys2Proof.Machine.execStartComplete n ok s
  | .stopComplete n => Sys2Proof.Machine.execStopComplete n s
  | .stoppingLimit n => Sys2Proof.Machine.execStoppingLimit n s
  | .fullReset cl code env => Sys2Proof.Machine.execFullReset cl code env s
  | .pkgRst env => Sys2Proof.Machine.execPkgRst env s
  | .powerOn env => Sys2Proof.Machine.execPowerOn env s
  | .usdoRequest cl dest msg => Sys2Proof.Machine.execUsdoRequest cl dest msg s
  | .mailboxRequest ch seq dest msg => Sys2Proof.Machine.execMailboxRequest ch seq dest msg s
  | .segmentTimeout cl => Sys2Proof.Machine.execSegmentTimeout cl s
  | .registerWrite cl index sub data => Sys2Proof.Machine.execRegisterWrite cl index sub data s
  | .heartbeat => Sys2Proof.Machine.execHeartbeat s
  | .heartbeatTime cl ms => Sys2Proof.Machine.execHeartbeatTime cl ms s
  | .busOff => Sys2Proof.Machine.execBusOff s
  | .busOffRecovery => Sys2Proof.Machine.execBusOffRecovery s
  | .open cl priv => Sys2Proof.Machine.execOpen cl priv s
  | .response cl mac => Sys2Proof.Machine.execResponse cl mac s
  | .lockoutExpiry cl => Sys2Proof.Machine.execLockoutExpiry cl s
  | .challengeExpiry cl => Sys2Proof.Machine.execChallengeExpiry cl s
  | .close cl => Sys2Proof.Machine.execClose cl s
  | .idleTimeout sess => Sys2Proof.Machine.execIdleTimeout sess s
  | .closeSession cl sess => Sys2Proof.Machine.execCloseSession cl sess s
  | .keyWrite cl priv data => Sys2Proof.Machine.execKeyWrite cl priv data s
  | .capture cl => Sys2Proof.Machine.execCapture cl s
  | .commit cl => Sys2Proof.Machine.execCommit cl s
  | .commitStored failedStep => Sys2Proof.Machine.execCommitStored failedStep s
  | .erase cl => Sys2Proof.Machine.execErase cl s
  | .quiesce cl => Sys2Proof.Machine.execQuiesce cl s
  | .quiesced => Sys2Proof.Machine.execQuiesced s
  | .release cl => Sys2Proof.Machine.execRelease cl s
  | .snapshotExpired => Sys2Proof.Machine.execSnapshotExpired s
  | .regionRestore cl region => Sys2Proof.Machine.execRegionRestore cl region s
  | .stockpilePart cl units => Sys2Proof.Machine.execStockpilePart cl units s
  | .testStop cl mask => Sys2Proof.Machine.execTestStop cl mask s
  | .testResume cl mask => Sys2Proof.Machine.execTestResume cl mask s
  | .wlbInvalidate cl mask => Sys2Proof.Machine.execWlbInvalidate cl mask s
  | .faultLogAcknowledge cl => Sys2Proof.Machine.execFaultLogAcknowledge cl s
  | .injectArm cl => Sys2Proof.Machine.execInjectArm cl s
  | .testEmergency cl => Sys2Proof.Machine.execTestEmergency cl s
  | .streamResume cl l => Sys2Proof.Machine.execStreamResume cl l s
  | .dmaStart cl c => Sys2Proof.Machine.execDmaStart cl c s
  | .dmaAbort cl c => Sys2Proof.Machine.execDmaAbort cl c s
  | .dmaClear cl c => Sys2Proof.Machine.execDmaClear cl c s
  | .descriptorRead c => Sys2Proof.Machine.execDescriptorRead c s
  | .burst c => Sys2Proof.Machine.execBurst c s
  | .descriptorComplete c => Sys2Proof.Machine.execDescriptorComplete c s
  | .abortComplete c => Sys2Proof.Machine.execAbortComplete c s
  | .rakeFetch l => Sys2Proof.Machine.execRakeFetch l s
  | .portGrant h write => Sys2Proof.Machine.execPortGrant h write s
  | .urgent h q => Sys2Proof.Machine.execUrgent h q s
  | .fabricReadResponse h tag poisoned => Sys2Proof.Machine.execFabricReadResponse h tag poisoned s
  | .oddEpochWait l => Sys2Proof.Machine.execOddEpochWait l s
  | .writeAcknowledged h tag => Sys2Proof.Machine.execWriteAcknowledged h tag s
  | .translationResponse half page x => Sys2Proof.Machine.execTranslationResponse half page x s
  | .pageInvalidation half page => Sys2Proof.Machine.execPageInvalidation half page s
  | .handlePop l release => Sys2Proof.Machine.execHandlePop l release s
  | .gatePop l => Sys2Proof.Machine.execGatePop l s
  | .stillwater h => Sys2Proof.Machine.execStillwater h s
  | .stationaryLoad p a => Sys2Proof.Machine.execStationaryLoad p a s
  | .rippleLoad p => Sys2Proof.Machine.execRippleLoad p s
  | .beat p a cell => Sys2Proof.Machine.execBeat p a cell s
  | .chunkHandoff p a row => Sys2Proof.Machine.execChunkHandoff p a row s
  | .promotionEvent r slot group => Sys2Proof.Machine.execPromotionEvent r slot group s
  | .stopRequest p cause => Sys2Proof.Machine.execStopRequest p cause s
  | .crustSave p => Sys2Proof.Machine.execCrustSave p s
  | .crustResume p parityError => Sys2Proof.Machine.execCrustResume p parityError s
  | .park p holds offset again => Sys2Proof.Machine.execPark p holds offset again s
  | .stockpileArrival header data => Sys2Proof.Machine.execStockpileArrival header data s
  | .arrivalWritten => Sys2Proof.Machine.execArrivalWritten s
  | .spillComplete entry => Sys2Proof.Machine.execSpillComplete entry s
  | .blockArrival header payload rider => Sys2Proof.Machine.execBlockArrival header payload rider s
  | .blockSend block => Sys2Proof.Machine.execBlockSend block s
  | .slotCredit slot => Sys2Proof.Machine.execSlotCredit slot s
  | .riderReturn header rider => Sys2Proof.Machine.execRiderReturn header rider s
  | .remoteTimeout => Sys2Proof.Machine.execRemoteTimeout s
  | .walk r slot block genAfter => Sys2Proof.Machine.execWalk r slot block genAfter s
  | .oddGenerationWait r slot block => Sys2Proof.Machine.execOddGenerationWait r slot block s
  | .railCurrentSample half milliamps temps => Sys2Proof.Machine.execRailCurrentSample half milliamps temps s
  | .railAlert => Sys2Proof.Machine.execRailAlert s
  | .railEmg => Sys2Proof.Machine.execRailEmg s
  | .emergencyEnd => Sys2Proof.Machine.execEmergencyEnd s
  | .throttleStep => Sys2Proof.Machine.execThrottleStep s
  | .throttleRelease => Sys2Proof.Machine.execThrottleRelease s
  | .clockStepChange h => Sys2Proof.Machine.execClockStepChange h s
  | .levelGrant half ns => Sys2Proof.Machine.execLevelGrant half ns s
  | .refclkLost => Sys2Proof.Machine.execRefclkLost s
  | .hubHeartbeat => Sys2Proof.Machine.execHubHeartbeat s
  | .autonomousMode h => Sys2Proof.Machine.execAutonomousMode h s
  | .autonomousRamp h => Sys2Proof.Machine.execAutonomousRamp h s
  | .sequencerWatchdog => Sys2Proof.Machine.execSequencerWatchdog s
  | .flitReceived m toEast words => Sys2Proof.Machine.execFlitReceived m toEast words s
  | .replayTimeout m toEast => Sys2Proof.Machine.execReplayTimeout m toEast s
  | .moduleLeftActive m => Sys2Proof.Machine.execModuleLeftActive m s
  | .trainingAttemptTimeout => Sys2Proof.Machine.execTrainingAttemptTimeout s
  | .islandLinkWord k parityOk => Sys2Proof.Machine.execIslandLinkWord k parityOk s
  | .mailboxResponseCleared ch => Sys2Proof.Machine.execMailboxResponseCleared ch s
  | .write1ToClear cl index sub mask => Sys2Proof.Machine.execWrite1ToClear cl index sub mask s
  | .busError tec rec => Sys2Proof.Machine.execBusError tec rec s
  | .refclkRestored => Sys2Proof.Machine.execRefclkRestored s
  | .railAlertDeasserted => Sys2Proof.Machine.execRailAlertDeasserted s
  | .bankErased ok => Sys2Proof.Machine.execBankErased ok s
  | .powerLost => Sys2Proof.Machine.execPowerLost s

end Sys2Proof.Machine
end

