-- ==== Sys2Proof/Safety.lean ====
section
/-! DEFINITION. What every state of a run satisfies, in the terms the claims use. -/

namespace Sys2Proof.Machine

/-- Package memory in canonical form: addresses rise strictly and no listed byte is the 0 an unlisted one reads as. -/
abbrev Memory.wf (m : List Host.Cell) : Bool := FMap.wf (0 : Byte) m

/-- A permanent function is Running, or Wedged (R319), once the reset has brought it up: a GPE held after phase 1 has
started no function (R380). -/
def State.permanentsUp (s : State) : Prop :=
  s.ctl.heldAfterPhase1 = false → ∀ n, isPermanent n = true → (s.fn n).state = .running ∨ (s.fn n).state = .wedged

/-- The fault log holds the last 32 entries (R396). -/
def State.logShort (s : State) : Prop := s.flt.log.length ≤ 32

/-- The invariant of every step: canonical package memory; A, B and E Running or Wedged; at most 32 log entries. -/
def Inv (s : State) : Prop := Memory.wf s.mem = true ∧ s.permanentsUp ∧ s.logShort

/-- A client is served: the endpoint can be reached, and the client has a session of privilege p or more (R307, R333). -/
def State.serves (s : State) (cl p : Nat) : Prop :=
  s.reachable cl = true ∧ ∃ n x, s.sessionOf cl = some (n, x) ∧ p ≤ x.priv

/-- The last thing that the block sent is this answer to the client. -/
def State.said (t : State) (cl : Nat) (a : Answer) : Prop := t.out.head? = some (.answer cl a)

-- function control, as the tables of R313 to R315 and R318 have it
/-- An entry of the table of R314. -/
inductive ControlCell where
  | refused | noEffect | withdraw | pends
  | goes (st tgt : FnState)
deriving DecidableEq, Repr

/-- The table of R314: what a command of the control word does in a state. -/
def controlCell : FnState → Nat → ControlCell
  | .off, 1 => .goes .starting .ready
  | .off, 2 => .goes .starting .running
  | .off, 3 => .noEffect
  | .off, 4 => .noEffect
  | .ready, 1 => .noEffect
  | .ready, 2 => .goes .running .running
  | .ready, 3 => .noEffect
  | .ready, 4 => .goes .off .off
  | .running, 2 => .noEffect
  | .running, 3 => .goes .stopping .ready
  | .running, 4 => .goes .stopping .off
  | .faulted, 4 => .goes .off .off
  | .faulted, 5 => .goes .ready .ready
  | .starting, 0 => .withdraw
  | .stopping, 0 => .withdraw
  | .starting, 1 => .pends
  | .starting, 2 => .pends
  | .starting, 3 => .pends
  | .starting, 4 => .pends
  | .stopping, 1 => .pends
  | .stopping, 2 => .pends
  | .stopping, 3 => .pends
  | .stopping, 4 => .pends
  | _, _ => .refused

/-- The command that a code of R313 stands for. -/
def controlCommand (cl : ClientNo) (n : FnNo) : Nat → Instr
  | 0 => .cancel cl n
  | 1 => .prepare cl n
  | 2 => .enable cl n
  | 3 => .disable cl n
  | 4 => .shutDown cl n
  | _ => .acknowledge cl n

/-- The abort code of a refused cell (R322). -/
def cellAbort (st : FnState) (code : Nat) : Nat :=
  if st = .wedged then 0x0F000007 else if code = 0 then 0x0F000004 else 0x08000022

/-- What R318 refuses a command for, where R314 would let it change the state or become pending. -/
def State.relies (s : State) (n code : Nat) : Option Nat :=
  if code = 2 && !(s.prereqOk n) then some 0x0F000005
  else if (code = 3 || code = 4) && s.dependents n then some 0x0F000006
  else none

-- the rows of the work-order table
/-- The ring and the kind of work order of a row that reads one (R281, R285). -/
def readRow : Instr → Option (RingNo × Kind)
  | .dx r => some (r, .dx)
  | .dw r => some (r, .dw)
  | .dualDraw r => some (r, .dual)
  | .product r .read => some (r, .boil 0)
  | .norm r .read => some (r, .boil 1)
  | .normb r .read => some (r, .boil 2)
  | .softmax r .read => some (r, .boil 3)
  | .softmaxb r .read => some (r, .boil 4)
  | .point r .read => some (r, .boil 5)
  | .pointb r .read => some (r, .boil 6)
  | .dwconv r .read => some (r, .boil 7)
  | .dwconvb r .read => some (r, .boil 8)
  | .atts r .read => some (r, .boil 9)
  | .attf r .read => some (r, .boil 10)
  | .attb r .read => some (r, .attb)
  | .qcal r .read => some (r, .qcal)
  | .update r .read => some (r, .update)
  | .precond r .read => some (r, .precond)
  | .fence r => some (r, .fence)
  | .versionSet r .read => some (r, .vset)
  | .versionDrop r .read => some (r, .vdrop)
  | .versionPublish r => some (r, .vpub)
  | .stream r .read => some (r, .stream)
  | _ => none

/-- The state in which the checks of a work order at TAIL are made: TAIL has advanced, and the descriptors that it names have
been read (R281, R286). -/
def State.prepared (s : State) (r : Nat) (k : Kind) : State :=
  let w := s.tailWord r
  let o := s.takeUp r k w
  (((s.advance r).readQds (namedQds k w)).noteRecord k w o).readRegions o

-- frames
/-- Commands that store nothing into package memory: a write of the GPE arrives with a later command (R248). -/
def storesNothing : Instr → Bool
  | .ringPoll _ => true
  | .segmentTimeout _ => true
  | .heartbeat => true
  | .busOff => true
  | .busOffRecovery => true
  | .lockoutExpiry _ => true
  | .challengeExpiry _ => true
  | .idleTimeout _ => true
  | .commitStored _ => true
  | .quiesced => true
  | .rakeFetch _ => true
  | .urgent _ _ => true
  | .oddEpochWait _ => true
  | .pageInvalidation _ _ => true
  | .handlePop _ _ => true
  | .gatePop _ => true
  | .stillwater _ => true
  | .stationaryLoad _ _ => true
  | .rippleLoad _ => true
  | .beat _ _ _ => true
  | .chunkHandoff _ _ _ => true
  | .promotionEvent _ _ _ => true
  | .stopRequest _ _ => true
  | .crustSave _ => true
  | .crustResume _ _ => true
  | .park _ _ _ _ => true
  | .slotCredit _ => true
  | .remoteTimeout => true
  | .oddGenerationWait _ _ _ => true
  | .railCurrentSample _ _ _ => true
  | .railAlert => true
  | .railEmg => true
  | .emergencyEnd => true
  | .throttleStep => true
  | .throttleRelease => true
  | .clockStepChange _ => true
  | .refclkLost => true
  | .hubHeartbeat => true
  | .autonomousMode _ => true
  | .autonomousRamp _ => true
  | .sequencerWatchdog => true
  | .flitReceived _ _ _ => true
  | .replayTimeout _ _ => true
  | .moduleLeftActive _ => true
  | .trainingAttemptTimeout => true
  | .islandLinkWord _ _ => true
  | .busError _ _ => true
  | .refclkRestored => true
  | .railAlertDeasserted => true
  | .bankErased _ => true
  | _ => false

/-- Commands that neither control a function nor raise a fault of one (R313, R316). -/
def leavesFunctions : Instr → Bool
  | .doorbell _ _ => true
  | .ringPoll _ => true
  | .dx _ => true
  | .dw _ => true
  | .dualDraw _ => true
  | .atts _ _ => true
  | .attf _ _ => true
  | .attb _ _ => true
  | .qcal _ _ => true
  | .fence _ => true
  | .versionSet _ _ => true
  | .versionDrop _ _ => true
  | .versionPublish _ => true
  | .stream _ _ => true
  | .admission => true
  | .preEmption _ => true
  | .segmentTimeout _ => true
  | .heartbeat => true
  | .busOff => true
  | .busOffRecovery => true
  | .lockoutExpiry _ => true
  | .challengeExpiry _ => true
  | .idleTimeout _ => true
  | .commitStored _ => true
  | .snapshotExpired => true
  | .descriptorRead _ => true
  | .burst _ => true
  | .descriptorComplete _ => true
  | .abortComplete _ => true
  | .portGrant _ _ => true
  | .urgent _ _ => true
  | .writeAcknowledged _ _ => true
  | .translationResponse _ _ _ => true
  | .pageInvalidation _ _ => true
  | .gatePop _ => true
  | .stationaryLoad _ _ => true
  | .rippleLoad _ => true
  | .chunkHandoff _ _ _ => true
  | .stopRequest _ _ => true
  | .crustSave _ => true
  | .stockpileArrival _ _ => true
  | .arrivalWritten => true
  | .spillComplete _ => true
  | .blockSend _ => true
  | .slotCredit _ => true
  | .railAlert => true
  | .railEmg => true
  | .emergencyEnd => true
  | .throttleStep => true
  | .throttleRelease => true
  | .clockStepChange _ => true
  | .levelGrant _ _ => true
  | .hubHeartbeat => true
  | .autonomousMode _ => true
  | .autonomousRamp _ => true
  | .sequencerWatchdog => true
  | .busError _ _ => true
  | .refclkRestored => true
  | .railAlertDeasserted => true
  | .bankErased _ => true
  | _ => false

end Sys2Proof.Machine
end

