-- ==== Sys2Proof/Certificates/Slice0/Obligations.lean ====
section
/-! DEFINITION. The statements about the model, each with the rules of the spec that it follows. -/

set_option linter.unusedVariables false

open Sys2Proof Sys2Proof.Machine

/-- A step carries out the command at the front of the queue; on an empty queue a microsecond passes. For every command c
and every state s, a step of s with c put at the front of its queue is exec of c at s: the command taken from the front
is carried out on the state with the rest of the queue. The queue is the model's own form for commands that come from
outside. With no command waiting, a step answers the same state one microsecond later, which is the model's own choice
(log entry 3). (00_scope.md, INDEX.md) -/
def Obligations.StepTakesFront : Prop :=
  (∀ (c : Instr) (s : State), step { s with pending := c :: s.pending } = exec c s) ∧
  (∀ s : State, s.pending = [] → step s = .next { s with timeUs := s.timeUs + 1 })

/-- What the state after reset holds. After reset nothing waits; functions 1 to 9, C and D rest in Ready and the permanent
functions A, B and E are Running with no fault code and no pending command; every ring is Disabled with its counts 0,
every channel Idle, every pan Idle at level 0; no session is open; the fault log is empty, the error register is 0 and
the three interrupt lines are low; the count of resets is 0. That package memory then reads 0 everywhere is the model's
choice (log entry 2). (12_object_dictionary.md (R310, R319, R321), 11_work_orders.md (R282), 10_dma_channels.md (R271),
03_array_dataflow.md (R91), 16_faults_and_reliability.md (R396, R397)) -/
def Obligations.ResetState : Prop :=
  State.reset.pending = [] ∧
  (∀ n, 1 ≤ n → n ≤ 14 →
    State.reset.fn n = (if isPermanent n then { state := .running, target := .running } else { state := .ready, target := .ready })) ∧
  (∀ r, State.reset.ring r = { state := .disabled, head := 0, tail := 0, chead := 0 }) ∧
  (∀ c, (State.reset.chan c).state = .idle) ∧
  (∀ p, (State.reset.pan p).state = .idle ∧ (State.reset.pan p).level = 0) ∧
  (∀ cl, State.reset.sessionOf cl = none) ∧
  State.reset.flt.log = [] ∧ State.reset.errorRegister = 0 ∧
  State.reset.errInt = false ∧ State.reset.cplInt = false ∧ State.reset.dmaInt = false ∧
  State.reset.obj (okey 0x1F00 2) = 0 ∧
  (∀ a, State.reset.rd8 a = 0)

/-- The invariant holds at reset. At reset the package memory is in its canonical form, the permanent functions A, B and E
are Running, and the fault log holds at most 32 entries. (12_object_dictionary.md (R319), 16_faults_and_reliability.md
(R396)) -/
def Obligations.InvAtReset : Prop :=
  Inv State.reset

/-- Every step keeps the invariant, and takes one command from the queue. From every state with canonical package memory,
the permanent functions A, B and E Running or Wedged (unless the GPE is held after phase 1 of a reset), and at most 32
entries in the fault log, a step that answers a next state answers one with the same properties; and the queue of that
state is the old queue without its front. (12_object_dictionary.md (R319), 16_faults_and_reliability.md (R396)) -/
def Obligations.InvStep : Prop :=
  ∀ s t : State, Inv s → step s = .next t → Inv t ∧ t.pending = s.pending.tail

/-- No command stops the machine. Every fault and every refusal of the GPE is state or an answer to a client: exec answers a
next state for every command at every state, never a fault or a refusal of the model. (16_faults_and_reliability.md
(R392, R393), 12_object_dictionary.md (R316, R322)) -/
def Obligations.EveryCommandAnswers : Prop :=
  ∀ (c : Instr) (s : State), ∃ t, exec c s = .next t

/-- The six commands of the control word do what the table of R314 says. For every function that is not permanent, every
client with a session of Operator privilege or more, and a snapshot that is not Quiesced: CANCEL, PREPARE, ENABLE,
DISABLE, SHUT_DOWN and ACKNOWLEDGE answer a next state. A refused cell of the table answers an abort (0x0F000007 when
Wedged, 0x0F000004 for Cancel, else 0x08000022) and leaves the record as it is; a cell without effect is confirmed and
leaves it; Cancel withdraws a pending command or is answered 0x0F000004; a command that becomes pending is shown in
PEND, the same code again has no further effect, another is answered 0x0F000003; a move enters its state with its target
at once, with fault code 0. R318 refuses Enable with 0x0F000005 and Disable and Shut down with 0x0F000006. Acknowledge
with the cause still present ends in Faulted with the code of the cause (R324). The records of all other functions stay
as they are. (12_object_dictionary.md (R313, R314, R315, R318, R322)) -/
def Obligations.ControlTable : Prop :=
  ∀ (cl : ClientNo) (n : FnNo) (code : Nat) (s : State), 1 ≤ n.val → n.val ≤ 14 → isPermanent n.val = false → code ≤ 5 →
    s.serves cl.val 1 → s.cfg.snap.state ≠ 2 →
    ∃ t, exec (controlCommand cl n code) s = .next t ∧ (∀ m, m ≠ n.val → t.fn m = s.fn m) ∧
      match controlCell (s.fn n.val).state code with
      | .refused => t.said cl.val (.abort (cellAbort (s.fn n.val).state code)) ∧ t.fn n.val = s.fn n.val
      | .noEffect => t.said cl.val .confirm ∧ t.fn n.val = s.fn n.val
      | .withdraw =>
        if (s.fn n.val).pend = 0 then t.said cl.val (.abort 0x0F000004) ∧ t.fn n.val = s.fn n.val
        else t.said cl.val .confirm ∧ t.fn n.val = { s.fn n.val with pend := 0 }
      | .pends =>
        if (s.fn n.val).pend = code then t.said cl.val .confirm ∧ t.fn n.val = s.fn n.val
        else if (s.fn n.val).pend ≠ 0 then t.said cl.val (.abort 0x0F000003) ∧ t.fn n.val = s.fn n.val
        else match s.relies n.val code with
          | some c => t.said cl.val (.abort c) ∧ t.fn n.val = s.fn n.val
          | none => t.said cl.val .confirm ∧ t.fn n.val = { s.fn n.val with pend := code }
      | .goes st tgt => match s.relies n.val code with
        | some c => t.said cl.val (.abort c) ∧ t.fn n.val = s.fn n.val
        | none => t.said cl.val .confirm ∧
          (if code = 5 ∧ s.cause n.val ≠ 0 then
            (t.fn n.val).state = .faulted ∧ (t.fn n.val).fcode = s.cause n.val ∧ t.obj (fnKey n.val 4) = s.cause n.val
          else t.fn n.val = { s.fn n.val with state := st, target := tgt, fcode := 0, entered := s.timeUs })

/-- Functions A, B and E are permanent. Functions A, B and E: a full reset that brings the functions up (by PKG_RST or
power-on) leaves them Running; no command takes them out of Running but into Wedged (a reset that fails its self-tests
twice and holds the GPE before any function is started apart); Prepare, Enable, Disable and Shut down are confirmed and
change no function record; Cancel and Acknowledge are refused; the PERM bit of their state word is 1. (R319) -/
def Obligations.PermanentFunctions : Prop :=
  ∀ n : FnNo, isPermanent n.val = true →
    (∀ s : State, bit (s.stateWord n.val) 8 = true) ∧
    (∀ (env : ResetEnv) (s t : State), exec (.pkgRst env) s = .next t ∨ exec (.powerOn env) s = .next t →
      t.ctl.heldAfterPhase1 = false → (t.fn n.val).state = .running) ∧
    (∀ (c : Instr) (s t : State), Inv s → s.ctl.heldAfterPhase1 = false → exec c s = .next t → t.ctl.heldAfterPhase1 = false →
      (t.fn n.val).state = .running ∨ (t.fn n.val).state = .wedged) ∧
    (∀ (cl : ClientNo) (s : State), s.serves cl.val 1 → s.cfg.snap.state ≠ 2 → (s.fn n.val).state ≠ .wedged →
      (∀ code, 1 ≤ code → code ≤ 4 → ∃ t, exec (controlCommand cl n code) s = .next t ∧ t.said cl.val .confirm ∧ t.fns = s.fns) ∧
      (∃ t c, exec (.cancel cl n) s = .next t ∧ t.said cl.val (.abort c) ∧ t.fns = s.fns) ∧
      (∃ t c, exec (.acknowledge cl n) s = .next t ∧ t.said cl.val (.abort c) ∧ t.fns = s.fns))

/-- CANCEL, PREPARE, ENABLE, DISABLE, SHUT_DOWN and ACKNOWLEDGE complete with the effect of R314. For every function that is
not permanent, every client with a session of Operator privilege or more, outside Quiesced, each command answers a next
state, confirmed, in which the records of the other functions are as before, and: CANCEL of a function that is Starting
or Stopping with a pending command withdraws it; PREPARE of an Off function makes it Starting with TARGET Ready; ENABLE,
with the prerequisites up, makes an Off function Starting with TARGET Running and a Ready one Running; DISABLE of a
Running function on which no other relies makes it Stopping with TARGET Ready; SHUT_DOWN, none relying on it, makes a
Ready or Faulted function Off and a Running one Stopping with TARGET Off; ACKNOWLEDGE of a Faulted function whose cause
does not persist makes it Ready. (12_object_dictionary.md (R313, R314, R315, R317, R318, R324)) -/
def Obligations.FunctionCommandsComplete : Prop :=
  ∀ (cl : ClientNo) (n : FnNo) (s : State), 1 ≤ n.val → n.val ≤ 14 → isPermanent n.val = false → s.serves cl.val 1 → s.cfg.snap.state ≠ 2 →
    let done (t : State) (x : FnRec) : Prop := t.said cl.val .confirm ∧ t.fn n.val = x ∧ ∀ m, m ≠ n.val → t.fn m = s.fn m
    let r := s.fn n.val
    let goes (st tgt : FnState) : FnRec := { r with state := st, target := tgt, fcode := 0, entered := s.timeUs }
    (r.state = .starting ∨ r.state = .stopping → r.pend ≠ 0 → ∃ t, exec (.cancel cl n) s = .next t ∧ done t { r with pend := 0 }) ∧
    (r.state = .off → ∃ t, exec (.prepare cl n) s = .next t ∧ done t (goes .starting .ready)) ∧
    (r.state = .off → s.prereqOk n.val = true → ∃ t, exec (.enable cl n) s = .next t ∧ done t (goes .starting .running)) ∧
    (r.state = .ready → s.prereqOk n.val = true → ∃ t, exec (.enable cl n) s = .next t ∧ done t (goes .running .running)) ∧
    (r.state = .running → s.dependents n.val = false → ∃ t, exec (.disable cl n) s = .next t ∧ done t (goes .stopping .ready)) ∧
    (r.state = .running → s.dependents n.val = false → ∃ t, exec (.shutDown cl n) s = .next t ∧ done t (goes .stopping .off)) ∧
    (r.state = .ready ∨ r.state = .faulted → s.dependents n.val = false → ∃ t, exec (.shutDown cl n) s = .next t ∧ done t (goes .off .off)) ∧
    (r.state = .faulted → s.cause n.val = 0 → ∃ t, exec (.acknowledge cl n) s = .next t ∧ done t (goes .ready .ready))

/-- START_COMPLETE and STOP_COMPLETE enter the target state. With the control island running, and outside Quiesced,
START_COMPLETE of a Starting function, its work done and no cause persisting, answers a next state in which the function
is in its TARGET with fault code 0, when nothing is pending, or Running, when an Enable is pending for a target of Ready
and the prerequisites are up. STOP_COMPLETE of a Stopping function whose condition of R317 is met, with nothing pending,
answers a next state in which the function is in its TARGET; function C, while groups are resident and none holds a
parity error, first writes every group back and frees its frames, and reaches its TARGET once no write-back is on its
way. The records of the other functions stay as they are. (12_object_dictionary.md (R315, R316, R317)) -/
def Obligations.StartAndStopComplete : Prop :=
  ∀ (n : FnNo) (s : State), s.awake = true → s.cfg.snap.state ≠ 2 →
    let goes (st : FnState) : FnRec := { s.fn n.val with state := st, target := st, pend := 0, fcode := 0, entered := s.timeUs }
    ((s.fn n.val).state = .starting → s.cause n.val = 0 → (s.fn n.val).pend = 0 →
      ∃ t, exec (.startComplete n true) s = .next t ∧ t.fn n.val = goes (s.fn n.val).target ∧ ∀ m, m ≠ n.val → t.fn m = s.fn m) ∧
    ((s.fn n.val).state = .starting → s.cause n.val = 0 → (s.fn n.val).pend = 2 → (s.fn n.val).target = .ready →
      isPermanent n.val = false → s.prereqOk n.val = true →
      ∃ t, exec (.startComplete n true) s = .next t ∧ t.fn n.val = goes .running ∧ ∀ m, m ≠ n.val → t.fn m = s.fn m) ∧
    ((s.fn n.val).state = .stopping → s.stopMet n.val = true → (s.fn n.val).pend = 0 → (n.val = 12 → s.win.frames = [] ∧ s.winBusy = false) →
      ∃ t, exec (.stopComplete n) s = .next t ∧ t.fn n.val = goes (s.fn n.val).target ∧ ∀ m, m ≠ n.val → t.fn m = s.fn m) ∧
    (n.val = 12 → (s.fn 12).state = .stopping → s.stopMet 12 = true → s.win.frames ≠ [] → (∀ e ∈ s.win.frames, e.2.bad = false) →
      ∃ t, exec (.stopComplete n) s = .next t ∧ t.win.frames = [] ∧ t.fns = s.fns ∧ t.winBusy = true)

/-- STOPPING_LIMIT aborts the work orders that use the function, and a start that fails makes it Faulted. When the Stopping
limit of a Stopping function, not 0, passes with the control island running and outside Quiesced, event 0xnF1 is raised,
and every work order that had been admitted and uses the function is gone or has ended with STATUS 3, its record
following once its pans stand and its writes have arrived. A limit of 0 is no limit: nothing changes. START_COMPLETE of
a Starting function that is not permanent, a step of whose work failed and no cause of which persists, puts it into
Faulted with code 0xnF0, also shown in 2n00/04; the records of the other functions stay as they are.
(12_object_dictionary.md (R316, R325), 11_work_orders.md (R295), 15_clocks_power_reset.md (R362, R366)) -/
def Obligations.StoppingLimitAborts : Prop :=
  ∀ (n : FnNo) (s : State), s.awake = true → s.cfg.snap.state ≠ 2 →
    ((s.fn n.val).state = .stopping → s.obj (fnKey n.val 7) = 0 → exec (.stoppingLimit n) s = .next s) ∧
    ((s.fn n.val).state = .stopping → s.obj (fnKey n.val 7) ≠ 0 →
      ∃ t, exec (.stoppingLimit n) s = .next t ∧ t.out.head? = some (.event (0x100 * n.val + 0xF1)) ∧
        ∀ o ∈ s.seq.orders, o.started = true → o.uses n.val = true →
          t.order? o.ring o.slot = none ∨ ∃ q, t.order? o.ring o.slot = some q ∧ q.phase = .ended 3 0) ∧
    ((s.fn n.val).state = .starting → s.cause n.val = 0 → isPermanent n.val = false →
      ∃ t, exec (.startComplete n false) s = .next t ∧ (∀ m, m ≠ n.val → t.fn m = s.fn m) ∧
        (t.fn n.val).state = .faulted ∧ (t.fn n.val).fcode = 0x100 * n.val + 0xF0 ∧ t.obj (fnKey n.val 4) = 0x100 * n.val + 0xF0)

/-- RING_ENABLE, RING_DISABLE and RING_RESUME complete with the effect of R282. For a client with Operator privilege,
outside Quiesced, each command answers a next state, confirmed, in which the other rings are as before, and: RING_ENABLE
makes a Disabled ring Running, with TAIL and CHEAD taken from its control block and HEAD equal to TAIL until it is read,
and becomes pending on a Draining ring without a pending enable; RING_DISABLE makes a Running ring Draining while a work
order of the ring has been read and not completed, and Disabled otherwise, and makes a Halted ring Disabled; RING_RESUME
makes a Halted ring Running. (11_work_orders.md (R279, R281, R282)) -/
def Obligations.RingCommandsComplete : Prop :=
  ∀ (cl : ClientNo) (r : RingNo) (s : State), s.serves cl.val 1 → s.cfg.snap.state ≠ 2 →
    let x := s.ring r.val
    let done (t : State) (y : Ring) : Prop := t.said cl.val .confirm ∧ t.ring r.val = y ∧ ∀ q, q ≠ r.val → t.ring q = s.ring q
    (x.state = .disabled → ∃ t, exec (.ringEnable cl r) s = .next t ∧
      done t { state := .running, pendEnable := false, head := s.rdN (s.cbAt r.val + 8) 4, tail := s.rdN (s.cbAt r.val + 8) 4,
               chead := s.rdN (s.cbAt r.val + 24) 4 }) ∧
    (x.state = .draining → x.pendEnable = false → ∃ t, exec (.ringEnable cl r) s = .next t ∧ done t { x with pendEnable := true }) ∧
    (x.state = .running → (∃ o ∈ s.seq.orders, o.ring = r.val) → ∃ t, exec (.ringDisable cl r) s = .next t ∧
      done t { x with state := .draining, pendEnable := false }) ∧
    (x.state = .running → (∀ o ∈ s.seq.orders, o.ring ≠ r.val) → ∃ t, exec (.ringDisable cl r) s = .next t ∧
      done t { x with state := .disabled, pendEnable := false }) ∧
    (x.state = .halted → ∃ t, exec (.ringDisable cl r) s = .next t ∧ done t { x with state := .disabled }) ∧
    (x.state = .halted → ∃ t, exec (.ringResume cl r) s = .next t ∧ done t { x with state := .running })

/-- A ring control code that the state does not accept, and an abort of no work order, are refused. For a client with
Operator privilege, outside Quiesced: a code of 2340 + r/06 in a state of the ring that R282 does not list for it is
refused with 0x08000022, a further enable while one is pending with 0x0F000003, and RING_ABORT of a slot without a work
order that has been read and not completed with 0x08000022. Rings, work orders and package memory stay as they are.
(11_work_orders.md (R282, R295), 12_object_dictionary.md (R322)) -/
def Obligations.RingControlRefused : Prop :=
  ∀ (cl : ClientNo) (r : RingNo) (s : State), s.serves cl.val 1 → s.cfg.snap.state ≠ 2 →
    let x := s.ring r.val
    let no (t : State) (c : Nat) : Prop := t.said cl.val (.abort c) ∧ t.seq = s.seq ∧ t.mem = s.mem
    (x.state = .running ∨ x.state = .halted → x.pendEnable = false → ∃ t, exec (.ringEnable cl r) s = .next t ∧ no t 0x08000022) ∧
    (x.state = .draining → x.pendEnable = true → ∃ t, exec (.ringEnable cl r) s = .next t ∧ no t 0x0F000003) ∧
    (x.state = .disabled ∨ x.state = .draining → x.pendEnable = false → ∃ t, exec (.ringDisable cl r) s = .next t ∧ no t 0x08000022) ∧
    (x.state ≠ .halted → x.pendEnable = false → ∃ t, exec (.ringResume cl r) s = .next t ∧ no t 0x08000022) ∧
    (∀ slot : Nat, slot < 65536 → s.order? r.val slot = none → ∃ t, exec (.abortSlot cl r slot) s = .next t ∧ no t 0x08000022)

/-- DOORBELL and RING_POLL read HEAD from the control block. What software wrote before the strobe is in memory after a
DOORBELL. On a Running ring with the control island running and the snapshot Live, DOORBELL, and RING_POLL of a ring
whose HEAD equals its TAIL, take HEAD from the first word of the control block. A HEAD further ahead of TAIL than the
ring has slots makes the ring Halted and raises event 0x0321; otherwise the ring keeps its state. TAIL and CHEAD and the
other rings stay as they are. On a ring that is not Running, or while the snapshot is not Live, neither command changes
a ring. (11_work_orders.md (R280, R281), 14_configuration_and_readback.md (R353)) -/
def Obligations.HeadIsRead : Prop :=
  ∀ (r : RingNo) (wrote : List (Nat × List Byte)) (s : State),
    let m : State := { s with mem := wrote.foldl (fun m w => writeBytes m w.1 w.2) s.mem }
    let read (b t : State) : Prop :=
      let h := b.rdN (b.cbAt r.val) 4
      let past : Bool := decide (b.obj (ringKey r.val 2) < diff32 h (b.ring r.val).tail)
      t.mem = b.mem ∧ (∀ q, q ≠ r.val → t.ring q = b.ring q) ∧
        t.ring r.val = { b.ring r.val with head := h, state := if past then .halted else .running } ∧
        (past = true → t.out.head? = some (.event 0x0321))
    ((s.awake = true ∧ s.live = true ∧ (s.ring r.val).state = .running) →
      (∃ t, exec (.doorbell r wrote) s = .next t ∧ read m t) ∧
      ((s.ring r.val).head = (s.ring r.val).tail → ∃ t, exec (.ringPoll r) s = .next t ∧ read s t)) ∧
    (((s.ring r.val).state ≠ .running ∨ s.live = false) → exec (.doorbell r wrote) s = .next m ∧ exec (.ringPoll r) s = .next s)

/-- A work order that passes its checks is read, and waits. For each of the 23 work-order rows of the table: when the
sequencer may read the ring's work order at TAIL, the work order is of the row's kind and every check of it passes, the
row answers a next state in which the work order stands last among those read and not completed, with its ring, slot,
kind and 128 bytes, and waits; TAIL has advanced by 1 in the ring and, where no entry table in memory could lie over it,
in the control block; the other rings are as before. (11_work_orders.md (R281, R285, R286, R296), INDEX.md) -/
def Obligations.ReadRowsAccept : Prop :=
  ∀ (c : Instr) (r : RingNo) (k : Kind) (s : State), readRow c = some (r, k) → s.canRead r.val = true →
    kindOf (s.tailWord r.val) = some k →
    firstBad ((s.prepared r.val k).checks (s.takeUp r.val k (s.tailWord r.val))) = none →
    ∃ t o, exec c s = .next t ∧ t.seq.orders = s.seq.orders ++ [o] ∧ o.ring = r.val ∧ o.slot = s.tailSlot r.val ∧ o.kind = k ∧
      o.raw = s.tailWord r.val ∧ o.phase = .waiting ∧ (∀ q, q ≠ r.val → t.ring q = s.ring q) ∧
      t.ring r.val = { s.ring r.val with tail := inc32 (s.ring r.val).tail } ∧
      (s.obj (okey 0x2410 8) = 0 → t.rdN (s.cbAt r.val + 8) 4 = inc32 (s.ring r.val).tail)

/-- A work order that is of no kind, or fails a check, is refused with a record of STATUS 1. For each work-order row: when
the sequencer may read the work order at TAIL and it is of no kind, or it is of the row's kind and a check of it fails,
the row answers a next state in which no work order has been added, TAIL and CHEAD of the ring have advanced by 1, the
count of refused work orders 2351/02 has gone up by one, the event of the refusal (0x0320 for no kind, else the code of
the first check that fails) has been raised, bit r of the completion-pending register is set, and the ring is Halted
where 2340 + r/08 asks to halt on an error. (11_work_orders.md (R283, R284, R286, R296, R299)) -/
def Obligations.ReadRowsRefuse : Prop :=
  ∀ (c : Instr) (r : RingNo) (k : Kind) (s : State) (code : Nat), readRow c = some (r, k) → s.canRead r.val = true →
    ((kindOf (s.tailWord r.val) = none ∧ code = 0x0320) ∨
     (kindOf (s.tailWord r.val) = some k ∧
      firstBad ((s.prepared r.val k).checks (s.takeUp r.val k (s.tailWord r.val))) = some code)) →
    ∃ t, exec c s = .next t ∧ t.seq.orders = s.seq.orders ∧ .event code ∈ t.out ∧
      t.ring r.val = { s.ring r.val with
        tail := inc32 (s.ring r.val).tail
        chead := inc32 (s.ring r.val).chead
        state := if s.obj (ringKey r.val 8) = 1 then .halted else .running } ∧
      t.obj (okey 0x2351 2) = satAdd 64 (s.obj (okey 0x2351 2)) 1 ∧ bit (t.obj (okey 0x2350 1)) r.val = true

/-- A work order that ends leaves a completion record and is gone. WORK_ORDER_COMPLETE, outside Quiesced, of a work order
that has failed or been ended with a status, its pans standing and its writes arrived, and ABORT_SLOT of a work order
that waits, is pre-empted, or is admitted with no pan and no write left (confirmed to a client with Operator privilege
outside Quiesced, with event 0x0322): the next state no longer holds the work order, CHEAD of its ring has advanced by 1
in the ring and in the control block, and the 32 bytes of the record area at the old CHEAD are the completion record
with the work order's TAG, slot, ring, OPCODE, STATUS (3 for an abort), CODE, EVENTS, links and times and the sequence
number CHEAD. This is said where no arrival waits at the Stockpile port, no promotion of the work order is left to
apply, the ring is not Draining, and the record and the control block do not overlap. ABORT_SLOT of any other admitted
work order ends it with STATUS 3, its record following once its pans stand and its writes have arrived.
(11_work_orders.md (R283, R292, R295, R296, R299), 09_streams_and_run_ahead.md (R248)) -/
def Obligations.WorkOrderEnds : Prop :=
  ∀ (cl : ClientNo) (r : RingNo) (slot status code : Nat) (o : Order) (s : State), s.order? r.val slot = some o → s.awake = true →
    let x := s.ring r.val
    let a := s.obj (ringKey r.val 3) + 32 * (x.chead % s.obj (ringKey r.val 4))
    let cb := s.cbAt r.val + 24
    let plain : Prop := s.stock.waiting = [] ∧ x.state ≠ .draining ∧
      s.win.promos.any (fun x => x.ring = r.val && x.slot = slot) = false ∧ (cb + 4 ≤ a ∨ a + 32 ≤ cb)
    let gone (t : State) (st cd : Nat) : Prop :=
      t.order? r.val slot = none ∧ (t.ring r.val).chead = inc32 x.chead ∧ t.rdN cb 4 = inc32 x.chead ∧
        t.rdN a 32 = recordWord o st cd x.chead s.timeUs
    (plain → o.phase = .ended status code → s.overDone o = true → s.cfg.snap.state ≠ 2 →
      ∃ t, exec (.workOrderComplete r slot) s = .next t ∧ gone t status code) ∧
    (plain → s.serves cl.val 1 → s.cfg.snap.state ≠ 2 → slot < 65536 →
      (o.phase = .waiting ∨ o.phase = .preempted ∨
        o.started = true ∧ s.pans.all (fun e => e.2.job ≠ some (r.val, slot)) = true ∧ s.writesPending r.val slot = false) →
      ∃ t, exec (.abortSlot cl r slot) s = .next t ∧ t.said cl.val .confirm ∧ gone t 3 0 ∧ .event 0x0322 ∈ t.out) ∧
    (s.serves cl.val 1 → s.cfg.snap.state ≠ 2 → slot < 65536 → o.started = true →
      ∃ t, exec (.abortSlot cl r slot) s = .next t ∧ t.said cl.val .confirm ∧ .event 0x0322 ∈ t.out ∧
        (t.order? r.val slot = none ∨ ∃ q, t.order? r.val slot = some q ∧ q.phase = .ended 3 0))

/-- A FENCE or a VERSION PUBLISH completes only when what it waits on has completed. An admitted FENCE or VERSION PUBLISH
none of whose writes is in flight: WORK_ORDER_COMPLETE leaves every state as it is while a work order it waits on is
still read and not completed; once none is, and outside Quiesced, a publish, a fence without a flush, and a fence whose
region has no resident group and no write-back on its way, are gone from the work orders read and not completed. A fence
with a flush of a region that has resident groups, none with a parity error, first asks for their write-back, and stays
until it has arrived. (11_work_orders.md (R291, R292, R296), 04_gradient_products.md (R121),
02_arithmetic_and_accumulation.md (R53), 04_gradient_products.md (R105)) -/
def Obligations.FenceAndPublishComplete : Prop :=
  ∀ (r : RingNo) (slot : Nat) (o : Order) (s : State), s.order? r.val slot = some o → s.awake = true → o.phase = .admitted →
    o.kind = .fence ∨ o.kind = .vpub →
    let flush : Prop := o.kind = .fence ∧ woFlush o.raw = true
    let held (e : Nat × Frame) : Prop := e.1 / 2 ^ 20 = woFregion o.raw
    (s.seq.orders.any (fun q => o.waits.contains q.seq) = true → exec (.workOrderComplete r slot) s = .next s) ∧
    (s.seq.orders.any (fun q => o.waits.contains q.seq) = false → s.writesPending r.val slot = false → s.cfg.snap.state ≠ 2 →
      ((flush → (∀ e ∈ s.win.frames, ¬held e) ∧ s.winWrites (woFregion o.raw) = []) →
        ∃ t, exec (.workOrderComplete r slot) s = .next t ∧ t.order? r.val slot = none) ∧
      (flush → o.ran = false → (∃ e ∈ s.win.frames, held e) → (∀ e ∈ s.win.frames, held e → e.2.bad = false) →
        ∃ t q, exec (.workOrderComplete r slot) s = .next t ∧ t.order? r.val slot = some q ∧ q.phase = .admitted ∧ q.ran = true ∧
          t.winWrites (woFregion o.raw) ≠ [] ∧ t.mem = s.mem ∧ t.win.frames = s.win.frames))

/-- ADMISSION admits the first admissible work order, from the ring after the one admitted last. With the control island
running and the snapshot Live, ADMISSION takes the first waiting work order, in the order of the rings after the one
admitted last, whose functions are Running, whose hubs are free, whose entries and target slot are ready and which no
admitted work order excludes. If its last checks pass it is admitted: it and the time are recorded, the ring becomes the
one admitted last, the work orders that it stopped are no longer admitted, and, where it occupies hubs, every pan of its
mask runs it; it may then fail at once for want of chain scratch (0x0420). If a last check fails, its event is raised
and the work order is gone. If none is admissible, only stalls of UPDATE are noted. (11_work_orders.md (R285, R293,
R294), 01_block_organisation.md (R17), 04_gradient_products.md (R119), 05_stockpile_and_recompute.md (R408)) -/
def Obligations.AdmissionTakesTheFirst : Prop :=
  ∀ s : State, s.awake = true → s.cfg.snap.state = 0 →
    match s.markStalls.waiting.find? (fun o => s.markStalls.ready0 o && s.markStalls.targetReady o) with
    | none => exec .admission s = .next s.markStalls
    | some o =>
      match firstBad (s.markStalls.admissionChecks o) with
      | some c => ∃ t, exec .admission s = .next t ∧ .event c ∈ t.out ∧ t.order? o.ring o.slot = none
      | none => o.preempts.contains (o.ring, o.slot) = false →
        ∃ t q, exec .admission s = .next t ∧ t.seq.lastRing = o.ring ∧ t.order? o.ring o.slot = some q ∧ q.admitAt = s.timeUs ∧
          (q.phase = .admitted ∨ o.kind.occupies = true ∧ q.phase = .ended 2 0x0420) ∧
          (∀ x ∈ o.preempts, ∀ y, t.order? x.1 x.2 = some y → y.phase ≠ .admitted) ∧
          (o.kind.occupies = true → ∀ u, u < pansOf (woMask o.raw) →
            (t.pan (panAt (woMask o.raw) u)).job = some (o.ring, o.slot) ∧ (t.pan (panAt (woMask o.raw) u)).state = .running)

/-- PRE_EMPTION sends stop requests to the pans of the work orders in the way. For the waiting work order at the front of a
ring that carries the pre-emption flag, with the control island running, the snapshot Live and no function Wedged, whose
functions are Running, whose entries are ready and which nothing excludes, and whose hubs are held only by admitted work
orders without the flag and with no crust on their pans: when it names no region, entry or layer slot that one of them
names, every pan of those hubs that runs one of them takes a stop request with cause pre-emption, no other pan changes,
and the work order remembers those it stopped; when it does name one, it is refused with 0x0320. (11_work_orders.md
(R294), 03_array_dataflow.md (R81, R86, R91)) -/
def Obligations.PreEmptionStopsPans : Prop :=
  ∀ (r : RingNo) (o : Order) (s : State), s.seq.orders.find? (fun o => o.ring = r.val && !o.started) = some o →
    s.awake = true → s.cfg.snap.state = 0 → woPre o.raw = true → s.anyWedged = false → s.busyMask o ≠ [] → o.preempts = [] →
    (∀ q ∈ s.busyMask o, q.phase = .admitted ∧ woPre q.raw = false ∧
      ∀ e ∈ s.pans, bit (woMask q.raw) (e.1 / 64) = true → e.2.crusts = 0) →
    s.functionsUp o = true → s.entriesReady o = true → s.excluded o = false →
    (((s.busyMask o).all (fun q => !(s.clash o q)) = true →
      ∃ t, exec (.preEmption r) s = .next t ∧
        (∀ p, t.pan p = if (s.busyMask o).any (fun q => (s.pan p).job = some (q.ring, q.slot) && bit (woMask q.raw) (p / 64)) = true
          then (s.pan p).request causePre else s.pan p) ∧
        (∃ q, t.order? o.ring o.slot = some q ∧ q.preempts = (s.busyMask o).map (fun q => (q.ring, q.slot))) ∧ t.mem = s.mem) ∧
    ((s.busyMask o).any (fun q => s.clash o q) = true →
      ∃ t, exec (.preEmption r) s = .next t ∧ .event 0x0320 ∈ t.out ∧ t.order? o.ring o.slot = none))

/-- VERSION SET, VERSION DROP and STREAM take effect. An admitted VERSION SET whose slot is neither pinned nor claimed gives
the slot its version, marks it valid, and makes it the newest where the work order asks for it; an admitted VERSION DROP
marks its slot not valid. The other slot, the pins, the claim and every other layer stay as they are. An admitted STREAM
gives every launder of the hubs of its mask the entry that the set it has read holds for it, its reserved bits zero, and
every other launder keeps its own; 2110/03 shows the address of the set. Package memory, the function records and the
queues stay as they are. (04_gradient_products.md (R115, R121), 09_streams_and_run_ahead.md (R232)) -/
def Obligations.VersionAndStreamRowsRun : Prop :=
  ∀ (r : RingNo) (slot : Nat) (o : Order) (s : State),
    let same (t : State) : Prop := t.mem = s.mem ∧ t.fns = s.fns ∧ t.strm.queues = s.strm.queues
    let l := woVlayer o.raw
    (s.toRun r.val slot (fun k => k == .vset) = some o → s.versionRefuses l (woVslot o.raw) = false →
      ∃ t, exec (.versionSet r (.run slot)) s = .next t ∧ same t ∧ (∀ m, m ≠ l → t.layer m = s.layer m) ∧
        t.layer l = (let x := ((s.layer l).setVer (woVslot o.raw) (woVver o.raw)).setValid (woVslot o.raw) true
                     if woMknew o.raw then { x with newest := decide (woVslot o.raw = 1) } else x)) ∧
    (s.toRun r.val slot (fun k => k == .vdrop) = some o → s.versionRefuses l (woVslot o.raw) = false →
      ∃ t, exec (.versionDrop r (.run slot)) s = .next t ∧ same t ∧ (∀ m, m ≠ l → t.layer m = s.layer m) ∧
        t.layer l = (s.layer l).setValid (woVslot o.raw) false) ∧
    (s.toRun r.val slot (fun k => k == .stream) = some o →
      ∃ t, exec (.stream r (.run slot)) s = .next t ∧ same t ∧ t.obj (okey 0x2110 3) = woSetbase o.raw ∧
        ∀ k, t.entry k = if bit (woMask o.raw) (k / 4) = true ∧ k / 4 < 64 then leClean (leNat ((o.mask.drop (8 * k)).take 8)) else s.entry k)

/-- VERSION SET and VERSION DROP of a slot pinned or claimed are refused. An admitted VERSION SET or VERSION DROP whose slot
is pinned or claimed is refused as it runs: event 0x0340, the version states as before, the refusal counted in 2321/07
and 2351/02, and the work order is gone. (04_gradient_products.md (R120, R121), 11_work_orders.md (R286)) -/
def Obligations.VersionRowsRefused : Prop :=
  ∀ (r : RingNo) (slot : Nat) (o : Order) (s : State), s.versionRefuses (woVlayer o.raw) (woVslot o.raw) = true →
    let no (t : State) : Prop := .event 0x0340 ∈ t.out ∧ t.seq.layers = s.seq.layers ∧ t.order? r.val slot = none ∧
      t.obj (okey 0x2321 7) = satAdd 32 (s.obj (okey 0x2321 7)) 1 ∧ t.obj (okey 0x2351 2) = satAdd 64 (s.obj (okey 0x2351 2)) 1
    (s.toRun r.val slot (fun k => k == .vset) = some o → ∃ t, exec (.versionSet r (.run slot)) s = .next t ∧ no t) ∧
    (s.toRun r.val slot (fun k => k == .vdrop) = some o → ∃ t, exec (.versionDrop r (.run slot)) s = .next t ∧ no t)

/-- Each of the nine BOIL rows runs its next token tile on the pan that it is dealt to. For BOIL kinds 1 to 8 (NORM, NORMB,
SOFTMAX, SOFTMAXB, POINT, POINTB, DWCONV, DWCONVB): an admitted work order past its chain links, its next token tile q
dealt to a pan that runs it at its level (pan q mod P), writes the results of its kind for the rows of the tile at its
output (the scratch of its output entry, or the address of A3), counts the tile, and has run once the last is done. A
PRODUCT (kind 0) on pans that all run it, none of whose beats has begun, writes its whole result. That the tiles are
taken in ascending order, and a tile in one command, is the model's choice (log entry 48).
(05_stockpile_and_recompute.md (R139, R140, R141, R144, R145, R146, R147, R148)) -/
def Obligations.BoilRowsRun : Prop :=
  ∀ (r : RingNo) (slot : Nat) (o : Order) (s : State), o.chain = none → o.progress = 1 →
    let at_ (b : Nat) : Prop := s.toRun r.val slot (fun k => k == .boil b) = some o
    let up := s.panUp o (panAt (woMask o.raw) (o.tiles % pansOf (woMask o.raw)))
    let out := if woEntout o.raw < 16384 then enAddr (s.comingOf o (woEntout o.raw)) else woA o.raw 3
    let v := (if woEntin o.raw < 16384 then s.mendCopy (woEntin o.raw) else s)
    let w := v.viewEntry (woEntin o.raw)
    let q := o.tiles
    let done (t : State) : State := t.updOrder r.val slot (fun o => { o with tiles := q + 1, ran := decide (cdiv (woT o.raw) 16 ≤ q + 1) })
    let done0 (t : State) : State := t.updOrder r.val slot (fun o => { o with tiles := q + 1, ran := true })
    (at_ 0 → s.pansUp o = true →
      s.pans.all (fun e => !(e.2.job = some (r.val, slot) && (e.2.issued || e.2.arrs.any (fun a => decide (0 < a.2.loaded))))) = true →
      exec (.product r (.run slot)) s = .next (done0 (v.runProduct w o out))) ∧
    (at_ 1 → up = true → exec (.norm r (.run slot)) s = .next (done (v.runNorm w o.ring o.slot o.raw out q))) ∧
    (at_ 2 → up = true → exec (.normb r (.run slot)) s = .next (done (v.runNormb w o.ring o.slot o.raw out q))) ∧
    (at_ 3 → up = true → exec (.softmax r (.run slot)) s = .next (done (v.runSoftmax w o.ring o.slot o.raw out q))) ∧
    (at_ 4 → up = true → exec (.softmaxb r (.run slot)) s = .next (done (v.runSoftmaxb w o.ring o.slot o.raw out q))) ∧
    (at_ 5 → up = true → exec (.point r (.run slot)) s = .next (done (v.runPoint w o.ring o.slot o.raw out q))) ∧
    (at_ 6 → up = true → exec (.pointb r (.run slot)) s = .next (done (v.runPointb w o.ring o.slot o.raw out q))) ∧
    (at_ 7 → up = true → exec (.dwconv r (.run slot)) s = .next (done (v.runDwconv w o.ring o.slot o.raw out q))) ∧
    (at_ 8 → up = true → exec (.dwconvb r (.run slot)) s = .next (done (v.runDwconvb w o.ring o.slot o.raw out q)))

/-- NORM, SOFTMAX, POINT and DWCONV write the values of their formulas, and nothing else. When a NORM, SOFTMAX, POINT or
DWCONV without an input entry runs token tile q, every element of the tile's rows of the tile-blocked T by width result
at its output holds the value of the kind's formula (R144 to R147) on the operands in memory, converted to OFMT; every
other byte of package memory, the function records, the layers, the Windrow and the Stockpile are as before. SOFTMAXB,
and POINTB without a gate, likewise write no byte but those of the tile. (05_stockpile_and_recompute.md (R124, R141,
R144, R145, R146, R147), 03_array_dataflow.md (R65), 02_arithmetic_and_accumulation.md (R56, R57)) -/
def Obligations.BoilOutputFrame : Prop :=
  ∀ (r : RingNo) (slot : Nat) (o : Order) (s : State), woEntin o.raw ≥ 16384 → o.chain = none → o.progress = 1 →
    s.panUp o (panAt (woMask o.raw) (o.tiles % pansOf (woMask o.raw))) = true →
    let w := o.raw
    let d := woI w
    let out := if woEntout w < 16384 then enAddr (s.comingOf o (woEntout w)) else woA w 3
    let size := ofmtSize (woBOfmt w)
    let at_ (i j : Nat) := out + tileOff d size i j
    let runs (c : Instr) (b : Nat) : Prop := s.toRun r.val slot (fun k => k == .boil b) = some o →
      ∃ t, exec c s = .next t ∧ t.fns = s.fns ∧ t.seq.layers = s.seq.layers ∧ t.win = s.win ∧ t.stock = s.stock ∧
        ∀ a, (∀ i j, i ∈ tokensOf w o.tiles → j < d → a < at_ i j ∨ at_ i j + size ≤ a) → t.rd8 a = s.rd8 a
    let holds (c : Instr) (b : Nat) (f : Nat → Nat → Nat) : Prop := runs c b ∧ (s.toRun r.val slot (fun k => k == .boil b) = some o →
      ∃ t, exec c s = .next t ∧ ∀ i j, i ∈ tokensOf w o.tiles → j < d →
        t.rdN (at_ i j) size = (convert (woBOfmt w) (woInf w) (dec32 (f i j))).1 % 256 ^ size)
    holds (.norm r (.run slot)) 1 (fun i j => if woLayerNorm w then
      f32add (f32mul (s.boilA1 w 0 j) (s.xhat w (s.normStats w i) i j)) (s.boilA2 w 0 j)
      else f32mul (f32mul (s.boilA1 w 0 j) (s.boilX w i j)) (s.normStats w i).2) ∧
    holds (.softmax r (.run slot)) 3 (fun i j => f32div (f32exp (f32sub (s.boilX w i j) (rowMax d (s.boilX w i))))
      (reduce d 0 (fun a k => f32add a (f32exp (f32sub (s.boilX w i k) (rowMax d (s.boilX w i))))) f32add)) ∧
    holds (.point r (.run slot)) 5 (fun i j => if woGated w then f32mul (pointF (woFn w) (s.boilX w i j)) (s.boilA1 w i j)
      else pointF (woFn w) (s.boilX w i j)) ∧
    holds (.dwconv r (.run slot)) 7 (fun t c => (List.range (woTaps w)).foldl (fun a k =>
      f32fma (s.boilA1 w k c) (if k ≤ t then s.boilX w (t - k) c else 0) a) 0) ∧
    runs (.softmaxb r (.run slot)) 4 ∧ (woGated w = false → runs (.pointb r (.run slot)) 6)

/-- CHAIN_LINK regenerates the next block of a chain, or passes over one that is retained. For an admitted work order with
link k of its chain in progress, on pans that run it at their level, with the control island running and the snapshot
Live: where entry k + 1 is retained, it is pinned and passed over, the number of links run as before; where its recipe
is valid and all its work orders run, the record that was reserved for the entry is its record, one link is counted in
2411/06 and in the work order, and either way link k + 1 is next, while it is not the last. A link whose input entry is
being copied to far memory waits for the copy. (05_stockpile_and_recompute.md (R135, R136)) -/
def Obligations.ChainLinkCompletes : Prop :=
  ∀ (r : RingNo) (slot k last : Nat) (o : Order) (s : State), s.order? r.val slot = some o → o.chain = some (k, last) →
    o.phase = .admitted → s.pansUp o = true → s.awake = true → s.cfg.snap.state = 0 →
    let e := 64 * (woEntin o.raw / 64) + k
    let rec_ := s.rdN (s.obj (okey 0x2410 7) + 16 * enRecipe (s.entryRec e)) 16
    (retained (s.entryRec (e + 1)) = true → k + 1 < last →
      ∃ t q, exec (.chainLink r slot) s = .next t ∧ t.order? r.val slot = some q ∧ q.chain = some (k + 1, last) ∧ q.links = o.links ∧
        q.phase = .admitted ∧ e + 1 ∈ q.pinEnts ∧ t.obj (okey 0x2411 6) = s.obj (okey 0x2411 6) ∧
        (∀ n, n ≠ e + 1 → t.entryRec n = s.entryRec n) ∧
        (e + 1 ∉ o.pinEnts → t.entryRec (e + 1) = enSetPins (s.entryRec (e + 1)) (enPins (s.entryRec (e + 1)) + 1))) ∧
    (retained (s.entryRec (e + 1)) = true → ¬ k + 1 < last →
      exec (.chainLink r slot) s = .next ((s.pinLink o (e + 1)).linkDone r.val slot k last 0)) ∧
    (retained (s.entryRec (e + 1)) = false → enState (s.entryRec e) = enSpilling → exec (.chainLink r slot) s = .next s) ∧
    (∀ x, retained (s.entryRec (e + 1)) = false → enState (s.entryRec e) ≠ enSpilling → bit rec_ 60 = true →
      (s.pinLink o (e + 1)).recipe o e (e + 1) (bits rec_ 0 52) (bits rec_ 52 8 + 1) = (x, true) →
      exec (.chainLink r slot) s =
        .next (((x.arrived o (e + 1) (fun e => e)).bump64 (okey 0x2411 6)).linkDone r.val slot k last 1))

/-- A chain link whose recipe cannot run fails the work order with 0x0420. For an admitted work order with link k of its
chain in progress, on pans that run it, with the control island running and the snapshot Live, its input entry not on
its way to far memory: a recipe that is not valid, one of whose work orders is refused, or whose output does not fit,
raises event 0x0420 and ends the work order with STATUS 2 and CODE 0x0420; nothing stays reserved for the entry.
(05_stockpile_and_recompute.md (R137)) -/
def Obligations.ChainLinkFails : Prop :=
  ∀ (r : RingNo) (slot k last : Nat) (o : Order) (s : State), s.order? r.val slot = some o → o.chain = some (k, last) →
    o.phase = .admitted → s.pansUp o = true → s.awake = true → s.cfg.snap.state = 0 →
    let e := 64 * (woEntin o.raw / 64) + k
    let rec_ := s.rdN (s.obj (okey 0x2410 7) + 16 * enRecipe (s.entryRec e)) 16
    retained (s.entryRec (e + 1)) = false → enState (s.entryRec e) ≠ enSpilling →
    bit rec_ 60 = false ∨ ((s.pinLink o (e + 1)).recipe o e (e + 1) (bits rec_ 0 52) (bits rec_ 52 8 + 1)).2 = false →
    ∃ t, exec (.chainLink r slot) s = .next t ∧ t.out.head? = some (.event 0x0420) ∧ t.comingOf o (e + 1) = 0 ∧
      ∀ q, t.order? r.val slot = some q → q.phase = .ended 2 0x0420

/-- QCAL, UPDATE and PRECOND make their effect on the pans that run them. An admitted QCAL on pans that run it at their
level, every static scale of class I finite, is marked as having run and counts the elements that it has coded in
2611/02; with a static scale that is not finite it fails with 0x0614 and writes nothing; function records and the
Windrow stay as they are. An admitted UPDATE or PRECOND takes its next tile on the pan that the tile is dealt to: before
its first tile, for a matrix whose region holds no group with a parity error, it asks for the write-back of its region
and goes to phase 1; a tile of phase 2 is counted, 2790/0A shows it, and with the last the step has been made. No byte
of package memory changes with the write-backs asked for, and no function record. (07_quantisation.md (R189, R191),
08_parameter_update.md (R205, R208, R213, R216, R223)) -/
def Obligations.QcalAndHarrowRowsRun : Prop :=
  ∀ (r : RingNo) (slot : Nat) (o : Order) (s : State),
    (s.toRun r.val slot (fun k => k == .qcal) = some o → s.pansUp o = true →
      let d := s.qd (woQcalQd o.raw)
      let bad := (List.range (qUnits d)).any (fun u => !(dec32 (s.rdN (qdLsaddr d + 4 * u) 4)).finite)
      (¬(qdClass d = 1 ∧ bad = true) →
        ∃ t q, exec (.qcal r (.run slot)) s = .next t ∧ t.order? r.val slot = some q ∧ q.ran = true ∧ q.phase = .admitted ∧
          t.fns = s.fns ∧ t.win = s.win ∧ ((qElems d (s.qFlakes d)).length ≠ 0 →
          t.obj (okey 0x2611 2) = satAdd 64 (s.obj (okey 0x2611 2)) (qElems d (s.qFlakes d)).length)) ∧
      (qdClass d = 1 ∧ bad = true →
        ∃ t q, exec (.qcal r (.run slot)) s = .next t ∧ t.order? r.val slot = some q ∧ q.phase = .ended 2 0x0614 ∧
          t.out.head? = some (.event 0x0614) ∧ t.mem = s.mem ∧ t.fns = s.fns ∧ t.win = s.win)) ∧
    (s.panUp o (panAt (woMask o.raw) (o.tiles % pansOf (woMask o.raw))) = true →
      let x := s.hLayer o
      let begins (t : State) : Prop := t.mem = s.mem ∧ t.fns = s.fns ∧
        ∃ q, t.order? r.val slot = some q ∧ q.stage = 1 ∧ q.tiles = 0 ∧ q.progress = 2 ^ 30 ∧ q.phase = .admitted
      let takes (t : State) : Prop := t.fns = s.fns ∧ t.win = s.win ∧
        ∃ q, t.order? r.val slot = some q ∧ q.stage = 4 ∧ q.tiles = o.tiles + 1 ∧ q.progress = 3 * 2 ^ 30 + (o.tiles + 1) ∧
          q.ran = decide (x.stageTiles 4 ≤ o.tiles + 1)
      let clean : Prop := o.stage = 0 ∧ x.vec = false ∧ (s.fn 12).state ≠ .faulted ∧
        ∀ e ∈ s.win.frames, e.1 / 2 ^ 20 = x.region → e.2.bad = false
      (s.toRun r.val slot (fun k => k == .update) = some o →
        (clean → ∃ t, exec (.update r (.run slot)) s = .next t ∧ begins t) ∧
        (o.stage = 4 → ∃ t, exec (.update r (.run slot)) s = .next t ∧ takes t)) ∧
      (s.toRun r.val slot (fun k => k == .precond) = some o →
        (clean → ∃ t, exec (.precond r (.run slot)) s = .next t ∧ begins t) ∧
        (o.stage = 4 → ∃ t, exec (.precond r (.run slot)) s = .next t ∧ takes t)))

/-- PKG_RST, POWER_ON and FULL_RESET bring the machine up anew; POWER_LOST loses all but the flash. PKG_RST and POWER_ON
answer a next state, and so does FULL_RESET with code 0xA5A5 from a client with Operator privilege, which has been
confirmed first; another code is answered 0x06090030 and resets nothing. Where the self-tests pass the first time:
package memory outside the entry table of the Stockpile and the keys are as before, and so are the banks unless a commit
or an erase was in progress; no work order, session, transfer, stream buffer, channel activity, attention state or
resident group is left, and every ring and pan is as after power-on; time starts at 0; 2E30/01 shows the cause (0 power-
on, 1 PKG_RST, 2 FULL_RESET) and 1F00/02 counts full resets since power-on; every Windrow region in use is poisoned; the
boot-up frame has been sent. Where both tries of the self-tests fail, the GPE is held and no function of it is Running.
When the supply is lost, the keys stay, and both banks unless a commit or an erase is in progress; package memory and
every other state of the GPE are lost, and the block stands still until power-on. That a byte of memory then reads 0 is
the model's choice (log entry 2). (15_clocks_power_reset.md (R379, R380), 12_object_dictionary.md (R318, R321),
13_management_link_and_sessions.md (R328, R336, R337), 16_faults_and_reliability.md (R391),
14_configuration_and_readback.md (R349)) -/
def Obligations.ResetRows : Prop :=
  ∀ (env : ResetEnv) (s : State),
    let fresh (cause : Nat) (t : State) : Prop :=
      (∀ a, t.obj (okey 0x2410 8) = 0 ∨ a < t.obj (okey 0x2410 8) ∨ t.obj (okey 0x2410 8) + 524288 ≤ a → t.rd8 a = s.rd8 a) ∧
      t.mgt = { keys := s.mgt.keys } ∧ (s.cfg.commit.status ≠ 1 → t.cfg = { flash := s.cfg.flash }) ∧ t.pending = s.pending ∧ t.timeUs = 0 ∧
      t.seq = {} ∧ t.pans = [] ∧ t.chans = [] ∧ t.att = {} ∧ t.strm.bufs = [] ∧ t.strm.tags = [] ∧ t.win.frames = [] ∧
      t.obj (okey 0x2E30 1) = cause ∧
      t.obj (okey 0x1F00 2) = (if cause = 0 then 0 else satAdd 32 (s.obj (okey 0x1F00 2)) 1) ∧
      (∀ n, n < t.obj (okey 0x2C20 2) → (t.region n).poisoned = true) ∧
      .frame (0x700 + t.ctl.nodeId) [0] ∈ t.out
    let held (t : State) : Prop := t.ctl.heldAfterPhase1 = true ∧ t.mem = s.mem ∧ ∀ n, t.running n = false
    (env.pass1 = true →
      (∃ t, exec (.powerOn env) s = .next t ∧ fresh 0 t) ∧ (∃ t, exec (.pkgRst env) s = .next t ∧ fresh 1 t) ∧
      ∀ cl : ClientNo, s.serves cl.val 1 →
        ∃ t, exec (.fullReset cl 0xA5A5 env) s = .next t ∧ fresh 2 t ∧ .answer cl.val .confirm ∈ t.out) ∧
    (env.pass1 = false → env.pass2 = false →
      (∃ t, exec (.powerOn env) s = .next t ∧ held t) ∧ (∃ t, exec (.pkgRst env) s = .next t ∧ held t)) ∧
    (∀ (cl : ClientNo) (code : Nat), code < 65536 → code ≠ 0xA5A5 → s.serves cl.val 1 →
      ∃ t, exec (.fullReset cl code env) s = .next t ∧ t.said cl.val (.abort 0x06090030) ∧ t.seq = s.seq ∧ t.fns = s.fns) ∧
    (∃ t, exec .powerLost s = .next t ∧ t.mgt = { keys := s.mgt.keys } ∧ t.ctl.halted = true ∧ t.mem = [] ∧
      t.seq = {} ∧ t.objs = State.reset.objs ∧ (s.cfg.commit.status ≠ 1 → t.cfg = { flash := s.cfg.flash }))

/-- Heartbeat, bus errors, bus-off and a segment timeout. With the control island running: HEARTBEAT sends the frame 0x700
plus the node-ID with the byte 5 where the period 1100/03 is not 0 and the bus is up; BUS_ERROR puts the two error
counters, up to 255, into 1101/01 and /02 and the node into error-passive from 128 on (the model's reading, log entry
71); BUS_OFF puts the node into bus-off, counts it, raises event 0x0A20 and abandons the transfers of bus clients,
sessions staying open; BUS_OFF_RECOVERY makes it error-active with both counters 0; SEGMENT_TIMEOUT of a client with a
transfer in progress ends the transfer with abort 0x05040000. None of them changes package memory, a function, a ring or
a session. (13_management_link_and_sessions.md (R326, R328, R329, R332, R340)) -/
def Obligations.BusRows : Prop :=
  ∀ s : State, s.awake = true →
    let same (t : State) : Prop := t.mem = s.mem ∧ t.fns = s.fns ∧ t.seq = s.seq ∧ t.mgt.sessions = s.mgt.sessions
    (s.obj (okey 0x1100 3) ≠ 0 → s.busUp = true →
      ∃ t, exec .heartbeat s = .next t ∧ same t ∧ t.out.head? = some (.frame (0x700 + s.ctl.nodeId) [5]) ∧
        t.obj (okey 0x1101 6) = satAdd 64 (s.obj (okey 0x1101 6)) 1) ∧
    (s.obj (okey 0x1101 3) ≠ 2 → ∀ tec rec_ : Nat,
      ∃ t, exec (.busError tec rec_) s = .next t ∧ same t ∧ t.obj (okey 0x1101 1) = min tec 255 ∧ t.obj (okey 0x1101 2) = min rec_ 255 ∧
        t.obj (okey 0x1101 3) = (if 128 ≤ tec ∨ 128 ≤ rec_ then 1 else 0)) ∧
    (s.obj (okey 0x1101 3) ≠ 2 →
      ∃ t, exec .busOff s = .next t ∧ same t ∧ t.obj (okey 0x1101 3) = 2 ∧
        t.obj (okey 0x1101 4) = satAdd 32 (s.obj (okey 0x1101 4)) 1 ∧ t.out = .event 0x0A20 :: s.out ∧
        ∀ cl, cl < 128 → t.xfer cl = none) ∧
    (s.obj (okey 0x1101 3) = 2 →
      ∃ t, exec .busOffRecovery s = .next t ∧ same t ∧ t.obj (okey 0x1101 3) = 0 ∧ t.obj (okey 0x1101 1) = 0 ∧ t.obj (okey 0x1101 2) = 0) ∧
    (∀ cl : ClientNo, (s.xfer cl.val).isSome = true →
      ∃ t, exec (.segmentTimeout cl) s = .next t ∧ same t ∧ t.xfer cl.val = none ∧ t.said cl.val (.abort 0x05040000) ∧
        ∀ c, c ≠ cl.val → t.xfer c = s.xfer c)

/-- OPEN and RESPONSE open a session, and failures lock a client out. For a client that can be reached: OPEN at privilege P
with a key in its slot, fewer than 8 sessions open and the client not locked out is confirmed, closes the client's
session if it has one, and keeps a challenge for P; without a key it is refused with 0x0F000001, with 8 sessions or in a
lockout with 0x08000022. RESPONSE to a challenge with the HMAC of the key over the message of R334 opens, for a client
without a session, a session of privilege P with no selector set and clears the failures; with any other value it is
refused with 0x0F000001, the challenge is gone, event 0x0A10 is raised, and the failure is counted or, at the limit
2A10/03, locks the client out with event 0x0A11 and the count at zero. LOCKOUT_EXPIRY ends a lockout and
CHALLENGE_EXPIRY a challenge, and neither changes anything else of the client. (13_management_link_and_sessions.md
(R333, R334, R335, R336)) -/
def Obligations.HandshakeOpensSession : Prop :=
  ∀ (cl : ClientNo) (s : State), s.reachable cl.val = true →
    (∀ p : Nat, p ≤ 3 →
      (s.keyOf p = [] → ∃ t, exec (.open cl p) s = .next t ∧ t.said cl.val (.abort 0x0F000001)) ∧
      (s.keyOf p ≠ [] → (s.sessionCount = 8 ∨ (s.clientOf cl.val).locked = true) →
        ∃ t, exec (.open cl p) s = .next t ∧ t.said cl.val (.abort 0x08000022) ∧ t.mgt.clients = s.mgt.clients) ∧
      (s.keyOf p ≠ [] → s.sessionCount ≠ 8 → (s.clientOf cl.val).locked = false →
        ∃ t c, exec (.open cl p) s = .next t ∧ t.said cl.val .confirm ∧
          t.clientOf cl.val = { s.clientOf cl.val with chal := some (p, c) } ∧
          (∀ a, a ≠ cl.val → t.clientOf a = s.clientOf a) ∧
          (∀ n x, s.sessionOf cl.val = some (n, x) → FMap.get none s.mgt.sessions n = some x → FMap.get none t.mgt.sessions n = none))) ∧
    (∀ (p ch : Nat) (mac : List Byte), (s.clientOf cl.val).chal = some (p, ch) → mac.length = 32 →
      (hmac (s.keyOf p) (macMessage ch cl.val p) = mac → s.sessionOf cl.val = none → s.freeSession ≠ none →
        ∃ t n x, exec (.response cl mac) s = .next t ∧ t.said cl.val .confirm ∧ t.sessionOf cl.val = some (n, x) ∧
          s.freeSession = some n ∧ x.priv = p ∧ x.sel = [] ∧
          t.clientOf cl.val = { s.clientOf cl.val with chal := none, fails := 0 }) ∧
      (hmac (s.keyOf p) (macMessage ch cl.val p) ≠ mac →
        ∃ t, exec (.response cl mac) s = .next t ∧ t.said cl.val (.abort 0x0F000001) ∧ .event 0x0A10 ∈ t.out ∧
          (if s.obj (okey 0x2A10 3) ≤ (s.clientOf cl.val).fails + 1 then
            t.clientOf cl.val = { chal := none, fails := 0, locked := true } ∧ .event 0x0A11 ∈ t.out
          else t.clientOf cl.val = { s.clientOf cl.val with chal := none, fails := (s.clientOf cl.val).fails + 1 }))) ∧
    (∃ t, exec (.lockoutExpiry cl) s = .next t ∧ t.clientOf cl.val = { s.clientOf cl.val with locked := false }) ∧
    (∃ t, exec (.challengeExpiry cl) s = .next t ∧ t.clientOf cl.val = { s.clientOf cl.val with chal := none })

/-- CLOSE, CLOSE_SESSION and IDLE_TIMEOUT close a session; KEY_WRITE writes a key. CLOSE by a client with a session of
Operator privilege or more is confirmed and the session is gone. CLOSE_SESSION by a Custodian, naming an open session,
is confirmed, the session is gone and event 0x0A13 is raised. IDLE_TIMEOUT of an open session closes it with event
0x0A12 and counts it in 2A11/04; a transfer of its client is ended with abort 0x0F000002. KEY_WRITE by a Custodian of a
key of 16 to 64 bytes, or of none but for the Custodian level, is confirmed, puts the key into the slot of its level,
leaves the other keys and discards pending challenges of the level; any other length byte is refused with 0x06090030 and
no key changes. (13_management_link_and_sessions.md (R336, R337)) -/
def Obligations.SessionsClose : Prop :=
  ∀ (cl : ClientNo) (s : State),
    (s.serves cl.val 1 →
      ∃ t, exec (.close cl) s = .next t ∧ t.said cl.val .confirm ∧
        ∀ n x, s.sessionOf cl.val = some (n, x) → FMap.get none s.mgt.sessions n = some x → FMap.get none t.mgt.sessions n = none) ∧
    (s.serves cl.val 3 → ∀ n : Nat, 1 ≤ n → n ≤ 8 → (FMap.get none s.mgt.sessions n).isSome = true →
      (∀ m x, s.sessionOf cl.val = some (m, x) → m ≠ n) →
      ∃ t, exec (.closeSession cl n) s = .next t ∧ t.said cl.val .confirm ∧ FMap.get none t.mgt.sessions n = none ∧
        .event 0x0A13 ∈ t.out) ∧
    (s.awake = true → ∀ (n : Nat) (x : Session), FMap.get none s.mgt.sessions n = some x →
      ∃ t, exec (.idleTimeout n) s = .next t ∧ FMap.get none t.mgt.sessions n = none ∧ t.out.head? = some (.event 0x0A12) ∧
        t.obj (okey 0x2A11 4) = satAdd 32 (s.obj (okey 0x2A11 4)) 1 ∧
        ((s.xfer x.cl).isSome = true → t.xfer x.cl = none ∧ .answer x.cl (.abort 0x0F000002) ∈ t.out) ∧
        (∀ m, m ≠ n → FMap.get none t.mgt.sessions m = FMap.get none s.mgt.sessions m) ∧ t.mem = s.mem ∧ t.fns = s.fns) ∧
    (s.serves cl.val 3 → ∀ (p : Nat) (b : Byte) (key : List Byte), p ≤ 3 → key.length = 64 →
      (((b.toNat = 0 ∧ p ≠ 3) ∨ (16 ≤ b.toNat ∧ b.toNat ≤ 64)) →
        ∃ t, exec (.keyWrite cl p (b :: key)) s = .next t ∧ t.said cl.val .confirm ∧
          FMap.get [] t.mgt.keys p = key.take b.toNat ∧
          (∀ q, q ≠ p → FMap.get [] t.mgt.keys q = FMap.get [] s.mgt.keys q) ∧
          (∀ c ch, (t.clientOf c).chal ≠ some (p, ch))) ∧
      (¬((b.toNat = 0 ∧ p ≠ 3) ∨ (16 ≤ b.toNat ∧ b.toNat ≤ 64)) →
        ∃ t, exec (.keyWrite cl p (b :: key)) s = .next t ∧ t.said cl.val (.abort 0x06090030) ∧ t.mgt.keys = s.mgt.keys))

/-- Outside a session every write but the handshake is answered 0x0F000002 and changes nothing. For a client that can be
reached and has no session: REGISTER_WRITE of any object but 2A01/01 to 2A01/04, with any data, is answered 0x0F000002.
The same write in a session whose privilege does not reach the object is answered 0x0F000001. Either leaves package
memory, the functions, the rings, the pans, the streams, the channels, the Windrow, the Stockpile and the keys as they
are. (13_management_link_and_sessions.md (R333), 12_object_dictionary.md (R322, R323)) -/
def Obligations.WithoutSessionRefused : Prop :=
  ∀ (cl : ClientNo) (i j : Nat) (data : List Byte) (s : State), s.reachable cl.val = true → ¬(i = 0x2A01 ∧ 1 ≤ j ∧ j ≤ 4) →
    let same (t : State) : Prop := t.mem = s.mem ∧ t.fns = s.fns ∧ t.seq = s.seq ∧ t.pans = s.pans ∧ t.strm = s.strm ∧
      t.chans = s.chans ∧ t.win = s.win ∧ t.stock = s.stock ∧ t.cfg = s.cfg ∧ t.mgt.keys = s.mgt.keys
    (s.sessionOf cl.val = none →
      ∃ t, exec (.registerWrite cl i j data) s = .next t ∧ t.said cl.val (.abort 0x0F000002) ∧ same t) ∧
    (∀ n x, s.sessionOf cl.val = some (n, x) → x.priv < (levelOf i j).writer →
      ∃ t, exec (.registerWrite cl i j data) s = .next t ∧ t.said cl.val (.abort 0x0F000001) ∧ same t)

/-- REGISTER_WRITE of a plain object stores its value, or is refused without effect. For a client with a session that
reaches the object, outside Quiesced, and an object that can be read and written, is no selector and has no effect of
its own: data of another length is answered 0x06070010; a value outside the object's range is answered with the code of
that check; a locked object is answered 0x0F000008; otherwise the write is confirmed and the object holds the little-
endian value. A refused write changes no object but the counters of requests and answers. HEARTBEAT_TIME, the write of
1100/03, is one such write. (12_object_dictionary.md (R305, R306, R307, R308, R312, R322, R323)) -/
def Obligations.PlainWriteStores : Prop :=
  ∀ (cl : ClientNo) (i j : Nat) (data : List Byte) (row : ObjRow) (s : State), objRow i j = some row → row.acc = .rw →
    row.sel = false → j < 256 → indexExists i = true → s.serves cl.val row.lvl.writer → s.cfg.snap.state ≠ 2 →
    (commandKeys ++ [0x300001, 0x2C9201, 0x1F0001]).contains (canonKey i j) = false → i ≠ 0x2A01 → i ≠ 0x2A81 → i ≠ 0x2A82 →
    let kept (t : State) : Prop := ∀ k, k ≠ okey 0x1101 5 → k ≠ okey 0x1101 6 → k ≠ okey 0x1110 1 → t.obj k = s.obj k
    (data.length ≠ row.ty.size →
      ∃ t, exec (.registerWrite cl i j data) s = .next t ∧ t.said cl.val (.abort 0x06070010) ∧ kept t) ∧
    (data.length = row.ty.size → ∀ c, s.valueBad row i j (leNat data) = some c →
      ∃ t, exec (.registerWrite cl i j data) s = .next t ∧ t.said cl.val (.abort c) ∧ kept t) ∧
    (data.length = row.ty.size → s.valueBad row i j (leNat data) = none →
      (s.locked i j (leNat data) = true →
        ∃ t, exec (.registerWrite cl i j data) s = .next t ∧ t.said cl.val (.abort 0x0F000008) ∧ kept t) ∧
      (s.locked i j (leNat data) = false →
        ∃ t, exec (.registerWrite cl i j data) s = .next t ∧ t.said cl.val .confirm ∧
          t.obj (okey i j) = leNat data)) ∧
    (s.serves cl.val 1 → ∀ ms : Nat, ms < 65536 →
      ∃ t, exec (.heartbeatTime cl ms) s = .next t ∧ t.said cl.val .confirm ∧ t.obj (okey 0x1100 3) = ms)

/-- USDO_REQUEST and MAILBOX_REQUEST carry the transfers that the endpoint serves; MAILBOX_RESPONSE_CLEARED. An expedited
download to this node, by USDO_REQUEST of a client that can be reached, is exactly REGISTER_WRITE of its object and
data. A message for another node, or one that cannot reach the endpoint, changes nothing. An expedited upload answers
the data of the object, or an abort: that of R323 where the client may not read it. With the control island running and
both buffers of a channel free, MAILBOX_REQUEST of an expedited download to an object other than 1F00 leaves its
sequence number and the answer in the response buffer, and its other effects are those of REGISTER_WRITE by client 128
plus the channel; with the response buffer FULL the request waits. MAILBOX_RESPONSE_CLEARED frees the response buffer; a
request that waits, for this node, is served then. A download in two segments, by a client whose session reaches an
object that may be written, of the size announced: the initiation is confirmed and keeps a transfer; a first segment,
not the last, is confirmed and kept; the last segment ends the transfer and makes the write of both segments' bytes, as
the endpoint serves it. (13_management_link_and_sessions.md (R328, R330, R331, R332)) -/
def Obligations.MessagesCarryTransfers : Prop :=
  ∀ s : State,
    (∀ (cl : ClientNo) (dest i j : Nat) (d : List Byte) (msg : Usdo),
      (s.reachable cl.val = true → dest = s.ctl.nodeId →
        exec (.usdoRequest cl dest (.download i j d)) s = exec (.registerWrite cl i j d) s) ∧
      ((s.reachable cl.val = false ∨ dest ≠ s.ctl.nodeId) → exec (.usdoRequest cl dest msg) s = .next s) ∧
      (s.reachable cl.val = true → dest = s.ctl.nodeId →
        ∃ t, exec (.usdoRequest cl dest (.upload i j)) s = .next t ∧
          match (s.countRequest cl.val).gate cl.val i j false with
          | some c => t.said cl.val (.abort c)
          | none => (∃ b, t.said cl.val (.data b)) ∨ (∃ c, t.said cl.val (.abort c)))) ∧
    (∀ (ch : MbxNo) (seq i j : Nat) (d : List Byte) (msg : Usdo), s.awake = true →
      (s.mbx ch.val = {} → i ≠ 0x1F00 →
        ∃ t u a, exec (.mailboxRequest ch seq s.ctl.nodeId (.download i j d)) s = .next t ∧
          exec (.registerWrite ⟨128 + ch.val, by omega⟩ i j d) s = .next u ∧ u.said (128 + ch.val) a ∧
          t = u.setMbx ch.val { req := none, resp := some (seq, a) }) ∧
      (∀ x, s.mbx ch.val = { req := none, resp := some x } → ∀ dest,
        exec (.mailboxRequest ch seq dest msg) s = .next (s.setMbx ch.val { req := some (seq, dest, msg), resp := some x })) ∧
      (∀ x, s.mbx ch.val = { req := none, resp := some x } →
        exec (.mailboxResponseCleared ch) s = .next (s.setMbx ch.val {})) ∧
      (∀ x, s.mbx ch.val = { req := some (seq, s.ctl.nodeId, .download i j d), resp := some x } →
        i ≠ 0x1F00 → ∃ t a, exec (.mailboxResponseCleared ch) s = .next t ∧ t.mbx ch.val = { req := none, resp := some (seq, a) })) ∧
    (∀ (cl : ClientNo) (i j : Nat) (a b : List Byte) (row : ObjRow), s.reachable cl.val = true →
      (∃ n x, s.sessionOf cl.val = some (n, x) ∧ row.lvl.writer ≤ x.priv) → objRow i j = some row → indexExists i = true →
      row.acc ≠ .ro → row.acc ≠ .const → (a ++ b).length = row.ty.size → i ≠ 0x1F00 →
      ∃ t u, exec (.usdoRequest cl s.ctl.nodeId (.downloadInit i j (a ++ b).length)) s = .next t ∧ t.said cl.val .confirm ∧
        t.xfer cl.val = some { index := i, sub := j, down := true, size := (a ++ b).length, data := [] } ∧
        exec (.usdoRequest cl s.ctl.nodeId (.downloadSegment a false)) t = .next u ∧ u.said cl.val .confirm ∧
        u.xfer cl.val = some { index := i, sub := j, down := true, size := (a ++ b).length, data := a } ∧
        let x := ((u.countRequest cl.val).setXfer cl.val none).serveWrite cl.val i j (a ++ b)
        exec (.usdoRequest cl s.ctl.nodeId (.downloadSegment b true)) u = .next (x.1.answer cl.val x.2))

/-- CAPTURE, COMMIT and ERASE, and how a commit or an erase ends. For a client with Expert privilege, the snapshot Live and
no command of 2B80/01 in progress: CAPTURE writes the image of the settings to memory at 2B80/02, no byte elsewhere, and
is confirmed; COMMIT of an image that does not check is answered 0x08000000, and 2B80/03 shows the failure; COMMIT of an
image that checks, with records that may all be applied, is confirmed and goes on to store it, and one with a record
that may not is answered with that record's code; ERASE is confirmed and goes on. COMMIT_STORED of a stored commit makes
the target bank the one loaded and counts it; a failed step raises event 0x0B20 and is shown. BANK_ERASED, outside
Quiesced, ends the erase: the bank that is not loaded reads erased, or the failure is shown.
(14_configuration_and_readback.md (R342, R346, R350, R351, R352, R358)) -/
def Obligations.CaptureCommitErase : Prop :=
  ∀ (cl : ClientNo) (s : State),
    let u := s.countRequest cl.val
    let a := s.obj (okey 0x2B80 2)
    let image := makeImage 0 u.settings.length (u.settings.flatMap BankRec.bytes)
    let chk := imageCheck (s.rdBytes a 64) (fun n => s.rdBytes (a + 64) n)
    (s.serves cl.val 2 → s.cfg.snap.state = 0 → s.cfg.commit.status ≠ 1 →
      (∃ t, exec (.capture cl) s = .next t ∧ t.said cl.val .confirm ∧ t.cfg.commit = { status := 2, cmd := 1 } ∧
        t.rdBytes a image.length = image ∧ (∀ b, b < a ∨ a + image.length ≤ b → t.rd8 b = s.rd8 b)) ∧
      (chk.1 ≠ 0 → ∃ t, exec (.commit cl) s = .next t ∧ t.said cl.val (.abort 0x08000000) ∧
        t.cfg.commit = { status := 3, cmd := 2, abort := 0x08000000 }) ∧
      (chk.1 = 0 → match u.firstBad (u.privOf cl.val) 0 chk.2 with
        | some (n, c) => ∃ t, exec (.commit cl) s = .next t ∧ t.said cl.val (.abort c) ∧
          t.cfg.commit = { status := 3, cmd := 2, record := n, abort := c } ∧ t.cfg.flash = s.cfg.flash
        | none => ∃ t, exec (.commit cl) s = .next t ∧ t.said cl.val .confirm ∧ t.cfg.commit.status = 1 ∧ t.cfg.commit.cmd = 2 ∧
          t.cfg.flash = s.cfg.flash) ∧
      (∃ t, exec (.erase cl) s = .next t ∧ t.said cl.val .confirm ∧ t.cfg.commit = { status := 1, cmd := 3 } ∧ t.mem = s.mem ∧
        t.cfg.flash = s.cfg.flash)) ∧
    (s.awake = true → s.cfg.commit.status = 1 → s.cfg.commit.cmd = 2 →
      (∃ t, exec (.commitStored none) s = .next t ∧ t.cfg.commit = { status := 2, cmd := 2, step := 4 } ∧
        t.obj (okey 0x2B10 1) = s.targetBank ∧ t.obj (okey 0x2B10 2) = s.nextSeq ∧ t.obj (okey 0x2B10 3) = 0 ∧
        t.obj (okey 0x2B11 3) = satAdd 32 (s.obj (okey 0x2B11 3)) 1 ∧ t.mem = s.mem) ∧
      (∀ k, ∃ t, exec (.commitStored (some k)) s = .next t ∧ t.cfg.commit = { status := 3, cmd := 2, step := k, abort := 0x0B20 } ∧
        t.out = .event 0x0B20 :: s.out ∧ t.obj (okey 0x2B10 1) = s.obj (okey 0x2B10 1) ∧
        t.obj (okey 0x2B11 4) = satAdd 32 (s.obj (okey 0x2B11 4)) 1)) ∧
    (s.awake = true → s.cfg.commit.status = 1 → s.cfg.commit.cmd = 3 →
      s.cfg.snap.state ≠ 2 →
      (∃ t, exec (.bankErased true) s = .next t ∧ t.cfg.commit = { status := 2, cmd := 3 } ∧
        ∀ i, i < 65536 → t.flashBytes s.targetBank i 1 = [0xFF]) ∧
      (∃ t, exec (.bankErased false) s = .next t ∧ t.cfg.commit = { status := 3, cmd := 3, step := 1 }))

/-- QUIESCE, QUIESCED, RELEASE and SNAPSHOT_EXPIRED take the snapshot through its states. For a client with Expert
privilege: QUIESCE when Live, with no commit or capture in progress, is confirmed and the state is Quiescing; otherwise
it is refused with 0x08000022. QUIESCED with everything at rest, the window slices written back or holding no group,
makes the state Quiesced, counts the snapshot in 3000/04, shows its time in microseconds in 3000/05, and changes no
memory, function, work order, pan or resident group. With groups resident that are not written back, none of a region
that is not poisoned with a parity error, QUIESCED asks once for the write-back of every group of a region that is not
poisoned, and the groups stay resident. RELEASE when Quiesced is confirmed and SNAPSHOT_EXPIRED raises event 0x0B30;
either leaves Releasing or, when no pan is to be raised, Live; with no arrival waiting at the Stockpile port they change
no memory, function, work order or pan. (14_configuration_and_readback.md (R353, R354, R355, R356),
02_arithmetic_and_accumulation.md (R53), 04_gradient_products.md (R105)) -/
def Obligations.SnapshotRows : Prop :=
  ∀ (cl : ClientNo) (s : State),
    let same (t : State) : Prop := t.mem = s.mem ∧ t.fns = s.fns ∧ t.seq = s.seq ∧ t.pans = s.pans
    (s.serves cl.val 2 →
      (s.cfg.snap.state = 0 → (s.cfg.commit.status ≠ 1 ∨ s.cfg.commit.cmd = 3) →
        ∃ t, exec (.quiesce cl) s = .next t ∧ t.said cl.val .confirm ∧
          t.cfg.snap = { state := 1, since := s.timeUs, left := s.timeUs } ∧ same t) ∧
      ((s.cfg.snap.state ≠ 0 ∨ s.cfg.commit.status = 1 ∧ s.cfg.commit.cmd ≠ 3) →
        ∃ t, exec (.quiesce cl) s = .next t ∧ t.said cl.val (.abort 0x08000022) ∧ t.cfg = s.cfg ∧ same t) ∧
      (s.cfg.snap.state = 2 → s.stock.waiting = [] → ∃ t, exec (.release cl) s = .next t ∧ t.said cl.val .confirm ∧ same t ∧
        (t.cfg.snap.state = 0 ∨ t.cfg.snap.state = 3) ∧ t.cfg.snap.expired = s.cfg.snap.expired) ∧
      (s.cfg.snap.state ≠ 2 → ∃ t, exec (.release cl) s = .next t ∧ t.said cl.val (.abort 0x08000022) ∧ t.cfg = s.cfg ∧ same t)) ∧
    (s.awake = true → s.cfg.snap.state = 1 → s.allAtRest = true →
      (s.cfg.snap.flushed = true ∨ s.win.frames = [] →
        ∃ t, exec .quiesced s = .next t ∧ t.cfg.snap = { s.cfg.snap with state := 2, since := s.timeUs, flushed := true } ∧
          t.obj (okey 0x3000 4) = satAdd 32 (s.obj (okey 0x3000 4)) 1 ∧
          t.obj (okey 0x3000 5) = min (s.timeUs - s.cfg.snap.since) (2 ^ 32 - 1) ∧ same t ∧ t.win = s.win) ∧
      (s.cfg.snap.flushed = false → (∀ e ∈ s.win.frames, (s.region (e.1 / 2 ^ 20)).poisoned = false → e.2.bad = false) →
        ∃ t, exec .quiesced s = .next t ∧ t.cfg.snap.flushed = true ∧ t.mem = s.mem ∧ t.fns = s.fns ∧ t.pans = s.pans ∧
          t.win.frames = s.win.frames ∧
          ∀ e ∈ s.win.frames, (s.region (e.1 / 2 ^ 20)).poisoned = false → t.winWrites (e.1 / 2 ^ 20) ≠ [])) ∧
    (s.awake = true → s.cfg.snap.state = 2 → s.stock.waiting = [] →
      ∃ t, exec .snapshotExpired s = .next t ∧ same t ∧ t.out = .event 0x0B30 :: s.out ∧ t.cfg.snap.expired = true ∧
        (t.cfg.snap.state = 0 ∨ t.cfg.snap.state = 3)) ∧
    (s.cfg.snap.state ≠ 2 → exec .snapshotExpired s = .next s)

/-- Rows that write one register. For a client with Expert privilege, outside Quiesced, each of these is confirmed.
REGION_RESTORE of a region in use lifts its poison, and leaves its contents, where function C is not Wedged.
STOCKPILE_PART of 1 to 7 puts the split into 2B20/01 where functions 4 and 5 are not Starting, Running or Stopping.
WLB_INVALIDATE leaves no entry of the walkers of its mask. FAULT_LOG_ACKNOWLEDGE acknowledges every entry of the log, so
that the error interrupt falls. INJECT_ARM arms the injection that 2E80 describes. TEST_EMERGENCY sets 2880/03, and a
power emergency stands where the control island runs. WRITE_1_TO_CLEAR clears in 2350/01, or in 2210/02 to /04, the bits
of the mask and no other. No byte of package memory changes, but that STOCKPILE_PART may rewrite records of the entry
table where there is one. (16_faults_and_reliability.md (R391, R397, R398), 01_block_organisation.md (R20),
06_attention_backward.md (R179), 15_clocks_power_reset.md (R374), 11_work_orders.md (R299)) -/
def Obligations.SingleRegisterRows : Prop :=
  ∀ (cl : ClientNo) (s : State), s.serves cl.val 2 → s.cfg.snap.state ≠ 2 →
    (∀ n : Nat, n < 65536 → n < s.obj (okey 0x2C20 2) → s.isWedged 12 = false →
      ∃ t, exec (.regionRestore cl n) s = .next t ∧ t.said cl.val .confirm ∧ (t.region n).poisoned = false ∧
        (t.region n).owner = (s.region n).owner ∧ (∀ m, m ≠ n → t.region m = s.region m) ∧ t.win.frames = s.win.frames ∧ t.mem = s.mem) ∧
    (∀ n : Nat, 1 ≤ n → n ≤ 7 →
      (∀ f, f = 4 ∨ f = 5 → (s.fn f).state ≠ .starting ∧ (s.fn f).state ≠ .running ∧ (s.fn f).state ≠ .stopping) →
      ∃ t, exec (.stockpilePart cl n) s = .next t ∧ t.said cl.val .confirm ∧ t.obj (okey 0x2B20 1) = n ∧
        (s.obj (okey 0x2410 8) = 0 → t.mem = s.mem)) ∧
    (∀ m : Nat, m < 256 →
      ∃ t, exec (.wlbInvalidate cl m) s = .next t ∧ t.said cl.val .confirm ∧ t.mem = s.mem ∧
        (∀ k, bit m (k / 512) = true → t.wlbAt k = {}) ∧ (∀ k, bit m (k / 512) = false → t.wlbAt k = s.wlbAt k)) ∧
    (∃ t, exec (.faultLogAcknowledge cl) s = .next t ∧ t.said cl.val .confirm ∧ t.errInt = false ∧
      t.flt.log.map LogEnt.code = s.flt.log.map LogEnt.code ∧ t.mem = s.mem) ∧
    (∃ t, exec (.injectArm cl) s = .next t ∧ t.said cl.val .confirm ∧ t.obj (okey 0x2E80 3) = 1 ∧ t.mem = s.mem ∧ t.fns = s.fns) ∧
    (∃ t, exec (.testEmergency cl) s = .next t ∧ t.said cl.val .confirm ∧ t.obj (okey 0x2880 3) = 1 ∧ t.weir.emergency = true ∧
      t.mem = s.mem ∧ t.fns = s.fns) ∧
    (∀ i j m : Nat, (okey i j = 0x235001 ∧ m < 2 ^ 16 ∨ okey i j ∈ [0x221002, 0x221003, 0x221004] ∧ m < 2 ^ 32) → j < 256 →
      ∃ t, exec (.write1ToClear cl i j m) s = .next t ∧ t.said cl.val .confirm ∧ t.mem = s.mem ∧ t.fns = s.fns ∧
        ∀ b, bit (t.obj (okey i j)) b = (bit (s.obj (okey i j)) b && !(bit m b)))

/-- TEST_STOP stops the pans of its hubs, and TEST_RESUME resumes those whose newest crust a test stop saved. For a client
with Expert privilege, outside Quiesced: TEST_STOP naming no pan that holds a crust is confirmed, and each pan of its
hubs that runs, is held or is resuming takes a stop request with cause test, while no other pan changes; naming a pan
that holds a crust it is refused with 0x08000022 and no pan changes. TEST_RESUME is confirmed; where no function is
Wedged, each Stopped pan of its hubs, outside autonomous mode, that has a work order and whose most recent crust was
saved with cause test begins to resume, and every other pan that is not Idle stays as it is; with a function Wedged no
pan changes. (03_array_dataflow.md (R92, R81, R91), 16_faults_and_reliability.md (R393), 15_clocks_power_reset.md
(R378)) -/
def Obligations.TestStopAndResume : Prop :=
  ∀ (cl : ClientNo) (mask : BitVec 64) (s : State), s.serves cl.val 2 → s.cfg.snap.state ≠ 2 →
    (s.maskHoldsCrust mask.toNat = false →
      ∃ t, exec (.testStop cl mask) s = .next t ∧ t.said cl.val .confirm ∧ t.mem = s.mem ∧ t.fns = s.fns ∧
        ∀ p, t.pan p = if bit mask.toNat (p / 64) = true ∧ (s.pan p).active = true then (s.pan p).request causeTest else s.pan p) ∧
    (s.maskHoldsCrust mask.toNat = true →
      ∃ t, exec (.testStop cl mask) s = .next t ∧ t.said cl.val (.abort 0x08000022) ∧ t.pans = s.pans) ∧
    (∃ t, exec (.testResume cl mask) s = .next t ∧ t.said cl.val .confirm ∧ t.mem = s.mem ∧ t.fns = s.fns ∧
      (s.anyWedged = true → t.pans = s.pans) ∧
      (s.anyWedged = false → ∀ p, (s.pan p).state ≠ .idle →
        let saved : Prop := bit mask.toNat (p / 64) = true ∧ (s.hub (p / 64)).autonomous = false ∧ (s.pan p).state = .stopped ∧
          (s.pan p).job.isSome = true ∧ ∃ c, (s.pan p).newest = some c ∧ ckCause c.hdr = causeTest
        (saved → t.pan p = (s.pan p).resuming) ∧ (¬saved → t.pan p = s.pan p)))

/-- DMA_START, DMA_ABORT and DMA_CLEAR do what the channel's state allows. For a client with Operator privilege, outside
Quiesced. With the channel's half reached: a start, function 2 Running, of an Idle channel whose LOW, HIGH and mode
agree begins its list at 2220 + c/02, Active or, where the pacing switch is off, Paced; a start of an Aborting channel
becomes pending, and a further start is refused with 0x0F000003; one in any other state, or without function 2, with
0x08000022. An abort withdraws a pending start; aborts an Active or Paced channel, not halting: with writes that have
not arrived, or with a burst that has been read and goes on to be written, the channel becomes Aborting; with no write
open and nothing read or being read it ends at once, with event 0x0210, a status record of CODE 2 and bit c of 2210/04;
in any other state it is refused. A clear makes a Halted channel Idle and is refused elsewhere. No other channel
changes. A start with a pacing mode and LOW not below HIGH, or HIGH above 64, is refused with 0x06040043, and otherwise
each of the three on a half that is not reached with 0x06060000. (10_dma_channels.md (R256, R270, R271, R272, R273),
12_object_dictionary.md (R322), 16_faults_and_reliability.md (R393)) -/
def Obligations.ChannelControlRows : Prop :=
  ∀ (cl : ClientNo) (c : ChanNo) (s : State), s.serves cl.val 1 → s.cfg.snap.state ≠ 2 →
    let x := s.chan c.val
    let near := s.portReach (chHalf c.val)
    let others (t : State) : Prop := ∀ d, d ≠ c.val → t.chan d = s.chan d
    let did (i : Instr) (y : Chan) : Prop :=
      ∃ t, exec i s = .next t ∧ t.said cl.val .confirm ∧ t.chan c.val = y ∧ others t ∧ t.mem = s.mem
    let refused (i : Instr) (code : Nat) : Prop :=
      ∃ t, exec i s = .next t ∧ t.said cl.val (.abort code) ∧ t.chans = s.chans ∧ t.strm = s.strm ∧ t.mem = s.mem
    (near = true →
      (s.running 2 = true → s.paceBad c.val = false → x.pendStart = false →
        (x.state = .idle → did (.dmaStart cl c)
          { x with
            state := if s.dmaSwitch c.val false then .active else .paced
            daddr := s.obj (chKey c.val 2)
            desc := 0
            haveDesc := false
            off := 0
            rd := 0
            half := false
            done := 0
            got := []
            gather := []
            scatter := []
            switch := s.dmaSwitch c.val false
            gateWait := false
            haltCode := 0
            haltAt := 0 }) ∧
        (x.state = .aborting → did (.dmaStart cl c) { x with pendStart := true }) ∧
        (x.state ≠ .idle → x.state ≠ .aborting → refused (.dmaStart cl c) 0x08000022)) ∧
      (s.paceBad c.val = false → x.pendStart = true → refused (.dmaStart cl c) 0x0F000003) ∧
      (s.paceBad c.val = false → x.pendStart = false → s.running 2 = false → refused (.dmaStart cl c) 0x08000022) ∧
      (x.pendStart = true → did (.dmaAbort cl c) { x with pendStart := false }) ∧
      (x.pendStart = false → x.haltCode = 0 → x.state = .active ∨ x.state = .paced →
        (s.dmaOpen c.val true ≠ [] ∨ (ddStage x.desc = false ∧ x.got ≠ [] ∧ s.chanState c.val = .active) →
          ∃ t, exec (.dmaAbort cl c) s = .next t ∧ t.said cl.val .confirm ∧ (t.chan c.val).state = .aborting ∧ others t ∧ t.mem = s.mem) ∧
        (s.dmaOpen c.val true = [] → s.dmaOpen c.val false = [] → x.got = [] →
          ∃ t, exec (.dmaAbort cl c) s = .next t ∧ t.said cl.val .confirm ∧ .event 0x0210 ∈ t.out ∧
            (t.chan c.val).state = .idle ∧ (t.chan c.val).status / 2 ^ 128 % 256 = 2 ∧ bit (t.obj (okey 0x2210 4)) c.val = true ∧ others t)) ∧
      (x.pendStart = false → x.state ≠ .active → x.state ≠ .paced → refused (.dmaAbort cl c) 0x08000022) ∧
      (x.state = .halted → did (.dmaClear cl c) { x with state := .idle }) ∧
      (x.state ≠ .halted → refused (.dmaClear cl c) (if x.pendStart then 0x0F000003 else 0x08000022))) ∧
    (s.paceBad c.val = true → refused (.dmaStart cl c) 0x06040043) ∧
    (near = false → (s.paceBad c.val = false → refused (.dmaStart cl c) 0x06060000) ∧ refused (.dmaAbort cl c) 0x06060000 ∧
      refused (.dmaClear cl c) 0x06060000)

/-- DESCRIPTOR_READ takes the descriptor, waits for pending writes, or halts the channel with 0x0220. For a channel that is
Active or Paced, not halting, with no descriptor in progress, the control island running and the snapshot Live: while a
write of the GPE to the descriptor's 32 bytes is in flight nothing changes; where its page is not held, the page is
asked for, and only what the channel waits for changes in the channels; a well-formed descriptor is taken, at stream
offset 0, with nothing of its lists read, and nothing else changes; a malformed one halts the channel at once, with
event 0x0220, a status record of CODE 3, bit c of 2210/04 set and the halt counted in 2211/04. No other channel changes.
(10_dma_channels.md (R256, R257, R258, R263, R265, R271, R274)) -/
def Obligations.DescriptorIsRead : Prop :=
  ∀ (c : ChanNo) (s : State),
    let x := s.chan c.val
    let d := s.rdN x.daddr 32
    x.state = .active ∨ x.state = .paced → x.haltCode = 0 → x.haveDesc = false → s.awake = true → s.live = true →
    (s.chanLacks c.val x.daddr 32 = none →
      s.strm.tags.any (fun t => t.req.write && overlaps t.req.addr t.req.len x.daddr 32) = true → exec (.descriptorRead c) s = .next s) ∧
    (∀ p, s.chanLacks c.val x.daddr 32 = some p →
      ∃ t, exec (.descriptorRead c) s = .next t ∧ t.mem = s.mem ∧ (chHalf c.val, p) ∈ t.strm.misses ∧
        t.chan c.val = { x with asked := some p } ∧ ∀ e, e ≠ c.val → t.chan e = s.chan e) ∧
    (s.chanReads c.val x.daddr 32 = true → s.descBad c.val d = false →
      exec (.descriptorRead c) s = .next (s.setChan c.val
        { x with
          desc := d
          haveDesc := true
          serial := x.serial + 1
          off := 0
          rd := 0
          half := false
          got := []
          gather := []
          scatter := []
          asked := none })) ∧
    (s.chanReads c.val x.daddr 32 = true → s.descBad c.val d = true →
      ∃ t, exec (.descriptorRead c) s = .next t ∧ .event 0x0220 ∈ t.out ∧ (t.chan c.val).state = .halted ∧
        (t.chan c.val).status / 2 ^ 128 % 256 = 3 ∧ bit (t.obj (okey 0x2210 4)) c.val = true ∧
        t.obj (okey 0x2211 4) = satAdd 32 (s.obj (okey 0x2211 4)) 1 ∧ (∀ e, e ≠ c.val → t.chan e = s.chan e))

/-- BURST asks for the reads of the next burst, and for the writes of the bytes that have been read. For a channel that is
Active or Paced with a descriptor in progress, not halting, no request of it waiting and no read in flight, the control
island running and the snapshot Live. An open pacing switch makes it Paced, and nothing else changes. With the switch
on, without STAGE: where bytes of the stream have been read, and the pieces of the destination that they go to are
known, mapped and writable, they are permuted by SWAP and one write is asked for per 256-byte-aligned piece, with that
piece's bytes; and where the source has bytes left and their pieces are known, one read is asked for per 256-byte-
aligned piece of the next burst, to the next multiple of 512 of the stream offset or the end. With STAGE, no staged
buffer and credit in the staging launder: a buffer of the launder is begun at the stream offset, and its first burst is
asked for. The requests stand at the ports of the host hub behind those that were waiting; no byte of memory and no
other channel changes. (10_dma_channels.md (R259, R260, R262, R266, R268, R270)) -/
def Obligations.BurstMovesBytes : Prop :=
  ∀ (c : ChanNo) (s : State),
    let x := s.chan c.val
    let asks (l : List Req) := l.map (fun q => (q.hub, q.write, q.run, q.addr, q.len))
    let wants (write : Bool) (l : List (Nat × Nat × Nat)) := (beats l).map (fun p => (chHub c.val, write, p.1, p.2.1, p.2.2))
    let others (t : State) : Prop := (∀ e, e ≠ c.val → t.chan e = s.chan e) ∧ t.mem = s.mem
    let len := ddLength x.desc
    let hi := min len (512 * (x.rd / 512 + 1))
    x.state = .active ∨ x.state = .paced → x.haltCode = 0 → x.haveDesc = true → s.chanBusy c.val = false → s.awake = true →
    s.live = true →
    (s.dmaSwitch c.val x.switch = false →
      ∃ t, exec (.burst c) s = .next t ∧ others t ∧ t.strm = s.strm ∧ t.chan c.val = { x with switch := false, state := .paced }) ∧
    (s.dmaSwitch c.val x.switch = true → ddStage x.desc = false →
      (∀ ps, x.got = [] → x.rd < len → x.side false x.rd hi = (ps, .done) →
        ∃ t, exec (.burst c) s = .next t ∧ others t ∧ asks t.strm.reqs = asks s.strm.reqs ++ wants false ps ∧
          t.chan c.val = { x with switch := true, state := .active, rd := hi }) ∧
      (∀ ps rs, x.got ≠ [] → x.side true x.off (x.off + (x.rd - x.off)) = (ps, .done) →
        (∀ b ∈ beats ps, ∀ p, p = pageOf b.2.1 ∨ p = pageOf (b.2.1 + b.2.2 - 1) →
          (s.tlbHit (chHalf c.val) p).any (fun e => e.write) = true) →
        (if x.rd < len then x.side false x.rd hi = (rs, .done) else rs = []) →
        let data := swapBytes (ddSwap x.desc) ((List.range (x.rd - x.off)).map (fun k => FMap.get 0 x.got (x.off + k)))
        ∃ t, exec (.burst c) s = .next t ∧ others t ∧
          asks t.strm.reqs = asks s.strm.reqs ++ (wants true ps ++ wants false rs) ∧
          (∀ b ∈ beats ps, ∃ q ∈ t.strm.reqs, q.hub = chHub c.val ∧ q.write = true ∧ q.run = b.1 ∧ q.addr = b.2.1 ∧ q.len = b.2.2 ∧
            q.data = (data.drop (b.1 - x.off)).take b.2.2) ∧
          t.chan c.val = { x with switch := true, state := .active, staging := data, got := [], rd := if x.rd < len then hi else x.rd })) ∧
    (∀ l ps, s.dmaSwitch c.val x.switch = true → ddStage x.desc = true → s.stagedBufs c.val = [] → s.stageLaunder c.val = some l →
      s.stageFree c.val = true → 0 < leBufmax (s.entry l) → x.rd < len →
      let stop := min (x.rd + min (len - x.rd) (4096 * leBufmax (s.entry l))) (512 * (x.rd / 512 + 1))
      x.side false x.rd stop = (ps, .done) →
      ∃ t, exec (.burst c) s = .next t ∧ others t ∧ asks t.strm.reqs = asks s.strm.reqs ++ wants false ps ∧
        t.chan c.val = { x with switch := true, state := .active, rd := stop } ∧
        ∃ b ∈ t.strm.bufs, b.staged c.val = true ∧ b.launder = l ∧ b.len = leBufmax (s.entry l) ∧ b.firstRun = x.rd)

/-- DESCRIPTOR_COMPLETE and ABORT_COMPLETE end a descriptor and an abort. Outside Quiesced, for a channel that is Active or
Paced, not halting, with its descriptor wholly written, and all its writes arrived where BARRIER or a gate asks for it:
without a gate, or with a place for the gate handle, the descriptor is counted, in the channel and in 2211/01; with NEXT
0 the channel becomes Idle, otherwise it goes on with the descriptor at NEXT; with IFULL bit c of 2210/03 is set and the
status record has CODE 4, and with NEXT 0 alone CODE 1; a gate handle carries TAG and one unit of the gate launder. With
no place for the gate handle the channel waits for it. ABORT_COMPLETE of an Aborting channel whose writes have arrived,
with nothing read or being read that is still to be written, raises event 0x0210, writes a status record of CODE 2, sets
bit c of 2210/04, and leaves the channel Idle, or lets a pending start take effect. (10_dma_channels.md (R264, R265,
R267, R272, R273)) -/
def Obligations.DescriptorEnds : Prop :=
  ∀ (c : ChanNo) (s : State),
    let x := s.chan c.val
    let d := x.desc
    let q := s.queue (ddGlaunder d)
    (x.state = .active ∨ x.state = .paced → x.haltCode = 0 → x.haveDesc = true → x.off = ddLength d →
      (s.descWrites c.val = [] ∨ (ddBarrier d = false ∧ ddGpush d = false)) → s.awake = true → s.cfg.snap.state ≠ 2 →
      ((ddGpush d = false ∨ (s.pushGate d).isSome = true) →
        ∃ t, exec (.descriptorComplete c) s = .next t ∧ (t.chan c.val).done = x.done + 1 ∧
          t.obj (okey 0x2211 1) = satAdd 64 (s.obj (okey 0x2211 1)) 1 ∧ (t.chan c.val).gateWait = false ∧
          (ddNext d = 0 → (t.chan c.val).state = .idle) ∧
          (ddNext d ≠ 0 → ((t.chan c.val).state = .active ∨ (t.chan c.val).state = .paced) ∧ (t.chan c.val).daddr = ddNext d ∧
            (t.chan c.val).haveDesc = false ∧ (t.chan c.val).off = 0) ∧
          (ddIfull d = true → bit (t.obj (okey 0x2210 3)) c.val = true ∧ (t.chan c.val).status / 2 ^ 128 % 256 = 4) ∧
          (ddIfull d = false → ddNext d = 0 → (t.chan c.val).status / 2 ^ 128 % 256 = 1) ∧
          (ddIfull d = false → ddNext d ≠ 0 → t.mem = s.mem) ∧
          (ddGpush d = true → ∃ h : Handle, h.kind = 0 ∧ h.len = 1 ∧ h.seq = ddTag d % 64 ∧
            (t.queue (ddGlaunder d)).q = q.q ++ [h] ∧ (t.queue (ddGlaunder d)).held = q.held) ∧
          (ddGpush d = false → ∀ e, e ≠ c.val → t.chan e = s.chan e)) ∧
      (ddGpush d = true → (s.pushGate d).isSome = false →
        exec (.descriptorComplete c) s = .next (s.setChan c.val { x with gateWait := true }))) ∧
    (x.state = .aborting → s.dmaOpen c.val true = [] → x.got = [] → (∀ y ∈ s.dmaOpen c.val false, y.slot ≠ x.serial) →
      ∃ t, exec (.abortComplete c) s = .next t ∧ .event 0x0210 ∈ t.out ∧ bit (t.obj (okey 0x2210 4)) c.val = true ∧
        (t.chan c.val).status / 2 ^ 128 % 256 = 2 ∧
        (x.pendStart = false → (t.chan c.val).state = .idle) ∧
        (x.pendStart = true → (t.chan c.val).pendStart = false ∧ (t.chan c.val).daddr = s.obj (chKey c.val 2) ∧
          ((t.chan c.val).state = .active ∨ (t.chan c.val).state = .paced)) ∧
        (∀ e, e ≠ c.val → t.chan e = s.chan e))

/-- RAKE_FETCH starts a buffer or ends its stream, ODD_EPOCH_WAIT tries again, FABRIC_READ_RESPONSE brings the bytes. With
the control island running and the snapshot Live, RAKE_FETCH of a launder with a stream whose run-ahead conditions hold
makes a buffer of the stream's next length, at its place in the buffer memory, holding the next runs of the stream, and,
without EPOCH and with no cached copy of an entry to serve it, requests every piece of those runs; where the launder's
one stream has fetched and pushed all and its queue has room, the stream ends with its end-of-stream handle; with no
stream on the launder nothing changes. ODD_EPOCH_WAIT, the snapshot Live, gives up what its waiting buffer had asked for
and reads the epoch again: even, the runs are requested; odd, it goes on waiting; after as many tries as 2190/01 allows,
function 1 becomes Faulted with 0x0131. FABRIC_READ_RESPONSE to a read of a buffer of a stream without EPOCH frees the
tag, and the buffer holds the bytes that memory has at the request's addresses; a poisoned response repeats the request
once, and at the repeat it is fault 0x0141 of function 1. None of these changes a byte of memory.
(09_streams_and_run_ahead.md (R228, R229, R230, R237, R240, R250), 16_faults_and_reliability.md (R389)) -/
def Obligations.FetchesFillBuffers : Prop :=
  ∀ s : State,
    let asks (l : List Req) := l.map (fun q => (q.addr, q.len))
    let need (rs : List (Nat × Nat)) := rs.flatMap (fun r => pieces r.1 r.2 r.2)
    (∀ (l : LaunderNo) (x : Stream), s.strm.streams.find? (fun x => x.launder = l.val && s.canFetch x) = some x →
      s.awake = true → s.live = true →
      let taken := x.takeRuns (sdRuns x.desc - x.run) x.run (4096 * x.nextLen)
      ∃ t, exec (.rakeFetch l) s = .next t ∧ t.mem = s.mem ∧ s.strm.bufCount < t.strm.bufCount ∧
        (∃ b ∈ t.strm.bufs, b.id = s.strm.bufCount + 1 ∧ b.launder = x.launder ∧ b.ring = x.ring ∧ b.slot = x.slot ∧
          b.role = x.role ∧ b.seq = x.seq ∧ b.len = x.nextLen ∧ b.base = (s.place x.launder x.nextLen).getD 0 ∧ b.firstRun = x.run ∧
          b.lastRun = taken.2 ∧ b.runs = taken.1) ∧
        (sdEpoch x.desc = false → s.stock.copies = [] → (∀ b ∈ s.strm.bufs, b.id ≤ s.strm.bufCount) →
          asks t.strm.reqs = asks s.strm.reqs ++ need taken.1)) ∧
    (∀ (l : LaunderNo) (x : Stream), s.strm.streams.filter (fun x => x.launder = l.val) = [x] → s.canFetch x = false →
      s.stream? x = some x → s.filling x = [] → x.ended = false → x.stopped = false → x.gated = false → x.more = false →
      s.receivers x = [l.val] → s.depthLeft l.val = true → s.awake = true → s.live = true →
      ∃ t, exec (.rakeFetch l) s = .next t ∧ t.mem = s.mem ∧ t.strm.reqs = s.strm.reqs ∧ t.stream? x = some { x with ended := true } ∧
        t.queue l.val = { s.queue l.val with q := (s.queue l.val).q ++ [{ kind := 2, seq := x.seq % 64, len := 0, base := 0, buf := 0 }] }) ∧
    (∀ l : LaunderNo, s.strm.streams.filter (fun x => x.launder = l.val) = [] → exec (.rakeFetch l) s = .next s) ∧
    (∀ (l : LaunderNo) (x : Stream) (b : Buf), s.strm.bufs.find? (fun b => b.launder = l.val && b.waitEpoch && !b.pushed) = some b →
      s.strm.streams.find? (fun x => x.is b.launder b.ring b.slot b.role) = some x → sdEpoch x.desc = true → s.buf? b.id = some b → s.live = true →
      let kept := asks (s.strm.reqs.filter (fun q => !(q.buf = b.id && !q.write)))
      let e := s.rdN (sdEpaddr x.desc) 8
      ∃ t, exec (.oddEpochWait l) s = .next t ∧ t.mem = s.mem ∧
        (b.tries < s.obj (okey 0x2190 1) → e % 2 = 0 → s.stock.copies = [] → asks t.strm.reqs = kept ++ need b.runs ∧
          ∃ c ∈ t.strm.bufs, c.id = b.id ∧ c.waitEpoch = false ∧ c.epoch = e ∧ c.tries = b.tries + 1) ∧
        (b.tries < s.obj (okey 0x2190 1) → e % 2 = 1 → asks t.strm.reqs = kept ∧
          ∃ c ∈ t.strm.bufs, c.id = b.id ∧ c.waitEpoch = true ∧ c.tries = b.tries + 1) ∧
        (s.obj (okey 0x2190 1) ≤ b.tries → (s.fn 1).state = .running → (t.fn 1).state = .faulted ∧ (t.fn 1).fcode = 0x0131)) ∧
    (∀ (h : HubNo) (no : Nat) (k : Tag) (b : Buf), s.tag? h.val no false = some k → k.req.who ≠ .dma → s.buf? k.req.buf = some b →
      b.hop = false → (∀ x ∈ s.strm.streams, x.is b.launder b.ring b.slot b.role = true → sdEpoch x.desc = false) →
      (s.injected 2 h.val = false →
        ∃ t, exec (.fabricReadResponse h no false) s = .next t ∧ t.mem = s.mem ∧ t.strm.tags = eraseOne k s.strm.tags ∧
          ∃ c ∈ t.strm.bufs, c.id = b.id ∧ c.launder = b.launder ∧ c.seq = b.seq ∧
            ∀ i, i < k.req.len → (k.req.addr + i, s.rd8 (k.req.addr + i)) ∈ c.data) ∧
      (k.req.again = false → ∃ t, exec (.fabricReadResponse h no true) s = .next t ∧ t.mem = s.mem ∧ t.fns = s.fns ∧
        t.strm.tags = eraseOne k s.strm.tags ∧ t.strm.reqs = s.judged { k.req with again := true } :: s.strm.reqs) ∧
      (k.req.again = true → (s.fn 1).state = .running →
        ∃ t, exec (.fabricReadResponse h no true) s = .next t ∧ t.mem = s.mem ∧ (t.fn 1).state = .faulted ∧ (t.fn 1).fcode = 0x0141))

/-- PORT_GRANT grants the first request by rank, in its hub's turn; URGENT marks it; WRITE_ACKNOWLEDGED stores the bytes.
Where a hub's port has a ready request and a free tag, and no hub before it in the round robin of its half has,
PORT_GRANT puts one request in flight under the tag: it is ready, and no ready request of the port ranks before it; the
grant is counted in 2111/01 and no function changes; for any requester but a channel, the request is gone from those
that wait and no byte of memory changes. Out of its turn, with nothing ready, or with no tag free, nothing changes.
URGENT marks the ready requests of one requester at a hub and no other. WRITE_ACKNOWLEDGED of a write in flight, not
behind an earlier write of its channel to the same block, frees its tag and puts its bytes, and no others, into memory;
an invalidation that waited for it alone is acknowledged; that of a write of a channel whose halt waits may also bring
the channel's status record. A write behind another leaves everything as it is. (09_streams_and_run_ahead.md (R240,
R241, R242, R243, R248, R249), 10_dma_channels.md (R263)) -/
def Obligations.PortsGrantByRank : Prop :=
  ∀ (h : HubNo) (s : State),
    let asks (l : List Req) := l.map (fun q => (q.hub, q.write, q.who, q.addr, q.len))
    (∀ write : Bool,
      (∀ q no, s.pick h.val write = some q → s.freeTag h.val write = some no → s.hubTurn h.val write = true →
        ∃ t, exec (.portGrant h write) s = .next t ∧ t.fns = s.fns ∧ q ∈ s.strm.reqs ∧ q.hub = h.val ∧
          q.write = write ∧ s.ready q = true ∧
          (∀ y ∈ s.strm.reqs, y.hub = h.val → y.write = write → s.ready y = true → s.rank q ≤ s.rank y) ∧
          (∃ u ∈ t.strm.tags, u.no = no ∧ u.req.hub = h.val ∧ u.req.write = write ∧ u.req.addr = q.addr ∧ u.req.len = q.len) ∧
          (∀ k ∈ s.strm.tags, k.req.hub = h.val → k.no ≠ no) ∧ t.obj (okey 0x2111 1) = satAdd 64 (s.obj (okey 0x2111 1)) 1 ∧
          (q.who ≠ .dma → t.mem = s.mem ∧ asks t.strm.reqs = asks (eraseOne q s.strm.reqs) ∧
            t.strm.tags = s.strm.tags ++ [{ no := no, req := { q with urgent := s.isUrgent q } }])) ∧
      (s.hubTurn h.val write = false →
        exec (.portGrant h write) s = .next s ∧ ∃ k, k / 32 = h.val / 32 ∧ k ≠ h.val ∧ s.grantable k write = true) ∧
      ((s.pick h.val write = none ∨ s.freeTag h.val write = none) → exec (.portGrant h write) s = .next s)) ∧
    (∀ w : Requester, ∃ t, exec (.urgent h w) s = .next t ∧ t.mem = s.mem ∧ t.strm.tags = s.strm.tags ∧
      t.strm.reqs.length = s.strm.reqs.length ∧
      ∀ (i : Nat) (q : Req), s.strm.reqs[i]? = some q →
        t.strm.reqs[i]? = some (if q.hub = h.val ∧ q.who = w ∧ s.readyHere q = true then { q with urgent := true } else q)) ∧
    (∀ no k, s.tag? h.val no true = some k →
      (s.behind k = true → exec (.writeAcknowledged h no) s = .next s) ∧
      (s.behind k = false → (k.req.who = .dma → (s.chan (k.req.hub / 2)).haltCode = 0) →
        ∃ t, exec (.writeAcknowledged h no) s = .next t ∧ t.strm.tags = eraseOne k s.strm.tags ∧
          t.rdBytes k.req.addr k.req.data.length = k.req.data ∧
          (∀ a, a < k.req.addr ∨ k.req.addr + k.req.data.length ≤ a → t.rd8 a = s.rd8 a) ∧
          (∀ half page, s.strm.invals = [{ half := half, page := page, tags := [tagKey h.val k.no] }] →
            t.strm.invals = [] ∧ .invalidated half page ∈ t.out)))

/-- TRANSLATION_RESPONSE serves or faults the requests that wait, and PAGE_INVALIDATION takes the entry away. A response to
a translation that the half has asked for ends the miss. Mapped: the entry is held, of the size and permission answered,
and a request of the half that still waits for a translation lacks another. Absent: where one buffer's reads wait for
the page, its place in the queue has a deferred fault, none of its reads is left and its stream fetches nothing more; a
write of the output or of a window slice that comes next at its hub and waited for it is recorded on launder 3 of the
hub. A response that was not asked for changes nothing. After PAGE_INVALIDATION no entry of the half covers the page,
requests in flight stay, and every request waiting at a port of the half without a translation of its pages is held
until it has one; with no request in flight that was translated through the entry, the acknowledgement is the last thing
sent, otherwise it waits for them. (09_streams_and_run_ahead.md (R243, R244, R247)) -/
def Obligations.TranslationsAndInvalidations : Prop :=
  ∀ (half : HalfNo) (page : Nat) (s : State),
    let asked := s.strm.misses.any (fun m => m.1 = half.val && m.2 = page)
    let waits (q : Req) : Prop := q ∈ s.strm.reqs ∧ q.half = half.val ∧ q.xheld = true ∧ page ∈ q.pages
    let flying := s.strm.tags.any (fun t => t.req.half = half.val && t.req.pages.any (fun p =>
      s.strm.tlb.any (fun e => e.covers half.val page && e.covers half.val p)))
    (asked = true → ∀ large write : Bool,
      ∃ t, exec (.translationResponse half page (.mapped large write)) s = .next t ∧ (half.val, page) ∉ t.strm.misses ∧
        t.tlbHit half.val page = some { half := half.val, page := page, large := large, write := write } ∧
        ∀ q ∈ t.strm.reqs, q.half = half.val → q.xheld = true → t.mapped q = false) ∧
    (asked = true →
      ∃ t, exec (.translationResponse half page .absent) s = .next t ∧ (half.val, page) ∉ t.strm.misses ∧
        (∀ q b, waits q → q.write = false → q.who ≠ .dma → s.buf? q.buf = some b → b.hop = false →
          (∃ x ∈ s.strm.streams, x.is b.launder b.ring b.slot b.role = true) →
          (∀ y, waits y → y.write = false → y.who ≠ .dma → y.buf = q.buf) →
          (∃ c ∈ t.strm.bufs, c.id = b.id ∧ c.fault.isSome = true) ∧ (∀ y ∈ t.strm.reqs, y.buf = q.buf → y.write = true) ∧
          ∀ x ∈ t.strm.streams, x.is b.launder b.ring b.slot b.role = true → x.stopped = true) ∧
        (∀ q w, w = .output ∨ w = .window → q.hub < 64 → s.nextWrite q.hub w = some q → waits q → q.told = false →
          (FMap.get none t.strm.faultRecs (4 * q.hub + 3)).isSome = true)) ∧
    (asked = false → ∀ x, exec (.translationResponse half page x) s = .next s) ∧
    (∃ t, exec (.pageInvalidation half page) s = .next t ∧ t.tlbHit half.val page = none ∧ t.strm.tags = s.strm.tags ∧ t.mem = s.mem ∧
      (∀ q ∈ t.strm.reqs, q.half = half.val → t.mapped q = false → q.xheld = true) ∧
      (flying = false → t.out.head? = some (.invalidated half.val page) ∧ t.strm.invals = s.strm.invals) ∧
      (flying = true → ∃ l, l ≠ [] ∧ t.strm.invals = s.strm.invals ++ [{ half := half.val, page := page, tags := l }]))

/-- HANDLE_POP, GATE_POP, STILLWATER and STREAM_RESUME. Outside Quiesced HANDLE_POP takes the head handle of a launder's
queue: a data handle that no pending write has hit is held by the consumer; one of an output buffer becomes write
requests; an end handle is dropped; a deferred-fault handle stays, and its stream is Held, with event 0x0110 and a fault
record. A release frees the oldest output buffer held, once its writes have been issued. Handles that this makes room
for may follow. GATE_POP, outside Quiesced, takes one handle from a gate launder and lets a stream gated on it go on.
STILLWATER, where the conditions of R235 have held for 2110/02 and the snapshot is Live, wedges function 1 with 0x0130;
otherwise nothing changes. STREAM_RESUME, by a client with Operator privilege outside Quiesced, is refused with
0x08000022 on a launder that has no Held stream, and with 0x0F000007 when function 1 is Wedged; on a Held read stream it
clears the fault record, gives up the buffers after the resume point, and the stream goes on from there; on a Held write
stream its write is made again. (09_streams_and_run_ahead.md (R226, R228, R235, R244, R245, R246, R247, R251)) -/
def Obligations.HandlesGatesAndStreams : Prop :=
  ∀ s : State,
    (∀ l : LaunderNo, s.cfg.snap.state ≠ 2 →
      let q := s.queue l.val
      let now (t : State) (rest held : List Handle) : Prop :=
        t.mem = s.mem ∧ (t.queue l.val).held = held ∧ ∃ more, (t.queue l.val).q = rest ++ more
      (∀ h rest b, q.q = h :: rest → h.kind = 0 → s.buf? h.buf = some b → b.ring ≠ dmaRing → b.role ≠ 3 → b.pushed = true → b.stale = [] →
        ∃ t, exec (.handlePop l false) s = .next t ∧ now t rest (q.held ++ [h]) ∧ t.strm.reqs = s.strm.reqs ∧
          ∃ c ∈ t.strm.bufs, c.id = b.id ∧ c.read = true) ∧
      (∀ h rest b, q.q = h :: rest → h.kind = 0 → s.buf? h.buf = some b → b.ring ≠ dmaRing → b.role = 3 → b.bad = false →
        ∃ t, exec (.handlePop l false) s = .next t ∧ now t rest (q.held ++ [h]) ∧
          t.strm.reqs.map (fun q => (q.addr, q.len)) =
            s.strm.reqs.map (fun q => (q.addr, q.len)) ++ b.runs.flatMap (fun r => pieces r.1 r.2 r.2)) ∧
      (∀ h rest, q.q = h :: rest → h.kind = 2 →
        ∃ t, exec (.handlePop l false) s = .next t ∧ now t rest q.held ∧ t.strm.reqs = s.strm.reqs) ∧
      (∀ h rest b x o, q.q = h :: rest → h.kind = 1 → s.buf? h.buf = some b → b.ring ≠ dmaRing → b.role ≠ 3 →
        s.strm.streams.find? (fun x => x.ring = b.ring && x.slot = b.slot && x.role = b.role && s.reaches x (l.val / 4)) = some x →
        s.order? b.ring b.slot = some o → x.held = false →
        ∃ t f, exec (.handlePop l false) s = .next t ∧ now t q.q q.held ∧ .event 0x0110 ∈ t.out ∧
          (∀ y ∈ t.strm.streams, y.is x.launder x.ring x.slot x.role = true → y.held = true) ∧
          FMap.get none t.strm.faultRecs x.launder = some f ∧ f.faddr = b.fault.getD 0 ∧ f.desc = x.daddr ∧ f.resume = x.pushedRun ∧
          f.cause = 1 ∧ f.write = false) ∧
      (q.q = [] → exec (.handlePop l false) s = .next s ∧ exec (.gatePop l) s = .next s) ∧
      (∀ h rest b, q.held = h :: rest → s.buf? h.buf = some b → b.ring ≠ dmaRing → b.role = 3 →
        s.strm.reqs.any (fun q => q.write && q.buf = b.id) = false →
        ∃ t, exec (.handlePop l true) s = .next t ∧ now t q.q rest ∧ ∀ c ∈ t.strm.bufs, c.id ≠ h.buf) ∧
      (∀ h rest x, q.q = h :: rest →
        s.strm.streams.find? (fun x => x.launder / 4 = l.val / 4 && x.gated && sdGate x.desc = l.val % 4 + 1) = some x →
        ∃ t, exec (.gatePop l) s = .next t ∧ t.mem = s.mem ∧ t.queue l.val = { q with q := rest } ∧
          ∀ y ∈ t.strm.streams, y.is x.launder x.ring x.slot x.role = true → y.gated = false)) ∧
    (∀ h : HubNo,
      let due : Prop := s.still h.val = true ∧ s.live = true ∧ s.obj (okey 0x2110 2) ≤ s.stillMs h.val
      (due → (s.fn 1).state ≠ .off → (s.fn 1).state ≠ .wedged →
        ∃ t, exec (.stillwater h) s = .next t ∧ (t.fn 1).state = .wedged ∧ (t.fn 1).fcode = 0x0130 ∧
          t.obj (fnKey 1 4) = 0x0130 ∧ (∀ n, n ≠ 1 → t.fn n = s.fn n) ∧ t.mem = s.mem) ∧
      (¬due → exec (.stillwater h) s = .next s)) ∧
    (∀ (cl : ClientNo) (l : LaunderNo), s.serves cl.val 1 → s.cfg.snap.state ≠ 2 →
      let find := s.strm.streams.find? (fun x => x.launder = l.val && s.heldStream x)
      let done (t : State) : Prop := t.said cl.val .confirm ∧ t.mem = s.mem ∧ FMap.get none t.strm.faultRecs l.val = none ∧
        t.obj (okey 0x2111 7) = satAdd 32 (s.obj (okey 0x2111 7)) 1
      (s.isWedged 1 = true → ∃ t, exec (.streamResume cl l) s = .next t ∧ t.said cl.val (.abort 0x0F000007) ∧ t.strm = s.strm) ∧
      (s.isWedged 1 = false → s.isHeld l.val = false →
        ∃ t, exec (.streamResume cl l) s = .next t ∧ t.said cl.val (.abort 0x08000022) ∧ t.strm = s.strm) ∧
      (∀ x, s.isWedged 1 = false → find = some x →
        ∃ t, exec (.streamResume cl l) s = .next t ∧ done t ∧
          (∀ b ∈ t.strm.bufs, b.ring = x.ring → b.slot = x.slot → b.role = x.role → b.launder = l.val → b.firstRun < x.pushedRun) ∧
          ∀ y ∈ t.strm.streams, y.is x.launder x.ring x.slot x.role = true → y.held = false ∧ y.stopped = false ∧ y.run = x.pushedRun) ∧
      (s.isWedged 1 = false → s.isHeld l.val = true → find = none →
        ∃ t, exec (.streamResume cl l) s = .next t ∧ done t ∧ ∀ q ∈ t.strm.reqs, 4 * q.hub + 3 = l.val → q.told = false))

/-- STATIONARY_LOAD, RIPPLE_LOAD and BEAT: shadows, active registers, and the sum of a cell. For a pan whose feeders work on
a product: STATIONARY_LOAD of an array that does not ripple, all its shadows free and its operands at hand, writes every
cell's shadow under the array's next tag, and leaves active register, slot and brine. RIPPLE_LOAD, once the old pass has
ended, at level 2 or more, writes the active registers of all arrays that ripple, and zero to their brine. BEAT at a
cell with a beat in its slot consumes the oldest: where its tag is that of the active register or of the shadow, which
then becomes active, the product of the register's element and the beat's code is added to the brine in its units, if
the output is formed, and a product that is not finite marks the cell; the last beat of a chunk ends it. A tag of
neither is fault 0x0D20, and stops the pan. At a cell with an empty slot whose lane does not lag, the feeder gives the
beat of the pan's place under the tag of the array's pass, and the cell consumes it; where the feeder has none, nothing
changes. (02_arithmetic_and_accumulation.md (R29, R31, R33), 03_array_dataflow.md (R60, R63, R67, R68, R69, R70, R72,
R73, R74, R75)) -/
def Obligations.PansLoadAndCompute : Prop :=
  ∀ (p : PanNo) (o : Order) (s : State), s.panOrder p.val = some o → s.panOn (s.pan p.val) = true →
    let cell (t : State) (a n : Nat) : Cell := FMap.get {} ((t.pan p.val).arr a).cells n
    let x := s.pan p.val
    let f := o.feeder p.val
    (∀ (a : Fin 5) (l : List Reg), s.ripples x a.val = false → (x.arr a.val).cells.all (fun c => !c.2.full) = true →
      s.loadOf o f a.val (x.arr a.val).next (x.arr a.val).tag = some l →
      ∃ t, exec (.stationaryLoad p a) s = .next t ∧ t.mem = s.mem ∧ ((t.pan p.val).arr a.val).loaded = (x.arr a.val).loaded + 1 ∧
        ((t.pan p.val).arr a.val).tag = ((x.arr a.val).tag + 1) % 256 ∧
        (∀ n, n < l.length → cell t a.val n = { cell s a.val n with shd := l.getD n {}, full := true }) ∧
        (∀ q, q ≠ p.val → t.pan q = s.pan q) ∧ (∀ b, b ≠ a.val → (t.pan p.val).arr b = x.arr b)) ∧
    (∀ (pt : Part) (pl : Plan) (regs : Nat → List Reg), s.planAt o p.val x.cur = some (pt, pl) →
      let l := (shapeArrays pl.shape).filter (fun a => s.ripples x a)
      l ≠ [] → 2 ≤ x.level → x.cur.beat = 0 → x.quiet = true →
      (∀ a ∈ l, (x.arr a).loaded = (x.arr a).pass ∧ (x.arr a).next = x.cur ∧
        s.loadOf o f a (x.arr a).next (x.arr a).tag = some (regs a)) →
      ∃ t, exec (.rippleLoad p) s = .next t ∧ t.mem = s.mem ∧ (∀ q, q ≠ p.val → t.pan q = s.pan q) ∧
        ∀ a ∈ l, ((t.pan p.val).arr a).rippleNext = false ∧ ((t.pan p.val).arr a).loaded = (x.arr a).loaded + 1 ∧
          ∀ n, n < (regs a).length → cell t a n = { cell s a n with act := (regs a).getD n {}, full := false, brine := 0 }) ∧
    (∀ (a : Fin 5) (n : Fin 256) (b : Beat) (rest : List Beat) (pt : Part) (pl : Plan),
      (cell s a.val n.val).slot = b :: rest → (cell s a.val n.val).ended = false → s.planAt o p.val b.at_ = some (pt, pl) →
      ((cell s a.val n.val).swap b = none →
        ∃ t, exec (.beat p a n) s = .next t ∧ (t.pan p.val).state = .stopped ∧ (t.pan p.val).stopCause = causeFault ∧
          t.obj (okey 0x2D10 5) = satAdd 32 (s.obj (okey 0x2D10 5)) 1 ∧ t.obj (fnKey 13 4) = 0x0D20 ∧
          ((s.fn 13).state = .running → (t.fn 13).state = .faulted)) ∧
      (∀ c, (cell s a.val n.val).swap b = some c →
        let r := c.act.vals.getD b.k 0
        let w : Int := if pl.win then b.anchor - 49 else pl.w
        let u := if pl.shape = 5 then productUnits pl.st.fmt pl.mv.fmt b.m r w else productUnits pl.st.fmt pl.mv.fmt r b.m w
        let i := (pl.outAt pt a.val n.val b.at_).1
        let forms : Bool := s.formed o pl i (pl.outAt pt a.val n.val b.at_).2 && !(pl.toWindrow && s.flakeAt pl i 0)
        ∃ t, exec (.beat p a n) s = .next t ∧ t.mem = s.mem ∧ t.fns = s.fns ∧
          (∀ m, m ≠ n.val → cell t a.val m = cell s a.val m) ∧
          (cell t a.val n.val).slot = rest ∧ (cell t a.val n.val).ended = b.last ∧ (cell t a.val n.val).act = c.act ∧
          (cell t a.val n.val).shd = c.shd ∧ (cell t a.val n.val).full = c.full ∧
          (cell t a.val n.val).brine = (match forms, u with
            | true, some v => (cell s a.val n.val).brine + BitVec.ofInt 64 v
            | _, _ => (cell s a.val n.val).brine) ∧
          (cell t a.val n.val).nonfin = ((cell s a.val n.val).nonfin || (forms && u.isNone)))) ∧
    (∀ (a : Fin 5) (n : Fin 256), (cell s a.val n.val).slot = [] →
      (s.beatFor o p.val a.val n.val = none → s.heldFor p.val x = false → exec (.beat p a n) s = .next s) ∧
      (∀ y pt pl, s.planAt o p.val x.cur = some (pt, pl) → (∀ b, (x.arr b).lag = []) → n.val < shapeCells pl.shape → x.cur.beat < 16 →
        s.issueBeat o p.val a.val n.val = some y →
        exec (.beat p a n) s = .next ((s.setPan p.val y).consume o p.val a.val n.val) ∧ y.cur.beat = (x.cur.beat + 1) % 16 ∧
        ∃ b, (FMap.get ({} : Cell) (y.arr a.val).cells n.val).slot = [b] ∧ b.k = x.cur.beat ∧
          b.tag = (x.arr a.val).tagOf (x.arr a.val).pass))

/-- CHUNK_HANDOFF gives a row of ended cells to the drain unit and clears it. For a pan whose feeders work and whose row of
cells has ended a chunk, which does not stay in its array for a stop, with room for it in the drain unit: CHUNK_HANDOFF
clears the brine and the marks of the row's cells, keeps their registers and slots, and leaves the other cells of the
array as they are; no byte of memory changes, and no other pan. A row with a cell that has not ended its chunk is not
handed off, nor one for which the drain unit waits, nor one whose chunk stays in its array at the boundary of a stop.
(02_arithmetic_and_accumulation.md (R37), 03_array_dataflow.md (R70, R82), 04_gradient_products.md (R98)) -/
def Obligations.ChunksAreHandedOff : Prop :=
  ∀ (p : PanNo) (a : Fin 5) (row : Fin 16) (o : Order) (pt : Part) (pl : Plan) (s : State), s.panOrder p.val = some o →
    s.panOn (s.pan p.val) = true →
    let cell (t : State) (n : Nat) : Cell := FMap.get {} ((t.pan p.val).arr a.val).cells n
    let w := rowCells pl.shape
    let c := (((s.pan p.val).arr a.val).rowHead row.val).at_
    let kept : Prop := pl.toWindrow = true ∧ s.keeps o p.val a.val = true ∧ c.blk + 1 = pl.blocks pt.b
    s.planAt o p.val c = some (pt, pl) → w * row.val < shapeCells pl.shape →
    (((∃ k, k < w ∧ (cell s (row.val * w + k)).ended = false) ∨ s.rowWaits o pl pt (rowKey p.val a.val row.val) c = true ∨ kept) →
      exec (.chunkHandoff p a row) s = .next s) ∧
    ((∀ k, k < w → (cell s (row.val * w + k)).ended = true) → s.rowWaits o pl pt (rowKey p.val a.val row.val) c = false → ¬ kept →
      s.live = true →
      ∃ t, exec (.chunkHandoff p a row) s = .next t ∧ t.mem = s.mem ∧ (∀ q, q ≠ p.val → t.pan q = s.pan q) ∧
        (∀ k, k < w → cell t (row.val * w + k) = { cell s (row.val * w + k) with
          brine := 0
          nonfin := false
          ended := false
          sumA := 0
          sumB := 0
          cnt := 0
          anchor := 0
          at_ := {} }) ∧
        (∀ n, n < shapeCells pl.shape → (n < row.val * w ∨ row.val * w + w ≤ n) → cell t n = cell s n))

/-- PROMOTION_EVENT adds the chunk values of a complete event to the group at its home hub. For an admitted DW or dual draw,
with the snapshot not Quiesced, function C not Faulted and no earlier work order of the ring that owes the group an
event: where the next event of a group of its target region has all its promotions, and the group is resident at the
home hub of the event, without bittern mode, with no forced bittern, a count below 2²⁹, no parity error and no value
that is not a number, PROMOTION_EVENT replaces each element promoted by the binary64 sum of R41, leaves every other
element, counts the event once in the group word, and takes the promotions from those that wait; no byte of memory
changes. An event that is not complete changes nothing, and none is applied while an earlier work order of the ring owes
the group one. (02_arithmetic_and_accumulation.md (R41, R44, R45, R48), 04_gradient_products.md (R98, R107, R112)) -/
def Obligations.PromotionsReachTheGroup : Prop :=
  ∀ (r : RingNo) (slot g : Nat) (s : State) (o : Order) (p : Plan) (tg : Target) (i j ev : Nat) (els : List (Nat × Nat)) (evs : List Nat),
    s.order? r.val slot = some o → o.live = true → s.cfg.snap.state ≠ 2 → s.turnWaits o g = false → s.dwPlan? o = some p → s.target? o.raw = some tg →
    tg.region = g / 2 ^ 20 → s.groupFormed o p tg (g % 2 ^ 20) = (i, j) :: els →
    p.events (slabs o.kind o.raw) (FMap.get 0 o.applied g) = ev :: evs →
    let ps := s.promosOf r.val slot g ev
    let hub := panAt (woMask o.raw) (p.setOf i j * p.z % pansOf (woMask o.raw)) / 64
    (ps.length ≠ els.length + 1 → exec (.promotionEvent r slot g) s = .next s) ∧
    (∀ f, ps.length = els.length + 1 → s.frame? g = some f → f.hub = hub → f.bad = false → gwBittern f.gw = false →
      gwCount f.gw < 2 ^ 29 → rgFbit (s.regionDesc (g / 2 ^ 20)) = false → s.obj (okey 0x2C90 1) ≠ 1 → (s.fn 12).state ≠ .faulted →
      (ps.map Promo.elem).Nodup → (∀ x ∈ ps, x.v.isNan = false) →
      ∃ t f', exec (.promotionEvent r slot g) s = .next t ∧ t.frame? g = some f' ∧ f'.hub = hub ∧ t.mem = s.mem ∧ t.fns = s.fns ∧
        f'.gw = gwMake (gwNonfin f.gw) false false (gwLapse f.gw) 0 (gwCount f.gw + 1) ∧
        (∀ e, FMap.get 0 f'.hi e = match ps.find? (fun x => x.elem = e) with
          | some x => promote64 (FMap.get 0 f.hi e) x.v
          | none => FMap.get 0 f.hi e) ∧
        (∀ x ∈ t.win.promos, ¬ (x.ring = r.val ∧ x.slot = slot ∧ x.group = g ∧ x.event = ev)) ∧
        (∀ k, k ≠ g → t.frame? k = s.frame? k)) ∧
    (∀ (q : Order), s.order? r.val slot = some q → s.turnWaits q g = true → exec (.promotionEvent r slot g) s = .next s)

/-- STOP_REQUEST, CRUST_SAVE and CRUST_RESUME take a pan through a stop and back. STOP_REQUEST with a cause of R85: a
Running pan becomes Stopping with the cause, a Resuming one goes back to Stopped, a Held one keeps the first cause, any
other stays as it is; a pan with a crust takes no request for pre-emption or test. CRUST_SAVE of a Stopping pan at its
boundary, once all that is not kept is handed off, puts the lowest free crust slot to a header with VALID, the cause,
the ring, the slot and LCODE, and the arrays, drain registers and place of the pan, which keeps its cells; the pan is
Stopped, or Resuming if its cause is over, and the save is counted; a pan with no work left runs on, and one whose work
is no product stops without a crust. CRUST_RESUME of a Resuming pan at level 2 or more: a crust with a parity error is
dropped, with fault 0x0D22; one whose header does not agree with the work order stays, with fault 0x0D21; otherwise,
with its operands at hand, the pan runs from the place of the crust, and the slot is free; a pan without a crust runs
on. (03_array_dataflow.md (R81, R82, R83, R85, R86, R88, R90, R91, R93), 15_clocks_power_reset.md (R376, R377)) -/
def Obligations.StopsAndCrusts : Prop :=
  ∀ (p : PanNo) (s : State),
    let x := s.pan p.val
    let others (t : State) : Prop := (∀ q, q ≠ p.val → t.pan q = s.pan q) ∧ t.mem = s.mem
    let faults (t : State) (code : Nat) : Prop := t.obj (fnKey 13 4) = code ∧ t.mem = s.mem ∧
      ((s.fn 13).state = .running → (t.fn 13).state = .faulted ∧ (t.fn 13).fcode = code) ∧
      ∀ q, q ≠ p.val → t.pan q = s.pan q ∨ t.pan q = (s.pan q).request causeFault
    (∀ cause : Nat, 1 ≤ cause → cause ≤ 4 →
      ((cause = 1 ∨ cause = 4) → x.crusts ≠ 0 → exec (.stopRequest p cause) s = .next s) ∧
      (¬ ((cause = 1 ∨ cause = 4) ∧ x.crusts ≠ 0) →
        ∃ t, exec (.stopRequest p cause) s = .next t ∧ others t ∧
          (x.state = .running → t.pan p.val = { x with state := .stopping, stopCause := cause }) ∧
          (x.state = .resuming → t.pan p.val = { x with state := .stopped, stopCause := cause }) ∧
          (x.state = .held → t.pan p.val = { x with stopCause := if x.stopCause = 0 then cause else x.stopCause }) ∧
          (x.state = .idle ∨ x.state = .stopping ∨ x.state = .stopped → t.pan p.val = x))) ∧
    (∀ r slot o, x.job = some (r, slot) → s.order? r slot = some o → x.state = .stopping → x.cur.atBoundary = true → x.crusts < 2 →
      let product : Bool := o.kind.isProduct || o.kind == .boil 0
      (product = true → s.planAt o p.val x.cur = none →
        ∃ t, exec (.crustSave p) s = .next t ∧ others t ∧ t.pan p.val = { x with state := .running, stopCause := 0 }) ∧
      (∀ y, product = true → s.planAt o p.val x.cur = some y →
        (s.atRest o p.val = false → exec (.crustSave p) s = .next s) ∧
        (s.atRest o p.val = true →
          ∃ t k, exec (.crustSave p) s = .next t ∧ others t ∧ (t.pan p.val).newest = some k ∧ (t.pan p.val).job = x.job ∧
            ckValid k.hdr = true ∧ ckCause k.hdr = x.stopCause % 8 ∧ ckRing k.hdr = o.ring % 16 ∧ ckSlot k.hdr = o.slot % 65536 ∧
            ckLcode k.hdr = woLcode o.raw % 8 ∧ k.arrs = x.arrs ∧ k.drain = x.drain ∧ k.cur = x.cur ∧
            (x.crust0.valid = false → (t.pan p.val).crust0 = k ∧ (t.pan p.val).crust1 = x.crust1) ∧
            (x.crust0.valid = true → (t.pan p.val).crust0 = x.crust0 ∧ (t.pan p.val).crust1 = k) ∧
            (t.pan p.val).arrs = x.arrs ∧ (t.pan p.val).drain = x.drain ∧
            t.obj (okey 0x2D10 1) = satAdd 64 (s.obj (okey 0x2D10 1)) 1 ∧
            (s.causeOver x = false → (t.pan p.val).state = .stopped ∧ (t.pan p.val).stopCause = x.stopCause) ∧
            (s.causeOver x = true → s.anyWedged = false → (s.hub (p.val / 64)).autonomous = false →
              (t.pan p.val).state = .resuming))) ∧
      (product = false → s.causeOver x = false →
        ∃ t, exec (.crustSave p) s = .next t ∧ others t ∧ t.pan p.val = { x with state := .stopped, demand := 0 })) ∧
    (∀ r slot o, x.job = some (r, slot) → s.order? r slot = some o →
      x.state = .resuming → s.running 8 = true → 2 ≤ x.level → o.phase = .admitted →
      let product : Bool := o.kind.isProduct || o.kind == .boil 0
      (product = false → ∀ bad, ∃ t, exec (.crustResume p bad) s = .next t ∧ others t ∧
        t.pan p.val = { x with state := .running, stopCause := 0, demand := o.boilDemand }) ∧
      (product = true → x.newest = none → ∀ bad, ∃ t, exec (.crustResume p bad) s = .next t ∧ others t ∧
        t.pan p.val = { x with state := .running, stopCause := 0 }) ∧
      (∀ c, product = true → x.newest = some c →
        (∀ bad : Bool, (bad || c.bad) = true →
          ∃ t, exec (.crustResume p bad) s = .next t ∧ faults t 0x0D22 ∧
            t.pan p.val = { x.dropNewest with state := .stopped, stopCause := causeFault } ∧
            t.obj (okey 0x2D10 3) = satAdd 64 (s.obj (okey 0x2D10 3)) 1) ∧
        (c.bad = false → s.crustOk o p.val c = false →
          ∃ t, exec (.crustResume p false) s = .next t ∧ faults t 0x0D21 ∧
            t.pan p.val = { x with state := .stopped, stopCause := causeFault }) ∧
        (c.bad = false → s.crustOk o p.val c = true → (s.restore o p.val c).isSome = true →
          ∃ t, exec (.crustResume p false) s = .next t ∧ others t ∧ (t.pan p.val).state = .running ∧ (t.pan p.val).stopCause = 0 ∧
            (t.pan p.val).cur = c.cur ∧ (t.pan p.val).crust0 = x.dropNewest.crust0 ∧ (t.pan p.val).crust1 = x.dropNewest.crust1)))

/-- PARK counts an error in a pan's operand area, and repairs it or not by what the word held. For a pan with a work order
every PARK is counted in 2E10/01. A tile that a stream brought is fetched again, with event 0x0E10 and a repair in the
log, and a tile that was computed is computed again, with event 0x0E11; in the middle of a chunk the brine goes into the
free crust slot meanwhile. At the same word again, or in the middle of a chunk with two crusts held, and for a word that
held a sum or data of an earlier work order, it is fault 0x0D41 of function D, and a pan that is saving its crust then
stops without one. An error in a crust slot drops the newest crust and is fault 0x0D22. No byte of package memory
changes. (16_faults_and_reliability.md (R387, R388, R396, R398, R399)) -/
def Obligations.ParksRepairOrFail : Prop :=
  ∀ (p : PanNo) (holds : ParkHold) (off r slot : Nat) (again : Bool) (s : State), (s.pan p.val).job = some (r, slot) →
    let x := s.pan p.val
    let y := { x with flipped := false }
    let mid : Bool := !(x.cur.atBoundary && x.slotsEmpty)
    let stuck : Bool := again || (mid && decide (2 ≤ x.crusts))
    let up (t : State) (k : Nat) : Prop := t.obj (okey 0x2E10 k) = satAdd 64 (s.obj (okey 0x2E10 k)) 1
    let repaired (t : State) (code : Nat) : Prop := t.out = .event code :: s.out ∧ t.fns = s.fns ∧ (∀ q, q ≠ p.val → t.pan q = s.pan q) ∧
      t.pan p.val = (if mid then y.park else y) ∧ ∃ e rest, t.flt.log = e :: rest ∧ e.code = code ∧ e.kind = 3 ∧ e.addr = off
    let lost (t : State) (code : Nat) (z : Pan) : Prop := t.obj (fnKey 13 4) = code ∧
      ((s.fn 13).state = .running → (t.fn 13).state = .faulted ∧ (t.fn 13).fcode = code) ∧
      (t.pan p.val = z ∨ t.pan p.val = z.request causeFault) ∧
      ∀ q, q ≠ p.val → t.pan q = s.pan q ∨ t.pan q = (s.pan q).request causeFault
    ∃ t, exec (.park p holds off again) s = .next t ∧ t.mem = s.mem ∧ up t 1 ∧
      (holds = .streamTile → stuck = false → up t 2 ∧ repaired t 0x0E10) ∧
      (holds = .computedTile → stuck = false → up t 3 ∧ repaired t 0x0E11) ∧
      (holds = .accumulated ∨ holds = .earlierData ∨ (holds = .streamTile ∨ holds = .computedTile) ∧ stuck = true →
        lost t 0x0D41 (if x.state = .stopping ∧ mid = false then { y with state := .stopped, demand := 0 } else y) ∧ t.obj (okey 0x2E10 5) = satAdd 32 (s.obj (okey 0x2E10 5)) 1) ∧
      (holds = .crustSlot → x.newest ≠ none → lost t 0x0D22 y.dropNewest ∧
        t.obj (okey 0x2D10 3) = satAdd 64 (s.obj (okey 0x2D10 3)) 1) ∧
      (holds = .crustSlot → x.newest = none → t.pan p.val = y ∧ (∀ q, q ≠ p.val → t.pan q = s.pan q) ∧ t.fns = s.fns ∧ t.out = s.out)

/-- STOCKPILE_ARRIVAL, ARRIVAL_WRITTEN and SPILL_COMPLETE take an entry from Free to Far. With function 4 Running, the
snapshot Live, no arrival at the port or before it: an arrival whose header breaks R125 is discarded outside back-
pressure, with event 0x0415, counted in 2411/08, and changes no entry; with its entry Free, no output of a work order
coming to it, and room in the near allocation, an arrival is accepted: its entry is Arriving, at its place of the near
allocation, with the tokens and width of the header, and is counted in 2411/01. While an arrival is being written,
function 4 does not run or the snapshot is not Live, it waits behind those that wait. With no arrival waiting and no
entry table in memory: ARRIVAL_WRITTEN puts the data, cut to the bytes of the header, at the entry's address, and no
byte elsewhere; the entry is Held, or at once Spilling. SPILL_COMPLETE of a Spilling entry that no work order reads,
over canonical memory, copies its units to the far allocation and the entry is Far at that address, unless its release
was waiting; of any other entry it changes nothing. (05_stockpile_and_recompute.md (R124, R125, R126, R127, R128, R129,
R131, R134)) -/
def Obligations.StockpileTakesArrivals : Prop :=
  ∀ s : State,
    (∀ header data : List Byte,
      let h := leNat header
      let n := arEntry h
      (s.running 4 = true → s.live = true → s.stock.arriving = none → s.stock.waiting = [] →
        (s.arrivalBad h = true → s.stock.backed = false →
          ∃ t, exec (.stockpileArrival header data) s = .next t ∧ t.out = .event 0x0415 :: s.out ∧ t.stock = s.stock ∧ t.mem = s.mem ∧
            t.obj (okey 0x2411 8) = satAdd 32 (s.obj (okey 0x2411 8)) 1) ∧
        (∀ u, s.arrivalBad h = false → enState (s.entryRec n) = enFree → s.isComing n = false → s.allocFit 0 (arSize h) = some u →
          ∃ t, exec (.stockpileArrival header data) s = .next t ∧
            t.stock.arriving = some { hdr := h, data := data, entry := n, raised := false } ∧ t.stock.waiting = [] ∧
            enState (t.entryRec n) = enArriving ∧ enAddr (t.entryRec n) = (s.allocBase 0 + 65536 * u) % 2 ^ 52 ∧
            enTokens (t.entryRec n) = arTokens h ∧ enWidth (t.entryRec n) = arWidth h ∧
            t.obj (okey 0x2411 1) = satAdd 64 (s.obj (okey 0x2411 1)) 1)) ∧
      ((s.stock.arriving ≠ none ∨ s.running 4 = false ∨ s.live = false) →
        exec (.stockpileArrival header data) s =
          .next (s.setStock { s.stock with waiting := s.stock.waiting ++ [{ hdr := h, data := data }] }))) ∧
    (s.stock.waiting = [] → s.obj (okey 0x2410 8) = 0 →
      (∀ a, s.stock.arriving = some a →
        let e := s.entryRec a.entry
        let l := a.data.take (arBytes a.hdr)
        ∃ t, exec .arrivalWritten s = .next t ∧ t.stock.arriving = none ∧ t.rdBytes (enAddr e) l.length = l ∧
          (∀ b, b < enAddr e ∨ enAddr e + l.length ≤ b → t.rd8 b = s.rd8 b) ∧
          (enState (t.entryRec a.entry) = enHeld ∨ enState (t.entryRec a.entry) = enSpilling)) ∧
      (∀ n : Nat, enState (s.entryRec n) = enSpilling → Memory.wf s.mem = true → (∀ o ∈ s.seq.orders, woEntin o.raw ≠ n) →
        let e := s.entryRec n
        let dst := s.allocBase 1 + 65536 * FMap.get 0 s.stock.spill n
        ∃ t, exec (.spillComplete n) s = .next t ∧ t.obj (okey 0x2411 2) = satAdd 64 (s.obj (okey 0x2411 2)) 1 ∧
          (∀ i, i < 65536 * enSize e → t.rd8 (dst + i) = s.rd8 (enAddr e + i)) ∧
          (∀ b, b < dst ∨ dst + 65536 * enSize e ≤ b → t.rd8 b = s.rd8 b) ∧
          (s.stock.releasing.contains n = false → enState (t.entryRec n) = enFar ∧ enAddr (t.entryRec n) = dst % 2 ^ 52))) ∧
    (∀ n : Nat, enState (s.entryRec n) ≠ enSpilling → exec (.spillComplete n) s = .next s)

/-- ATTS, ATTF and ATTB process the blocks of a round in order, and drain after the last. For the attention work order that
runs, admitted, its revolution begun and the snapshot not Quiesced: the process phase of the next unprocessed block of
the round, where the pan of the block's next query block is up, runs that query block against it, keeps the row states
that this gives, and counts the pairs processed in 2511/03; the block is processed after its last query block, and not
before. ATTS and ATTF, whose row states fit the pan stores, change no byte of memory by it. A block that is out of
order, or processed, or whose pan is not up, changes nothing. After the last block, with the pans up, the drain marks
the revolution drained; ATTS and ATTF write for every query row its statistics m and l, 8 bytes each from STATBASE on.
No function record changes. (06_attention_backward.md (R155, R156, R157, R160, R161, R162, R171)) -/
def Obligations.AttentionProcessesBlocks : Prop :=
  ∀ (r : RingNo) (slot : Nat) (o : Order) (v : Rev) (c : AttPhase → Instr) (s : State),
    (c = .atts r ∧ o.kind = .boil 9 ∨ c = .attf r ∧ o.kind = .boil 10 ∨ c = .attb r ∧ o.kind = .attb) →
    s.attOrder? = some o → o.is r.val slot = true → o.phase = .admitted → s.cfg.snap.state ≠ 2 → s.att.rev = some v →
    let w := o.raw
    let done := (v.inRound.filter (fun x => x.processed)).length
    let all : Prop := v.size ≤ v.round ∨ (v.round + 1 = v.size ∧ v.inRound.length = attB w ∧ ∀ b ∈ v.inRound, b.processed = true)
    (∀ block b, v.block? v.round block = some b →
      let go : Prop := b.processed = false ∧ block = done ∧ s.panUp o (panAt (woMask w) (b.next % pansOf (woMask w))) = true
      (¬ go → exec (c (.process slot block)) s = .next s) ∧
      (go →
        let u := if b.next = 0 then s.attBegin o b else s
        let rows := if o.isB && v.rows.isEmpty then
            (List.range (attHq w)).foldl (fun m h => (List.range (woTq w)).foldl (fun m t =>
              FMap.put {} m (h * woTq w + t) (u.rowOfB w h t)) m) []
          else v.rows
        let run := u.attPair o v b { rows := rows, stage := if b.next = 0 then [] else v.stage } b.next
        ∃ t v', exec (c (.process slot block)) s = .next t ∧ t.att.rev = some v' ∧ v'.rows = run.rows ∧ t.fns = s.fns ∧
          (run.pairs ≠ 0 → t.obj (okey 0x2511 3) = satAdd 64 (s.obj (okey 0x2511 3)) run.pairs) ∧
          (b.next + 1 < attQbs w → ∃ b', v'.block? v.round block = some b' ∧ b'.next = b.next + 1 ∧ b'.processed = false) ∧
          (attQbs w ≤ b.next + 1 → v'.round = v.round → ∃ b', v'.block? v.round block = some b' ∧ b'.processed = true) ∧
          (o.isB = false → rowsSpill o b.next = false → v.returned = [] → t.mem = s.mem))) ∧
    ((v.drained = true ∨ ¬ all ∨ s.pansUp o = false) → exec (c (.drain slot)) s = .next s) ∧
    (v.drained = false → all → s.pansUp o = true →
      ∃ t v', exec (c (.drain slot)) s = .next t ∧ t.att.rev = some v' ∧ v'.drained = true ∧ t.fns = s.fns ∧
        (o.isB = false → ∀ h q, h < attHq w → q < woTq w →
          let x := FMap.get ({} : Row) v.rows (h * woTq w + q)
          t.rdN (woStatbase w + 8 * (h * woTq w + q)) 8 = x.m % 2 ^ 32 + 2 ^ 32 * (x.l % 2 ^ 32)))

/-- BLOCK_SEND, BLOCK_ARRIVAL, SLOT_CREDIT, RIDER_RETURN and REMOTE_TIMEOUT circulate the blocks. For the attention work
order that runs, its revolution begun and the control island running: the next block of the train being sent, with its
credit, and in ATTB processed, is sent, with its header, and counted in 2511/05; any other send changes nothing. A block
that arrives with the header expected, of a hop whose slot credit was granted for, joins the blocks held, and its bytes
are in its slot of the receive area and nowhere else; any other is fault 0x0531 of function 5. A credit is held for its
send. A rider that returns as expected, before the package's last send, is held, written to the return slot and counted
in 2511/06; any other is fault 0x0531. REMOTE_TIMEOUT while the package waits on the ring is fault 0x0530, and changes
nothing otherwise. (06_attention_backward.md (R168, R169, R170, R172, R174)) -/
def Obligations.BlocksGoRoundTheRing : Prop :=
  ∀ (o : Order) (v : Rev) (s : State), s.attOrder? = some o → s.att.rev = some v → s.awake = true →
    let w := o.raw
    let fault (c : Instr) (code : Nat) : Prop :=
      ∃ t, exec c s = .next t ∧ t.obj (fnKey 5 4) = code ∧ t.mem = s.mem ∧ t.att = s.att ∧
        ((s.fn 5).state = .running → (t.fn 5).state = .faulted ∧ (t.fn 5).fcode = code)
    let hop := v.sendRound
    (∀ block, v.block? hop block = none → exec (.blockSend block) s = .next s) ∧
    (∀ block b, v.block? hop block = some b →
      let last : Bool := hop + 1 = v.size
      let ok : Bool := !b.sent && decide (block = (v.train.filter (fun x => x.sent)).length) && (!o.isB || b.processed) && (o.isB || !last) &&
        ((hop = 0 && !last) || v.credit.contains (if last then 2 else (hop + 1) % 2))
      (ok = true → s.cfg.snap.state ≠ 2 →
        ∃ t, exec (.blockSend block) s = .next t ∧ t.fns = s.fns ∧
          .block (headerWord o v b (if !o.isB then 0 else if last then 2 else 1)) (if last then [] else b.payload w)
            (if o.isB then b.riderWords w else []) ∈ t.out ∧
          t.obj (okey 0x2511 5) = satAdd 64 (s.obj (okey 0x2511 5)) 1) ∧
      (ok = false → exec (.blockSend block) s = .next s)) ∧
    (∀ slot, ∃ t, exec (.slotCredit slot) s = .next t ∧ t.att.rev = some { v with credit := slot :: v.credit } ∧ t.mem = s.mem) ∧
    (∀ header payload rider : List Byte,
      let h := leNat header
      let hop := hbHop h
      let bad := headerBad o v h (if o.isB then 1 else 0) hop (roundOwner v.size v.pos hop) || hop = 0 || decide (v.size ≤ hop) ||
        !(v.granted.contains hop) || (v.block? hop (hbBlock h)).isSome
      let n := woHkv w * 2048 * woHd w
      let l := payload.take n ++ (if o.isB then rider.take (4 * n) else [])
      let a := woAttBase w 5 + hop % 2 * (attB w * slotBlock o) + hbBlock h * slotBlock o
      (bad = true → fault (.blockArrival header payload rider) 0x0531) ∧
      (bad = false → ∃ t v' b, exec (.blockArrival header payload rider) s = .next t ∧ t.att.rev = some v' ∧ v'.blocks = v.blocks ++ [b] ∧
        b.owner = hbOwner h ∧ b.block = hbBlock h ∧ b.hop = hop ∧ b.pos = hbPos h ∧ b.tokens = hbTokens h ∧ b.processed = false ∧
        b.sent = false ∧ b.next = 0 ∧ t.fns = s.fns ∧ t.rdBytes a l.length = l ∧ (∀ x, x < a ∨ a + l.length ≤ x → t.rd8 x = s.rd8 x))) ∧
    (∀ header rider : List Byte,
      let h := leNat header
      let bad := !o.isB || headerBad o v h 2 v.size v.pos || !(v.granted.contains v.size) ||
        v.returned.any (fun x => x.block = hbBlock h) || decide (attB w ≤ v.returned.length + v.written)
      let l := rider.take (4 * (woHkv w * 2048 * woHd w))
      let a := woAttBase w 5 + 2 * (attB w * slotBlock o) + hbBlock h * (4 * (woHkv w * 2048 * woHd w))
      (bad = true → fault (.riderReturn header rider) 0x0531) ∧
      (bad = false → v.sendRound < v.size → ∃ t b, exec (.riderReturn header rider) s = .next t ∧ b.block = hbBlock h ∧
        t.att.rev = some { v with returned := v.returned ++ [b] } ∧ t.fns = s.fns ∧
        t.rdBytes a l.length = l ∧ (∀ x, x < a ∨ a + l.length ≤ x → t.rd8 x = s.rd8 x) ∧
        t.obj (okey 0x2511 6) = satAdd 64 (s.obj (okey 0x2511 6)) 1)) ∧
    (v.waits o = true → fault .remoteTimeout 0x0530) ∧ (v.waits o = false → exec .remoteTimeout s = .next s)

/-- WALK fetches the next own block if the page table stayed as it was; ODD_GENERATION_WAIT ends a wait. For the attention
work order that runs, admitted, in round 0, for its next own block, with no wait for an even generation: with
translations missing, the walk asks for them in the half of the block's hub and brings no block; with an odd generation
it waits, counted in 2511/0E; with an even one that stays, and VALID page entries, the block joins the blocks held, with
its owner, place and position (log entry 21), counted in 2511/09, and the tries start anew; when software changes the
generation meanwhile, event 0x0510 is raised and no block is taken; with an entry that is not VALID and an empty WLB it
is fault 0x0540 of function 5; with no tries left, fault 0x0541. ODD_GENERATION_WAIT ends the wait as one failed try,
and is fault 0x0541 when 2590/04 tries have failed. (06_attention_backward.md (R175, R176, R177, R179)) -/
def Obligations.WalksFetchBlocks : Prop :=
  ∀ (r : RingNo) (slot : Nat) (o : Order) (v : Rev) (s : State), s.attOrder? = some o → o.is r.val slot = true →
    o.phase = .admitted → s.cfg.snap.state ≠ 2 → s.att.rev = some v →
    let w := o.raw
    let block := v.inRound.length
    let gen := s.rdN (woPtbase w) 8
    let faults (t : State) (code : Nat) : Prop := t.obj (fnKey 5 4) = code ∧ t.mem = s.mem ∧ t.att.rev = some v ∧
      ((s.fn 5).state = .running → (t.fn 5).state = .faulted ∧ (t.fn 5).fcode = code)
    (v.round = 0 → block < attB w → s.att.odd = false →
      (s.obj (okey 0x2590 4) ≤ s.att.tries → ∀ g, ∃ t, exec (.walk r slot block g) s = .next t ∧ faults t 0x0541) ∧
      (s.att.tries < s.obj (okey 0x2590 4) → s.walkMisses w block ≠ [] →
        ∀ g, ∃ t, exec (.walk r slot block g) s = .next t ∧ t.att = s.att ∧ t.mem = s.mem ∧
          ∀ p ∈ s.walkMisses w block, (attHub w block / 32, p) ∈ t.strm.misses) ∧
      (s.att.tries < s.obj (okey 0x2590 4) → s.walkMisses w block = [] →
        (gen % 2 = 1 → ∀ g, ∃ t, exec (.walk r slot block g) s = .next t ∧ t.att = { s.att with odd := true } ∧ t.mem = s.mem ∧
          t.obj (okey 0x2511 0x0E) = satAdd 64 (s.obj (okey 0x2511 0x0E)) 1) ∧
        (gen % 2 = 0 → (∀ e ∈ s.blockPages w block, (s.pageEntry w e).2.1 = true) →
          (∃ t b, exec (.walk r slot block none) s = .next t ∧ t.att.rev = some { v with blocks := v.blocks ++ [b] } ∧
            b.owner = v.pos ∧ b.block = block ∧ b.hop = 0 ∧ b.pos = woQpos w + 1024 * block ∧ b.base = woRotbase w ∧
            t.att.tries = 0 ∧ t.mem = s.mem ∧ t.fns = s.fns ∧ t.obj (okey 0x2511 9) = satAdd 64 (s.obj (okey 0x2511 9)) 1) ∧
          (∀ g, g < 2 ^ 64 → g ≠ gen → ∃ t, exec (.walk r slot block (some g)) s = .next t ∧ .event 0x0510 ∈ t.out ∧ t.att.rev = some v ∧
            t.rdN (woPtbase w) 8 = g ∧ t.att.tries = s.att.tries + 1)) ∧
        (gen % 2 = 0 → s.att.wlb = [] → (∃ e ∈ s.blockPages w block, (s.pageEntry w e).2.1 = false) → ∀ g,
          ∃ t, exec (.walk r slot block g) s = .next t ∧ faults t 0x0540))) ∧
    (∀ b, (s.att.odd = true →
      ∃ t, exec (.oddGenerationWait r slot b) s = .next t ∧ t.att = { s.att with odd := false, tries := s.att.tries + 1 } ∧ t.mem = s.mem ∧
        (s.att.tries + 1 < s.obj (okey 0x2590 4) → t.fns = s.fns) ∧
        (s.obj (okey 0x2590 4) ≤ s.att.tries + 1 → t.obj (fnKey 5 4) = 0x0541)) ∧
      (s.att.odd = false → exec (.oddGenerationWait r slot b) s = .next s))

/-- Rail measurements and pins throttle the hubs and stop the pans. RAIL_CURRENT_SAMPLE puts the measurement first among its
half's, takes the temperatures of the half's hubs, and, with the control island running, makes a change of more than 20
A, when it is first seen, fault 0x0830 of function 8. RAIL_ALERT sets its pin, and at the start of an episode raises
event 0x0810, counted in 2811/01; RAIL_ALERT_DEASSERTED clears the pin and nothing else. RAIL_EMG sets its pin; unless
an emergency stands one begins, with event 0x0811, and every active pan takes a stop request with cause power emergency.
EMERGENCY_END clears the pin; with no other condition the emergency ends, with event 0x0812. THROTTLE_STEP takes every
hub that a trigger covers one step down, to step 9; THROTTLE_RELEASE takes every hub one step up while no trigger holds.
No byte of package memory changes. (15_clocks_power_reset.md (R374, R375, R376, R377)) -/
def Obligations.RailsThrottleAndStop : Prop :=
  ∀ s : State, s.awake = true →
    (∀ (half : HalfNo) (ma : Nat) (temps : List Nat),
      let old := if half.val = 0 then s.weir.samples0 else s.weir.samples1
      let l := (ma :: old).take 101
      ∃ t, exec (.railCurrentSample half ma temps) s = .next t ∧ t.mem = s.mem ∧
        (if half.val = 0 then t.weir.samples0 else t.weir.samples1) = l ∧
        (if half.val = 0 then t.weir.samples1 else t.weir.samples0) = (if half.val = 0 then s.weir.samples1 else s.weir.samples0) ∧
        (∀ k, k < 32 → (t.hub (32 * half.val + k)).temp = temps.getD k 0) ∧
        (20000 < slewOf l → slewOf old ≤ 20000 → t.obj (fnKey 8 4) = 0x0830 ∧
          ((s.fn 8).state = .running → (t.fn 8).state = .faulted ∧ (t.fn 8).fcode = 0x0830)) ∧
        ((slewOf l ≤ 20000 ∨ 20000 < slewOf old) → t.fns = s.fns)) ∧
    (∃ t, exec .railAlert s = .next t ∧ t.mem = s.mem ∧ t.weir.railAlert = true ∧ t.weir.episode = true ∧ t.fns = s.fns ∧
      (s.weir.episode = false → .event 0x0810 ∈ t.out ∧ t.obj (okey 0x2811 1) = satAdd 32 (s.obj (okey 0x2811 1)) 1)) ∧
    exec .railAlertDeasserted s = .next { s with weir := { s.weir with railAlert := false } } ∧
    (∃ t, exec .railEmg s = .next t ∧ t.mem = s.mem ∧ t.weir.railEmg = true ∧ t.weir.emergency = true ∧ t.fns = s.fns ∧
      (s.weir.emergency = false → .event 0x0811 ∈ t.out ∧ t.weir.emgSince = s.timeUs ∧
        t.obj (okey 0x2811 3) = satAdd 32 (s.obj (okey 0x2811 3)) 1 ∧
        ∀ p, t.pan p = if (s.pan p).active = true then (s.pan p).request causeEmergency else s.pan p) ∧
      (s.weir.emergency = true → t.pans = s.pans)) ∧
    (∃ t, exec .emergencyEnd s = .next t ∧ t.mem = s.mem ∧ t.weir.railEmg = false ∧ t.fns = s.fns ∧
      ((List.range 64).any s.emgHub = false → s.obj (okey 0x2880 3) = 0 → s.weir.overCurrent = false →
        t.weir.emergency = false ∧ (s.weir.emergency = true → .event 0x0812 ∈ t.out))) ∧
    (s.anyTrigger = true → ∃ t, exec .throttleStep s = .next t ∧ t.mem = s.mem ∧ t.pans = s.pans ∧ t.fns = s.fns ∧
      ∀ h, h < 64 → t.hub h = { s.hub h with step := if s.triggered h then min 9 ((s.hub h).step + 1) else (s.hub h).step }) ∧
    (s.anyTrigger = false → exec .throttleStep s = .next s) ∧
    (s.anyTrigger = true → exec .throttleRelease s = .next s) ∧
    (s.anyTrigger = false → ∃ t, exec .throttleRelease s = .next t ∧ t.mem = s.mem ∧ t.pans = s.pans ∧ t.fns = s.fns ∧
      (∀ h, h < 64 → t.hub h = { s.hub h with step := (s.hub h).step - 1 }) ∧
      ((∃ h, h < 64 ∧ 2 ≤ (s.hub h).step) → t.weir.episode = s.weir.episode) ∧
      ((∀ e ∈ s.hubs, e.1 < 64) → (∀ h, h < 64 → (s.hub h).step ≤ 1) → t.weir.episode = false))

/-- Level grants, clock steps, the reference clock, heartbeats, autonomous hubs and the watchdog. With the control island
running, LEVEL_GRANT accrues the budget of its half; where it pays for a level step that is due, one pan of the half is
raised or lowered by one level and the budget pays for it; where it does not, or none is due, no level changes.
CLOCK_STEP_CHANGE gives each pan of the hub the step it is told to take, and charges the budget. REFCLK_LOST is fault
0x0831 of function 8, and its cause persists until REFCLK_RESTORED. HUB_HEARTBEAT reaches every hub whose control link
works, in the east half unless function 9 is Wedged or could not be brought up. AUTONOMOUS_MODE of a hub without a
heartbeat for 8 µs stops its active pans with cause fault stop; AUTONOMOUS_RAMP then lowers its pans to level 0.
SEQUENCER_WATCHDOG halts the control island: no client reaches the dictionary. No byte of package memory changes, but
for what an arrival that LEVEL_GRANT lets in when a snapshot ends may write of its entry. (15_clocks_power_reset.md
(R362, R363, R364, R369, R373, R378), 16_faults_and_reliability.md (R394)) -/
def Obligations.ClocksLevelsAndHubs : Prop :=
  ∀ s : State,
    (∀ (half : HalfNo) (ns : Nat), s.awake = true →
      let b := s.budget half.val + (s.twiceRate * 65536 * ns / 2000 : Nat)
      ∃ t, exec (.levelGrant half ns) s = .next t ∧ (s.cfg.snap.state ≠ 3 → t.mem = s.mem) ∧ t.fns = s.fns ∧
        (s.nextRaise half.val = none → s.nextLower half.val = none → t.pans = s.pans ∧ t.budget half.val = min b 0) ∧
        ((s.nextRaise half.val ≠ none ∨ s.nextLower half.val ≠ none) → b < levelUnits →
          t.pans = s.pans ∧ t.budget half.val = b) ∧
        ((s.nextRaise half.val ≠ none ∨ s.nextLower half.val ≠ none) → (levelUnits : Int) ≤ b → t.budget half.val = b - levelUnits ∧
          ∃ p x, p / 2048 = half.val ∧ (p, x) ∈ s.pans ∧ (s.hub (p / 64)).autonomous = false ∧ (∀ q, q ≠ p → t.pan q = s.pan q) ∧
            (x.level < s.levelGoal x ∧ t.pan p = { x with level := x.level + 1 } ∨
              s.levelGoal x < x.level ∧ t.pan p = { x with level := x.level - 1 }))) ∧
    (∀ h : HubNo, ∃ t, exec (.clockStepChange h) s = .next t ∧ t.mem = s.mem ∧ t.fns = s.fns ∧ t.hubs = s.hubs ∧
      t.budget (h.val / 32) ≤ s.budget (h.val / 32) ∧
      ∀ p, t.pan p = if p / 64 = h.val then { s.pan p with step := s.panStep p } else s.pan p) ∧
    (s.awake = true → ∃ t, exec .refclkLost s = .next t ∧ t.mem = s.mem ∧ t.weir.refclk = false ∧ t.obj (fnKey 8 4) = 0x0831 ∧
      t.cause 8 = 0x0831 ∧ ((s.fn 8).state = .running → (t.fn 8).state = .faulted)) ∧
    exec .refclkRestored s = .next { s with weir := { s.weir with refclk := true } } ∧
    (∃ t, exec .hubHeartbeat s = .next t ∧ t.mem = s.mem ∧ t.pans = s.pans ∧ t.fns = s.fns ∧
      ∀ h, h < 64 → t.hub h =
        if s.awake = true ∧ s.linkDead (5300 + h) = false ∧ (h < 32 ∨ ((s.fn 9).state ≠ .wedged ∧ (s.fn 9).persists ≠ 0x09F0))
        then { s.hub h with beatAt := s.timeUs + 1 } else s.hub h) ∧
    (∀ h : HubNo,
      ((s.hub h.val).autonomous = false → ((s.hub h.val).beatAt = 0 ∨ (s.hub h.val).beatAt + 8 ≤ s.timeUs + 1) →
        ∃ t, exec (.autonomousMode h) s = .next t ∧ t.mem = s.mem ∧ t.hub h.val = { s.hub h.val with autonomous := true } ∧
          ∀ p, t.pan p = if p / 64 = h.val ∧ (s.pan p).active = true then (s.pan p).request causeFault else s.pan p) ∧
      ((s.hub h.val).autonomous = true → exec (.autonomousMode h) s = .next s) ∧
      ((s.hub h.val).autonomous = true → (∀ e ∈ s.pans, e.1 / 64 = h.val → e.2.state ≠ .stopping) →
        ∃ t, exec (.autonomousRamp h) s = .next t ∧ t.mem = s.mem ∧ t.hubs = s.hubs ∧
          (∀ e ∈ t.pans, e.1 / 64 = h.val → e.2.level = 0) ∧
          ∀ e ∈ t.pans, e.1 / 64 ≠ h.val → e ∈ s.pans)) ∧
    (∃ t, exec .sequencerWatchdog s = .next t ∧ t = { s with ctl := { s.ctl with halted := true } } ∧ ∀ cl, t.reachable cl = false)

/-- Flits are taken in sequence or refused, replays are bounded, and an exhausted link is lost. On a module that carries
flits: a flit with good parity, no reserved code and the SEQ that follows the last one taken is taken, and with ACKV it
acknowledges the flits of the other direction up to ACK; any other flit is not taken and is answered with a NAK of the
last one taken, and bad parity is counted in 2911/02. REPLAY_TIMEOUT with flits not acknowledged sends them again, up to
three times, and then wedges function 9 with 0x0930. MODULE_LEFT_ACTIVE wedges function 9 with 0x0931.
TRAINING_ATTEMPT_TIMEOUT, outside Quiesced, begins the next attempt on every module, or, after the last one, the start
of function 9 fails with 0x09F0. An island link word that fails parity is counted and replayed up to three times; the
third failure of the replay loses the link, with the fault, the wedge or the event of R386; a lost link delivers nothing
more. (15_clocks_power_reset.md (R366, R367, R368, R369), 16_faults_and_reliability.md (R386)) -/
def Obligations.CausewayFlitsAndLinks : Prop :=
  ∀ s : State,
    (∀ (m : ModNo) (east : Bool) (ws : List (BitVec 32)),
      let h := flHeader ws
      let d := (s.mod m.val).dir east
      let good := flParityOk ws && !(flReserved h) && flSeq h = (d.last + 1) % 4096
      (s.linkUp m.val = false → exec (.flitReceived m east ws) s = .next s) ∧
      (s.linkUp m.val = true → good = false → ∃ t, exec (.flitReceived m east ws) s = .next t ∧ t.mem = s.mem ∧ t.fns = s.fns ∧
        t.out = .nak m.val east d.last :: s.out ∧ ((t.mod m.val).dir east).last = d.last ∧
        (flParityOk ws = false → t.obj (okey 0x2911 2) = satAdd 64 (s.obj (okey 0x2911 2)) 1)) ∧
      (s.linkUp m.val = true → good = true → flType h ≠ 3 → ∃ t, exec (.flitReceived m east ws) s = .next t ∧ t.mem = s.mem ∧
        t.fns = s.fns ∧ t.out = s.out ∧ ((t.mod m.val).dir east).last = flSeq h ∧
        (flAckv h = true → ∀ e ∈ ((t.mod m.val).dir (!east)).unacked, 2048 ≤ seqBehind e.1 (flAck h)))) ∧
    (∀ (m : ModNo) (east : Bool), s.linkUp m.val = true →
      let d := (s.mod m.val).dir east
      (d.unacked = [] → exec (.replayTimeout m east) s = .next s) ∧
      (d.unacked ≠ [] → d.replays ≠ 3 → ∃ t, exec (.replayTimeout m east) s = .next t ∧ t.mem = s.mem ∧ t.fns = s.fns ∧
        t.out = .flits m.val east (d.unacked.map Prod.fst) :: s.out ∧ ((t.mod m.val).dir east).replays = d.replays + 1 ∧
        t.obj (okey 0x2911 4) = satAdd 64 (s.obj (okey 0x2911 4)) 1) ∧
      (d.unacked ≠ [] → d.replays = 3 → (s.fn 9).state ≠ .off → ∃ t, exec (.replayTimeout m east) s = .next t ∧
        (t.fn 9).state = .wedged ∧ t.obj (fnKey 9 4) = 0x0930)) ∧
    (∀ m : ModNo, (s.linkUp m.val = true → (s.fn 9).state ≠ .off → ∃ t, exec (.moduleLeftActive m) s = .next t ∧ t.mem = s.mem ∧
        (t.fn 9).state = .wedged ∧ t.obj (fnKey 9 4) = 0x0931 ∧ t.linkUp m.val = false) ∧
      (s.linkUp m.val = false → exec (.moduleLeftActive m) s = .next s)) ∧
    ((s.fn 9).state = .starting → s.awake = true → s.cfg.snap.state ≠ 2 →
      ((s.mod 0).attempts < s.ctl.trainLimit → ∃ t, exec .trainingAttemptTimeout s = .next t ∧ t.mem = s.mem ∧ t.fns = s.fns ∧
        ∀ m, m < 16 → t.mod m = { state := 0, attempts := (s.mod 0).attempts + 1 }) ∧
      (s.ctl.trainLimit ≤ (s.mod 0).attempts → ∃ t, exec .trainingAttemptTimeout s = .next t ∧ t.mem = s.mem ∧
        (t.fn 9).state = .faulted ∧ (t.fn 9).fcode = 0x09F0)) ∧
    (∀ k : LinkKind,
      let n := s.linkFails (linkNo k)
      (n = 4 → ∀ ok, exec (.islandLinkWord k ok) s = .next s) ∧
      (n < 4 → ∃ t, exec (.islandLinkWord k true) s = .next t ∧ t.linkFails (linkNo k) = 0 ∧ t.out = s.out ∧ t.fns = s.fns ∧ t.mem = s.mem) ∧
      (n < 3 → ∃ t, exec (.islandLinkWord k false) s = .next t ∧ t.linkFails (linkNo k) = n + 1 ∧ t.fns = s.fns ∧ t.mem = s.mem ∧
        t.obj (okey 0x2E11 1) = satAdd 64 (s.obj (okey 0x2E11 1)) 1) ∧
      (n = 3 → ∃ t, exec (.islandLinkWord k false) s = .next t ∧ t.linkDead (linkNo k) = true ∧ t.mem = s.mem ∧
        t.obj (okey 0x2E11 2) = satAdd 32 (s.obj (okey 0x2E11 2)) 1 ∧
        match k with
        | .panHub _ => t.obj (fnKey 13 4) = 0x0D30
        | .hubHub _ => t.obj (fnKey 13 4) = 0x0D31
        | .hubPort _ => t.obj (fnKey 1 4) = 0x0132
        | .portCauseway _ => t.obj (fnKey 9 4) = 0x0932 ∧ ((s.fn 9).state ≠ .off → (t.fn 9).state = .wedged)
        | .controlHub _ => t.obj (fnKey 14 4) = 0x0E30 ∧ ((s.fn 14).state ≠ .off → (t.fn 14).state = .wedged)
        | .controlPort _ => t.obj (fnKey 14 4) = 0x0E30 ∧ ((s.fn 14).state ≠ .off → (t.fn 14).state = .wedged)
        | .controlNode => .event 0x0A30 ∈ t.out))

/-- Commands that store nothing leave package memory; commands that touch no function leave every function record. The 50
commands that Safety.lean names as storing nothing (loads and beats of the pans, stops and crusts, the fetches, handles
and invalidations of the streams, the rails, clocks and heartbeats, the Causeway and the island links, expiries and
timeouts, and the ends of a commit or an erase) leave every byte of package memory as it was: a write of the GPE reaches
memory only with a later command that lets it arrive. The 60 commands that it names as leaving the functions alone
(reading and admitting work orders, their versions and their attention phases, the DMA channels, the streams but for
faults of a fetch, loads and stops of the pans, the arrivals of the Stockpile, the rails and clocks but for their
faults, and the expiries of the management link) leave the state, the target, the pending command and the fault code of
every function as they were: their codes are events, which change the state of no function. (09_streams_and_run_ahead.md
(R248), 12_object_dictionary.md (R312, R313, R314, R316), 15_clocks_power_reset.md (R374, R378),
16_faults_and_reliability.md (R386, R394), 03_array_dataflow.md (R83)) -/
def Obligations.CommandsLeaveMemoryOrFunctions : Prop :=
  ∀ (c : Instr) (s t : State), exec c s = .next t →
    (storesNothing c = true → t.mem = s.mem ∧ ∀ a, t.rd8 a = s.rd8 a) ∧
    (leavesFunctions c = true → t.fns = s.fns ∧ ∀ n, t.fn n = s.fn n)

/-- A chunk of at most 4,096 products of an exact pair sums in the brine without rounding and without overflow. For every
exact pair of formats and every list of at most 4,096 pairs of finite codes, added one after another into a cell whose
brine is zero: no product is rounded (the units of each product times the bit-0 weight are the product of the two
values), the cell is not marked non-finite, and the brine, read as a signed number, is the sum of the units, so it is
the exact sum of the products. (R32) -/
def Obligations.BrineSumsAreExact : Prop :=
  ∀ (p : Plan) (l : List (Nat × Nat)), pairWeight p.st.fmt p.mv.fmt = some (some p.w) → p.win = false → l.length ≤ 4096 →
    let pick (x : Nat × Nat) : Nat × Nat := if p.shape = 5 then (x.2, x.1) else x
    (∀ x ∈ l, (elemVal p.st.fmt (pick x).1).finite = true ∧ (elemVal p.mv.fmt (pick x).2).finite = true) →
    let units (x : Nat × Nat) : Int := (productUnits p.st.fmt p.mv.fmt (pick x).1 (pick x).2 p.w).getD 0
    let c := l.foldl (fun (c : Cell) x => c.add p true true x.1 x.2) {}
    c.nonfin = false ∧ c.brine.toInt = (l.map units).sum ∧
    ∀ x ∈ l, match elemVal p.st.fmt (pick x).1, elemVal p.mv.fmt (pick x).2 with
      | .fin s m e, .fin t n f => p.w ≤ e + f ∧
          units x = (if s != t then -1 else 1) * ((m * n * 2 ^ (e + f - p.w).toNat : Nat) : Int)
      | _, _ => False

/-- ERR_INT shows unacknowledged entries; its acknowledgement takes all of them, and is not that of a function. ERR_INT is
asserted exactly while the log holds an entry of KIND 1 or 2 that has not been acknowledged. FAULT_LOG_ACKNOWLEDGE, the
write of 1 to 2E20/05, by a client with Operator privilege outside Quiesced, is confirmed and acknowledges every such
entry, and changes no function record. ACKNOWLEDGE, the command of a function's control word, acknowledges no entry of
the log. (R397) -/
def Obligations.ErrorInterruptAndItsAcknowledgement : Prop :=
  ∀ s : State,
    (s.errInt = true ↔ ∃ e ∈ s.flt.log, (e.kind = 1 ∨ e.kind = 2) ∧ e.acked = false) ∧
    (∀ cl : ClientNo, s.serves cl.val 1 → s.cfg.snap.state ≠ 2 →
      ∃ t, exec (.faultLogAcknowledge cl) s = .next t ∧ t.said cl.val .confirm ∧ t.fns = s.fns ∧
        t.flt.log.length = s.flt.log.length ∧ ∀ e ∈ t.flt.log, (e.kind = 1 ∨ e.kind = 2) → e.acked = true) ∧
    (∀ (cl : ClientNo) (n : FnNo) (t : State), exec (.acknowledge cl n) s = .next t →
      ∀ e ∈ t.flt.log, e.acked = true → e ∈ s.flt.log)
end

