-- ==== Sys2Proof/Laws/Crypto.lean ====
section
/-! SUPPORT. The length of an HMAC-SHA-256 code (R334). -/

namespace Sys2Proof.Machine

theorem shaRound_length (h : List (BitVec 32)) (k w : BitVec 32) : (shaRound h k w).length = h.length := by
  unfold shaRound
  split <;> rfl

theorem shaRounds_length (ks blk w h : List (BitVec 32)) : (shaRounds ks blk w h).length = h.length := by
  induction ks generalizing blk w h with
  | nil => rfl
  | cons k ks ih =>
    unfold shaRounds
    cases blk with
    | nil => exact (ih _ _ _).trans (shaRound_length _ _ _)
    | cons x rest => exact (ih _ _ _).trans (shaRound_length _ _ _)

theorem shaBlocks_length (n : Nat) (w h : List (BitVec 32)) : (shaBlocks n w h).length = h.length := by
  induction n generalizing w h with
  | zero => rfl
  | succ n ih =>
    unfold shaBlocks
    split
    · rfl
    · rw [ih, List.length_zipWith, shaRounds_length, Nat.min_self]

theorem flatMap_length_four (l : List (BitVec 32)) : (l.flatMap (fun x => (leBytes 4 x.toNat).reverse)).length = 4 * l.length := by
  induction l with
  | nil => rfl
  | cons x t ih => rw [List.flatMap_cons, List.length_append, ih, List.length_cons]; show 4 + 4 * t.length = 4 * (t.length + 1); omega

/-- A code has 32 bytes, whatever the key and the message. -/
theorem hmac_length (key msg : List Byte) : (hmac key msg).length = 32 := by
  show ((shaBlocks _ _ _).flatMap _).length = 32
  rw [flatMap_length_four, shaBlocks_length]
  decide +kernel

end Sys2Proof.Machine
end

