-- ==== Sys2Proof/Laws/Map.lean ====
section
/-! SUPPORT. Laws of the sparse maps and of the byte stores built on them: read after write, and the canonical form. -/

namespace Sys2Proof

variable {α : Type}

@[simp] theorem FMap.get_nil (d : α) (i : Nat) : FMap.get d [] i = d := rfl

theorem FMap.get_cons (d : α) (e : Nat × α) (t : FMap α) (i : Nat) :
    FMap.get d (e :: t) i = if e.1 = i then e.2 else FMap.get d t i := rfl

/-- A key that was dropped reads as the default. -/
theorem FMap.get_drop_self (d : α) (m : FMap α) (i : Nat) : FMap.get d (FMap.drop m i) i = d := by
  induction m with
  | nil => rfl
  | cons e t ih =>
    by_cases h : e.1 = i
    · simpa [FMap.drop, h] using ih
    · simpa [FMap.drop, h, FMap.get_cons] using ih

/-- Dropping a key leaves every other key. -/
theorem FMap.get_drop_ne (d : α) (m : FMap α) {i j : Nat} (h : j ≠ i) : FMap.get d (FMap.drop m i) j = FMap.get d m j := by
  induction m with
  | nil => rfl
  | cons e t ih =>
    by_cases hi : e.1 = i
    · have hj : ¬ i = j := fun x => h x.symm
      simpa [FMap.drop, hi, FMap.get_cons, hj] using ih
    · by_cases hj : e.1 = j <;> simp_all [FMap.drop, FMap.get_cons]

theorem FMap.get_ins_ne (d : α) (m : FMap α) (v : α) {i j : Nat} (h : j ≠ i) : FMap.get d (FMap.ins i v m) j = FMap.get d m j := by
  have h' : ¬ i = j := fun x => h x.symm
  induction m with
  | nil => simp [FMap.ins, FMap.get_cons, h']
  | cons e t ih =>
    by_cases hl : i < e.1
    · simp [FMap.ins, hl, FMap.get_cons, h']
    · simp [FMap.ins, hl, FMap.get_cons, ih]

theorem FMap.get_ins_self (d : α) (m : FMap α) (i : Nat) (v : α) (h : ∀ e ∈ m, e.1 ≠ i) : FMap.get d (FMap.ins i v m) i = v := by
  induction m with
  | nil => simp [FMap.ins, FMap.get_cons]
  | cons e t ih =>
    have he : e.1 ≠ i := h e (by simp)
    by_cases hl : i < e.1
    · simp [FMap.ins, hl, FMap.get_cons]
    · simp [FMap.ins, hl, FMap.get_cons, he, ih (fun x hx => h x (by simp [hx]))]

theorem FMap.mem_ins (m : FMap α) (i : Nat) (v : α) (e : Nat × α) (h : e ∈ FMap.ins i v m) : e = (i, v) ∨ e ∈ m := by
  induction m with
  | nil => exact Or.inl (by simpa [FMap.ins] using h)
  | cons a t ih =>
    by_cases hl : i < a.1
    · simpa [FMap.ins, hl] using h
    · rcases (by simpa [FMap.ins, hl] using h : e = a ∨ e ∈ FMap.ins i v t) with h | h
      · exact Or.inr (by simp [h])
      · rcases ih h with h | h
        · exact Or.inl h
        · exact Or.inr (by simp [h])

theorem FMap.ins_sorted (m : FMap α) (i : Nat) (v : α) (h : m.Pairwise (fun a b => a.1 < b.1)) (hi : ∀ e ∈ m, e.1 ≠ i) :
    (FMap.ins i v m).Pairwise (fun a b => a.1 < b.1) := by
  induction m with
  | nil => simp [FMap.ins]
  | cons a t ih =>
    rw [List.pairwise_cons] at h
    by_cases hl : i < a.1
    · have : FMap.ins i v (a :: t) = (i, v) :: a :: t := by simp [FMap.ins, hl]
      rw [this, List.pairwise_cons, List.pairwise_cons]
      refine ⟨fun e he => ?_, h⟩
      rcases List.mem_cons.1 he with rfl | he
      · exact hl
      · exact Nat.lt_trans hl (h.1 e he)
    · have : FMap.ins i v (a :: t) = a :: FMap.ins i v t := by simp [FMap.ins, hl]
      rw [this, List.pairwise_cons]
      refine ⟨fun e he => ?_, ih h.2 (fun e he => hi e (by simp [he]))⟩
      have ha : a.1 ≠ i := hi a (by simp)
      rcases FMap.mem_ins t i v e he with rfl | he
      · show a.1 < i
        omega
      · exact h.1 e he

variable [DecidableEq α]

/-- A read after a write to the same key gives the value written. -/
@[simp] theorem FMap.get_put_self (d : α) (m : FMap α) (i : Nat) (v : α) : FMap.get d (FMap.put d m i v) i = v := by
  unfold FMap.put
  split
  · next h => rw [h, FMap.get_drop_self]
  · exact FMap.get_ins_self d _ i v (by simp [FMap.drop])

/-- A write leaves every other key. -/
theorem FMap.get_put_ne (d : α) (m : FMap α) (v : α) {i j : Nat} (h : j ≠ i) : FMap.get d (FMap.put d m i v) j = FMap.get d m j := by
  unfold FMap.put
  split
  · exact FMap.get_drop_ne d m h
  · rw [FMap.get_ins_ne d _ v h, FMap.get_drop_ne d m h]

/-- The canonical form, as a proposition. -/
theorem FMap.wf_iff (d : α) (m : FMap α) :
    FMap.wf d m = true ↔ m.Pairwise (fun a b => a.1 < b.1) ∧ ∀ e ∈ m, e.2 ≠ d := by
  simp [FMap.wf]

@[simp] theorem FMap.wf_nil (d : α) : FMap.wf d ([] : FMap α) = true := by simp [FMap.wf]

theorem FMap.drop_wf (d : α) (m : FMap α) (i : Nat) (h : FMap.wf d m = true) : FMap.wf d (FMap.drop m i) = true := by
  rw [FMap.wf_iff] at *
  exact ⟨h.1.filter _, fun e he => h.2 e ((List.mem_filter.1 he).1)⟩

/-- A write keeps the canonical form. -/
theorem FMap.put_wf (d : α) (m : FMap α) (i : Nat) (v : α) (h : FMap.wf d m = true) : FMap.wf d (FMap.put d m i v) = true := by
  have hd := FMap.drop_wf d m i h
  unfold FMap.put
  split
  · exact hd
  · next hv =>
    rw [FMap.wf_iff] at *
    refine ⟨FMap.ins_sorted _ i v hd.1 (by simp [FMap.drop]), fun e he => ?_⟩
    rcases FMap.mem_ins _ i v e he with rfl | he
    · exact hv
    · exact hd.2 e he

namespace Machine

/-- Storing bytes keeps the canonical form of package memory. -/
theorem writeBytes_wf (m : List Host.Cell) (a : Nat) (l : List Byte) (h : FMap.wf (0 : Byte) m = true) :
    FMap.wf (0 : Byte) (writeBytes m a l) = true := by
  induction l generalizing m a with
  | nil => exact h
  | cons b t ih => exact ih _ _ (FMap.put_wf 0 m a b h)

/-- Storing bytes changes no byte outside the bytes stored. -/
theorem get_writeBytes_out (m : List Host.Cell) (a : Nat) (l : List Byte) (x : Nat) (h : x < a ∨ a + l.length ≤ x) :
    FMap.get (0 : Byte) (writeBytes m a l) x = FMap.get 0 m x := by
  induction l generalizing m a with
  | nil => rfl
  | cons b t ih =>
    have hne : x ≠ a := by simp at h; omega
    rw [writeBytes, ih _ _ (by simp at h; omega), FMap.get_put_ne 0 m b hne]

/-- A byte stored reads back. -/
theorem get_writeBytes_in (m : List Host.Cell) (a : Nat) (l : List Byte) (k : Nat) (h : k < l.length) :
    FMap.get (0 : Byte) (writeBytes m a l) (a + k) = l[k] := by
  induction l generalizing m a k with
  | nil => simp at h
  | cons b t ih =>
    cases k with
    | zero => rw [writeBytes, get_writeBytes_out _ _ _ _ (by omega)]; simp
    | succ k =>
      have := ih (FMap.put 0 m a b) (a + 1) k (by simpa using h)
      rw [show a + (k + 1) = a + 1 + k by omega]
      simpa [writeBytes] using this

/-- Bytes read one by one. -/
theorem readBytes_length (m : List Host.Cell) (a n : Nat) : (readBytes m a n).length = n := by
  induction n generalizing a with
  | zero => rfl
  | succ n ih => simp [readBytes, ih]

end Machine
end Sys2Proof
end

