-- ==== Sys2Proof/Laws/Kept.lean ====
section
/-! SUPPORT. What every operation and every meaning keeps, said once for each: the queue of waiting commands, the
canonical form of package memory, the permanent functions (R319) and the length of the fault log (R396). A lemma that is
an equivalence says that the operation touches none of these parts. -/

set_option linter.unusedSimpArgs false
set_option linter.unusedVariables false

namespace Sys2Proof.Machine

/-- What is watched: the queue, and whether the permanent functions are. -/
structure Watch where
  queue : List Instr
  perm : Bool

/-- Canonical package memory. -/
def memWf (m : List Host.Cell) : Prop := FMap.wf (0 : Byte) m = true

/-- The permanent functions are Running or Wedged, where they are watched. -/
def permOk (wt : Watch) (fns : FMap FnRec) (ctl : Ctl) : Prop :=
  wt.perm = true → ctl.heldAfterPhase1 = false → ∀ n, isPermanent n = true →
    (FMap.get ({} : FnRec) fns n).state = .running ∨ (FMap.get ({} : FnRec) fns n).state = .wedged

/-- The watched parts are as they must be. -/
def State.Ok (wt : Watch) (s : State) : Prop :=
  s.pending = wt.queue ∧ memWf s.mem ∧ permOk wt s.fns s.ctl ∧ s.flt.log.length ≤ 32

/-- The next state, if there is one, is as it must be. -/
def outOk (wt : Watch) (o : Host.Outcome State Fault Refusal) : Prop := match o with
  | .next t => t.Ok wt
  | _ => True

/-- The state answered, if any, is as it must be. -/
def optOk (wt : Watch) (o : Option State) : Prop := ∀ t, o = some t → t.Ok wt

variable {wt : Watch}

@[simp] theorem ok_mk (a b c d m e f g h i j k l n o p q r t u v w) :
    State.Ok wt ⟨a,b,c,d,m,e,f,g,h,i,j,k,l,n,o,p,q,r,t,u,v,w⟩ ↔ a = wt.queue ∧ memWf m ∧ permOk wt f g ∧ w.log.length ≤ 32 := Iff.rfl

@[simp] theorem ok_eta (s : State) : (s.pending = wt.queue ∧ memWf s.mem ∧ permOk wt s.fns s.ctl ∧ s.flt.log.length ≤ 32) ↔ s.Ok wt := Iff.rfl

@[simp] theorem outOk_next (s : State) : outOk wt (.next s) ↔ s.Ok wt := Iff.rfl

@[simp] theorem optOk_none : optOk wt none := by simp [optOk]

@[simp] theorem optOk_some (s : State) : optOk wt (some s) ↔ s.Ok wt := by simp [optOk]

@[simp] theorem ok_ite (c : Prop) [Decidable c] (a b : State) : State.Ok wt (if c then a else b) ↔ if c then a.Ok wt else b.Ok wt := by split <;> rfl

@[simp] theorem outOk_ite (c : Prop) [Decidable c] (a b : Host.Outcome State Fault Refusal) : outOk wt (if c then a else b) ↔ if c then outOk wt a else outOk wt b := by split <;> rfl

@[simp] theorem optOk_ite (c : Prop) [Decidable c] (a b : Option State) : optOk wt (if c then a else b) ↔ if c then optOk wt a else optOk wt b := by split <;> rfl

theorem ok_foldl {α : Type} (g : State → α → State) (l : List α) (s : State) (hg : ∀ s a, s.Ok wt → (g s a).Ok wt) (h : s.Ok wt) : (l.foldl g s).Ok wt := by
  induction l generalizing s with
  | nil => exact h
  | cons a t ih => exact ih _ (hg s a h)

theorem ok_foldl_iff {α : Type} (g : State → α → State) (l : List α) (s : State) (hg : ∀ s a, (g s a).Ok wt ↔ s.Ok wt) : (l.foldl g s).Ok wt ↔ s.Ok wt := by
  induction l generalizing s with
  | nil => rfl
  | cons a t ih => simp [ih, hg]


theorem clearRange_wf (m : List Host.Cell) (a n : Nat) (h : FMap.wf (0 : Byte) m = true) : FMap.wf (0 : Byte) (clearRange m a n) = true := by
  rw [FMap.wf_iff] at *
  exact ⟨h.1.filter _, fun e he => h.2 e (List.mem_filter.1 he).1⟩

theorem foldl_wf {α : Type} (g : List Host.Cell → α → List Host.Cell) (l : List α) (m : List Host.Cell)
    (hg : ∀ m a, FMap.wf (0 : Byte) m = true → FMap.wf (0 : Byte) (g m a) = true) (h : FMap.wf (0 : Byte) m = true) :
    FMap.wf (0 : Byte) (l.foldl g m) = true := by
  induction l generalizing m with
  | nil => exact h
  | cons a t ih => exact ih _ (hg m a h)

theorem copyRange_wf (m : List Host.Cell) (a b n : Nat) (h : FMap.wf (0 : Byte) m = true) : FMap.wf (0 : Byte) (copyRange m a b n) = true :=
  foldl_wf _ _ _ (fun m _ hm => FMap.put_wf 0 m _ _ hm) (clearRange_wf _ _ _ h)

theorem optOk_bind {α : Type} (o : Option α) (f : α → Option State) (h : ∀ k, optOk wt (f k)) : optOk wt (o.bind f) := by
  cases o <;> simp [h]

@[simp] theorem optOk_getD (o : Option State) (s : State) (h : s.Ok wt) (ho : optOk wt o) : (o.getD s).Ok wt := by
  cases o <;> simp_all

theorem ok_foldl_fst {α β : Type} (g : State × β → α → State × β) (l : List α) (x : State × β)
    (hg : ∀ x a, x.1.Ok wt → (g x a).1.Ok wt) (h : x.1.Ok wt) : (l.foldl g x).1.Ok wt := by
  induction l generalizing x with
  | nil => exact h
  | cons a t ih => exact ih _ (hg x a h)

theorem ok_foldl_fst_iff {α β : Type} (g : State × β → α → State × β) (l : List α) (x : State × β)
    (hg : ∀ x a, (g x a).1.Ok wt ↔ x.1.Ok wt) : (l.foldl g x).1.Ok wt ↔ x.1.Ok wt := by
  induction l generalizing x with
  | nil => rfl
  | cons a t ih => exact (ih _).trans (hg x a)

theorem fst_ok {β : Type} {x : State × β} {t : State} {b : β} (h : x = (t, b)) (hx : x.1.Ok wt) : t.Ok wt := by
  subst h; exact hx

/-- The same of the state of a pair. -/
def optFstOk (wt : Watch) {β : Type} (o : Option (State × β)) : Prop := ∀ t, o = some t → t.1.Ok wt

@[simp] theorem optFstOk_none {β : Type} : optFstOk wt (none : Option (State × β)) := by simp [optFstOk]

@[simp] theorem optFstOk_some {β : Type} (x : State × β) : optFstOk wt (some x) ↔ x.1.Ok wt := by simp [optFstOk]

@[simp] theorem optFstOk_ite {β : Type} (c : Prop) [Decidable c] (a b : Option (State × β)) :
    optFstOk wt (if c then a else b) ↔ if c then optFstOk wt a else optFstOk wt b := by split <;> rfl

@[simp] theorem fstOk_ite {β : Type} (c : Prop) [Decidable c] (a b : State × β) :
    (if c then a else b).1.Ok wt ↔ if c then a.1.Ok wt else b.1.Ok wt := by split <;> rfl


theorem setFn_ok' (s : State) (n : Nat) (r : FnRec) (h : s.Ok wt)
    (hr : wt.perm = true → s.ctl.heldAfterPhase1 = false → isPermanent n = true → r.state = .running ∨ r.state = .wedged) :
    (s.setFn n r).Ok wt := by
  refine ⟨h.1, h.2.1, fun h1 h2 m hm => ?_, h.2.2.2⟩
  have h2 : s.ctl.heldAfterPhase1 = false := h2
  show (FMap.get {} (FMap.put {} s.fns n r) m).state = .running ∨ (FMap.get {} (FMap.put {} s.fns n r) m).state = .wedged
  by_cases e : m = n
  · subst e; rw [FMap.get_put_self]; exact hr h1 h2 hm
  · rw [FMap.get_put_ne _ _ _ e]; exact h.2.2.1 h1 h2 m hm

/-- While the block is awake, a function that is neither Running nor Wedged is not a permanent one. -/
theorem State.Ok.move {s : State} (h : s.Ok wt) {n : Nat} (ha : s.awake = true) (h1 : (s.fn n).state ≠ .running) (h2 : (s.fn n).state ≠ .wedged) :
    wt.perm = true → isPermanent n = false := by
  intro a
  cases hp : isPermanent n with
  | false => rfl
  | true => rcases h.2.2.1 a (by simp [State.awake] at ha; exact ha.2) n hp with h | h <;> simp_all [State.fn]

/-- The same of a control command that is not refused. -/
def excOk (wt : Watch) (x : Except Nat State) : Prop := ∀ t, x = .ok t → t.Ok wt

@[simp] theorem excOk_error (c : Nat) : excOk wt (.error c) := by simp [excOk]

theorem excOk_ok (s : State) (h : s.Ok wt) : excOk wt (.ok s) := fun _ h' => Except.ok.inj h' ▸ h

@[simp] theorem excOk_ok_iff (s : State) : excOk wt (.ok s) ↔ s.Ok wt := ⟨fun h => h _ rfl, excOk_ok s⟩

@[simp] theorem excOk_ite (c : Prop) [Decidable c] (a b : Except Nat State) : excOk wt (if c then a else b) ↔ if c then excOk wt a else excOk wt b := by split <;> rfl


theorem optOk_foldl {α : Type} (g : State → α → Option State) (l : List α) (o : Option State) (hg : ∀ s a, s.Ok wt → optOk wt (g s a))
    (h : optOk wt o) : optOk wt (l.foldl (fun acc a => acc.bind (fun s => g s a)) o) := by
  induction l generalizing o with
  | nil => exact h
  | cons a t ih =>
    refine ih _ ?_
    cases o with
    | none => simp
    | some s => exact hg s a (by simpa using h)

theorem optFst_foldl {α β : Type} (g : State × β → α → Option (State × β)) (l : List α) (o : Option (State × β))
    (hg : ∀ x a, x.1.Ok wt → optFstOk wt (g x a)) (h : optFstOk wt o) : optFstOk wt (l.foldl (fun acc a => acc.bind (fun x => g x a)) o) := by
  induction l generalizing o with
  | nil => exact h
  | cons a t ih =>
    refine ih _ ?_
    cases o with
    | none => simp
    | some s => exact hg s a (by simpa using h)

theorem foldl_bind_none {α β : Type} (g : β → α → Option β) (l : List α) : l.foldl (fun acc a => Option.bind acc (fun s => g s a)) none = none := by
  induction l with
  | nil => rfl
  | cons a t ih => exact ih

/-- Steps that each keep the watched fields both ways keep them both ways together. -/
theorem iff_foldl {α : Type} (g : State → α → Option State) (l : List α) (s t : State)
    (hg : ∀ s a t, g s a = some t → (t.Ok wt ↔ s.Ok wt)) (h : l.foldl (fun acc a => acc.bind (fun s => g s a)) (some s) = some t) :
    t.Ok wt ↔ s.Ok wt := by
  induction l generalizing s with
  | nil => cases h; rfl
  | cons a r ih =>
    cases hx : g s a with
    | none => simp [hx, foldl_bind_none] at h
    | some u => exact (ih u (by simpa [hx] using h)).trans (hg s a u hx)

theorem fst_iff {β : Type} {x : State × β} {t s : State} {b : β} (h : x = (t, b)) (hx : x.1.Ok wt ↔ s.Ok wt) : t.Ok wt ↔ s.Ok wt := by
  subst h; exact hx


@[simp] theorem State.setFn_ok (s : State) (n : Nat) (r : FnRec) (hk : s.Ok wt) (hr : wt.perm = true → s.ctl.heldAfterPhase1 = false → isPermanent n = true → r.state = .running ∨ r.state = .wedged) : (State.setFn s n r).Ok wt := by
  exact setFn_ok' s n r hk hr

@[simp] theorem State.setPend_ok (s : State) (n : Nat) (c : Nat) (hk : s.Ok wt) : (State.setPend s n c).Ok wt := by
  exact State.setFn_ok _ _ _ hk (fun a c d => hk.2.2.1 a c n d)

@[simp] theorem State.setObj_ok (s : State) (k : Nat) (v : Nat) : (State.setObj s k v).Ok wt ↔ s.Ok wt := by
  simp (maxDischargeDepth := 9) [State.setObj]

@[simp] theorem State.bump_ok (s : State) (w : Nat) (k : Nat) (n : Nat) : (State.bump s w k n).Ok wt ↔ s.Ok wt := by
  simp (maxDischargeDepth := 9) [State.bump]

@[simp] theorem State.bump32_ok (s : State) (k : Nat) : (State.bump32 s k).Ok wt ↔ s.Ok wt := by
  simp (maxDischargeDepth := 9) [State.bump32]

@[simp] theorem State.enterFn_ok (s : State) (n : Nat) (st tgt : FnState) (code : Nat) (hk : s.Ok wt) (hr : wt.perm = true → isPermanent n = true → st = .running ∨ st = .wedged) : (State.enterFn s n st tgt code).Ok wt := by
  unfold State.enterFn
  simp only [State.bump32_ok]
  exact State.setFn_ok _ _ _ hk (fun a _ c => hr a c)

@[simp] theorem State.releasePans_ok (s : State) (causes : List Nat) : (State.releasePans s causes).Ok wt ↔ s.Ok wt := by
  simp (maxDischargeDepth := 9) [State.releasePans]

@[simp] theorem State.weirUp_ok (s : State) : (State.weirUp s).Ok wt ↔ s.Ok wt := by
  simp (maxDischargeDepth := 9) [State.weirUp]

@[simp] theorem State.emit_ok (s : State) (o : Out) : (State.emit s o).Ok wt ↔ s.Ok wt := by
  simp (maxDischargeDepth := 9) [State.emit]

@[simp] theorem State.event_ok (s : State) (code : Nat) : (State.event s code).Ok wt ↔ s.Ok wt := by
  simp (maxDischargeDepth := 9) [State.event]

@[simp] theorem State.setStock_ok (s : State) (x : Stock) : (State.setStock s x).Ok wt ↔ s.Ok wt := by
  simp (maxDischargeDepth := 9) [State.setStock]

@[simp] theorem State.wrBytes_ok (s : State) (a : Nat) (l : List Byte) (hk : s.Ok wt) : (State.wrBytes s a l).Ok wt := by
  exact ⟨hk.1, writeBytes_wf _ _ _ hk.2.1, hk.2.2⟩

@[simp] theorem State.wrN_ok (s : State) (a : Nat) (n : Nat) (v : Nat) (hk : s.Ok wt) : (State.wrN s a n v).Ok wt := by
  simp (maxDischargeDepth := 9) [State.wrN, hk]

@[simp] theorem State.setEntry_ok (s : State) (n : Nat) (e : Nat) (hk : s.Ok wt) : (State.setEntry s n e).Ok wt := by
  simp (maxDischargeDepth := 9) [State.setEntry, hk]

@[simp] theorem State.spill_ok (s : State) (n : Nat) (hk : s.Ok wt) : optOk wt (State.spill s n) := by
  unfold State.spill
  grind [outOk, optOk, State.setStock_ok, State.setEntry_ok]

@[simp] theorem State.bump64_ok (s : State) (k : Nat) : (State.bump64 s k).Ok wt ↔ s.Ok wt := by
  simp (maxDischargeDepth := 9) [State.bump64]

@[simp] theorem State.deepen_ok (s : State) (seg : Nat) (hk : s.Ok wt) : optOk wt (State.deepen s seg) := by
  unfold State.deepen
  grind [outOk, optOk, State.event_ok, State.setEntry_ok, State.bump64_ok]

@[simp] theorem State.backPressure_ok (s : State) : (State.backPressure s).Ok wt ↔ s.Ok wt := by
  simp (maxDischargeDepth := 9) [State.backPressure]

@[simp] theorem State.makeRoom_ok (s : State) (seg : Nat) (n : Nat) (x_ : Nat) (hk : s.Ok wt) : (State.makeRoom s seg n x_).1.Ok wt := by
  induction x_ generalizing s with
  | zero => exact hk
  | succ m ih =>
    unfold State.makeRoom
    split
    · exact hk
    · split
      · next k t ht =>
        obtain ⟨j, _, hm⟩ := Option.bind_eq_some_iff.1 ht
        obtain ⟨t', h1, h2⟩ := Option.map_eq_some_iff.1 hm
        cases h2
        simpa using State.spill_ok _ _ hk _ h1
      · split
        · split
          · next t ht => exact ih _ (State.deepen_ok _ _ hk _ ht)
          · simp [hk]
        · simp [hk]

@[simp] theorem State.relieve_ok (s : State) : (State.relieve s).Ok wt ↔ s.Ok wt := by
  simp (maxDischargeDepth := 9) [State.relieve]

@[simp] theorem State.cacheRoom_ok (s : State) (n : Nat) (x_ : Nat) (hk : s.Ok wt) : (State.cacheRoom s n x_).Ok wt := by
  fun_induction State.cacheRoom <;> simp_all (maxDischargeDepth := 9)

@[simp] theorem State.acceptArrival_ok (s : State) (a : Arrival) (u : Nat) (hk : s.Ok wt) : (State.acceptArrival s a u).Ok wt := by
  simp (maxDischargeDepth := 9) [State.acceptArrival, hk]

@[simp] theorem State.pumpPort_ok (s : State) (x_ : Nat) (hk : s.Ok wt) : (State.pumpPort s x_).Ok wt := by
  induction x_ generalizing s with
  | zero => exact hk
  | succ m ih =>
    unfold State.pumpPort
    split
    · exact hk
    · split
      · exact hk
      · dsimp only
        split
        · split
          · exact hk
          · exact ih _ (by simp [hk])
        · split
          · split <;> simp [hk]
          · split
            · exact hk
            · generalize hx : State.makeRoom _ _ _ _ = x
              have h1 : x.1.Ok wt := by subst hx; exact State.makeRoom_ok _ _ _ _ (by simp [hk])
              clear hx
              obtain ⟨t, u⟩ := x
              cases u <;> simp [h1]

@[simp] theorem State.pump_ok (s : State) (hk : s.Ok wt) : (State.pump s).Ok wt := by
  unfold State.pump
  grind [outOk, optOk, State.pumpPort_ok]

@[simp] theorem State.setMods_ok (s : State) (f : Nat → Mod → Mod) : (State.setMods s f).Ok wt ↔ s.Ok wt := by
  simp (maxDischargeDepth := 9) [State.setMods]

@[simp] theorem State.goFn_ok (s : State) (n : Nat) (st tgt : FnState) (code : Nat) (hk : s.Ok wt) (hr : wt.perm = true → isPermanent n = true → st = .running ∨ st = .wedged) : (State.goFn s n st tgt code).Ok wt := by
  have h := State.enterFn_ok s n st tgt code hk hr
  unfold State.goFn
  dsimp only
  (repeat' split) <;> simp [h]

theorem State.controlOff_ok (s : State) (n : Nat) (code : Nat) (hk : s.Ok wt) (hp : isPermanent n = false) : excOk wt (State.controlOff s n code) := by
  simp [State.controlOff, hk, hp]

theorem State.controlReady_ok (s : State) (n : Nat) (code : Nat) (hk : s.Ok wt) (hp : isPermanent n = false) : excOk wt (State.controlReady s n code) := by
  simp [State.controlReady, hk, hp]

@[simp] theorem State.setStrm_ok (s : State) (x : Strm) : (State.setStrm s x).Ok wt ↔ s.Ok wt := by
  simp (maxDischargeDepth := 9) [State.setStrm]

@[simp] theorem State.cancelReads_ok (s : State) (i : Nat) : (State.cancelReads s i).Ok wt ↔ s.Ok wt := by
  simp (maxDischargeDepth := 9) [State.cancelReads]

@[simp] theorem State.dropStaged_ok (s : State) (c : Nat) (p : Buf → Bool) : (State.dropStaged s c p).Ok wt ↔ s.Ok wt := by
  simp (maxDischargeDepth := 9) [State.dropStaged, ok_foldl_iff]

@[simp] theorem State.setChan_ok (s : State) (c : Nat) (x : Chan) : (State.setChan s c x).Ok wt ↔ s.Ok wt := by
  simp (maxDischargeDepth := 9) [State.setChan]

@[simp] theorem State.dmaPend_ok (s : State) (sub : Nat) (c : Nat) : (State.dmaPend s sub c).Ok wt ↔ s.Ok wt := by
  simp (maxDischargeDepth := 9) [State.dmaPend]

@[simp] theorem State.refetchkok (s : State) (p : Buf → Bool) : (State.refetch s p).Ok wt ↔ s.Ok wt := by
  simp (maxDischargeDepth := 9) [State.refetch]

@[simp] theorem State.store_ok (s : State) (a : Nat) (l : List Byte) (hk : s.Ok wt) : (State.store s a l).Ok wt := by
  simp (maxDischargeDepth := 9) [State.store, hk]

@[simp] theorem State.storeN_ok (s : State) (a : Nat) (n : Nat) (v : Nat) (hk : s.Ok wt) : (State.storeN s a n v).Ok wt := by
  simp (maxDischargeDepth := 9) [State.storeN, hk]

@[simp] theorem State.dmaStatus_ok (s : State) (c : Nat) (code : Nat) (fcode : Nat) (ended : Bool) (hk : s.Ok wt) : (State.dmaStatus s c code fcode ended).Ok wt := by
  simp (maxDischargeDepth := 9) [State.dmaStatus, hk]

@[simp] theorem State.startChan_ok (s : State) (c : Nat) : (State.startChan s c).Ok wt ↔ s.Ok wt := by
  simp (maxDischargeDepth := 9) [State.startChan]

@[simp] theorem State.finishAbort_ok (s : State) (c : Nat) (hk : s.Ok wt) : (State.finishAbort s c).Ok wt := by
  simp (maxDischargeDepth := 9) [State.finishAbort, hk]

@[simp] theorem State.abortChan_ok (s : State) (c : Nat) (hk : s.Ok wt) : (State.abortChan s c).Ok wt := by
  simp (maxDischargeDepth := 9) [State.abortChan, hk]

@[simp] theorem State.abortChans_ok (s : State) (hk : s.Ok wt) : (State.abortChans s).Ok wt := by
  simp (maxDischargeDepth := 9) (contextual := true) [State.abortChans, ok_foldl, hk]

@[simp] theorem State.beginStop_ok (s : State) (n : Nat) (tgt : FnState) (hk : s.Ok wt) (hp : isPermanent n = false) : (State.beginStop s n tgt).Ok wt := by
  simp [State.beginStop, hk, hp]

theorem State.controlRunning_ok (s : State) (n : Nat) (code : Nat) (hk : s.Ok wt) (hp : isPermanent n = false) : excOk wt (State.controlRunning s n code) := by
  simp [State.controlRunning, hk, hp]

theorem State.controlMoving_ok (s : State) (n : Nat) (code : Nat) (hk : s.Ok wt) (hp : isPermanent n = false) : excOk wt (State.controlMoving s n code) := by
  simp [State.controlMoving, hk, hp]

@[simp] theorem State.dropHeldWrites_ok (s : State) (r : Nat) (slot : Nat) : (State.dropHeldWrites s r slot).Ok wt ↔ s.Ok wt := by
  simp (maxDischargeDepth := 9) [State.dropHeldWrites]

@[simp] theorem State.dropStreams_ok (s : State) (r : Nat) (slot : Nat) : (State.dropStreams s r slot).Ok wt ↔ s.Ok wt := by
  simp (maxDischargeDepth := 9) [State.dropStreams, ok_foldl_iff]

@[simp] theorem State.miss_ok (s : State) (half : Nat) (page : Nat) : (State.miss s half page).Ok wt ↔ s.Ok wt := by
  simp (maxDischargeDepth := 9) [State.miss]

@[simp] theorem State.missFor_ok (s : State) (q : Req) : (State.missFor s q).Ok wt ↔ s.Ok wt := by
  simp (maxDischargeDepth := 9) [State.missFor, ok_foldl_iff]

@[simp] theorem State.setOrders_ok (s : State) (l : List Order) : (State.setOrders s l).Ok wt ↔ s.Ok wt := by
  simp (maxDischargeDepth := 9) [State.setOrders]

@[simp] theorem State.updOrder_ok (s : State) (r : Nat) (slot : Nat) (f : Order → Order) : (State.updOrder s r slot f).Ok wt ↔ s.Ok wt := by
  simp (maxDischargeDepth := 9) [State.updOrder]

@[simp] theorem State.orderEvent_ok (s : State) (r : Nat) (slot : Nat) (b : Nat) : (State.orderEvent s r slot b).Ok wt ↔ s.Ok wt := by
  simp (maxDischargeDepth := 9) [State.orderEvent]

@[simp] theorem State.holdWrite_ok (s : State) (q : Req) : (State.holdWrite s q).Ok wt ↔ s.Ok wt := by
  simp (maxDischargeDepth := 9) [State.holdWrite]

@[simp] theorem State.judgeWrites_ok (s : State) (h : Nat) : (State.judgeWrites s h).Ok wt ↔ s.Ok wt := by
  unfold State.judgeWrites
  grind [outOk, optOk, State.holdWrite_ok]

@[simp] theorem State.enqueue_ok (s : State) (q : Req) : (State.enqueue s q).Ok wt ↔ s.Ok wt := by
  simp (maxDischargeDepth := 9) [State.enqueue, ok_foldl_iff]

@[simp] theorem State.writeRun_ok (s : State) (h : Nat) (who : Requester) (ring : Nat) (slot : Nat) (buf : Nat) (a : Nat) (l : List Byte) : (State.writeRun s h who ring slot buf a l).Ok wt ↔ s.Ok wt := by
  simp (maxDischargeDepth := 9) [State.writeRun, ok_foldl_iff]

@[simp] theorem State.storeGroup_ok (s : State) (k : Nat) (f : Frame) : (State.storeGroup s k f).Ok wt ↔ s.Ok wt := by
  unfold State.storeGroup
  dsimp only
  simp only [State.bump64_ok, State.writeRun_ok]
  split <;> simp

@[simp] theorem State.setFrames_ok (s : State) (f : FMap Frame) : (State.setFrames s f).Ok wt ↔ s.Ok wt := by
  simp (maxDischargeDepth := 9) [State.setFrames]

@[simp] theorem State.dropFrame_ok (s : State) (k : Nat) : (State.dropFrame s k).Ok wt ↔ s.Ok wt := by
  simp (maxDischargeDepth := 9) [State.dropFrame]

@[simp] theorem State.writeBackGood_ok (s : State) (p : Nat → Bool) (keep : Bool) : (State.writeBackGood s p keep).Ok wt ↔ s.Ok wt := by
  simp (maxDischargeDepth := 9) [State.writeBackGood, ok_foldl_iff]

@[simp] theorem State.disturb_ok (s : State) : (State.disturb s).Ok wt ↔ s.Ok wt := by
  simp (maxDischargeDepth := 9) [State.disturb]

@[simp] theorem State.eventIf_ok (s : State) (b : Bool) (code : Nat) : (State.eventIf s b code).Ok wt ↔ s.Ok wt := by
  simp (maxDischargeDepth := 9) [State.eventIf]

@[simp] theorem State.logFault_ok (s : State) (e : LogEnt) (hk : s.Ok wt) : (State.logFault s e).Ok wt := by
  refine (State.bump32_ok _ _).2 ⟨hk.1, hk.2.1, hk.2.2.1, ?_⟩
  exact List.length_take_le _ _

@[simp] theorem State.failOrders_ok (s : State) (p : Order → Bool) (code : Nat) : (State.failOrders s p code).Ok wt ↔ s.Ok wt := by
  simp (maxDischargeDepth := 9) [State.failOrders]

@[simp] theorem State.stopPans_ok (s : State) (p : Nat → Pan → Bool) (cause : Nat) : (State.stopPans s p cause).Ok wt ↔ s.Ok wt := by
  simp (maxDischargeDepth := 9) [State.stopPans]

@[simp] theorem State.fault_ok (s : State) (n : Nat) (code : Nat) (l : Loc) (hk : s.Ok wt) : (State.fault s n code l).Ok wt := by
  unfold State.fault
  dsimp only
  have h1 : (s.disturb.setObj (fnKey n 4) code).Ok wt := by simp [hk]
  generalize s.disturb.setObj (fnKey n 4) code = s1 at h1
  generalize hm : (!(isPermanent n) && !((s.fn n).state == .off || (s.fn n).state == .faulted || (s.fn n).state == .wedged)) = mv
  have hp : mv = true → isPermanent n = false := by intro a; subst hm; simp at a; exact a.1
  generalize h2 : (if mv = true then _ else s1) = s2
  have h2 : s2.Ok wt := by
    subst h2
    split
    · next hmv =>
      refine State.enterFn_ok _ _ _ _ _ (State.setFn_ok _ _ _ (by simp [h1]) ?_) ?_
      · intro _ _ c; simp [hp hmv] at c
      · intro _ c; simp [hp hmv] at c
    · exact h1
  (repeat' split) <;> simp [h2]

@[simp] theorem State.setRegion_ok (s : State) (n : Nat) (x : Region) : (State.setRegion s n x).Ok wt ↔ s.Ok wt := by
  simp (maxDischargeDepth := 9) [State.setRegion]

@[simp] theorem State.poison_ok (s : State) (n : Nat) : (State.poison s n).Ok wt ↔ s.Ok wt := by
  simp (maxDischargeDepth := 9) [State.poison]

@[simp] theorem State.windrowError_ok (s : State) (k : Nat) (hub : Nat) (hk : s.Ok wt) : (State.windrowError s k hub).Ok wt := by
  simp (maxDischargeDepth := 9) [State.windrowError, ok_foldl_iff, hk]

@[simp] theorem State.meetErrors_ok (s : State) (p : Nat → Bool) (hk : s.Ok wt) : (State.meetErrors s p).Ok wt := by
  simp (maxDischargeDepth := 9) (contextual := true) [State.meetErrors, ok_foldl, hk]

@[simp] theorem State.discardCrusts_ok (s : State) (p : Crust → Bool) : (State.discardCrusts s p).Ok wt ↔ s.Ok wt := by
  simp (maxDischargeDepth := 9) [State.discardCrusts]

@[simp] theorem State.cleanUp_ok (s : State) (n : Nat) (hk : s.Ok wt) : (State.cleanUp s n).Ok wt := by
  simp (maxDischargeDepth := 9) [State.cleanUp, ok_foldl_iff, hk]

@[simp] theorem State.acknowledged_ok (s : State) (n : Nat) (hk : s.Ok wt) (hp : isPermanent n = false) : (State.acknowledged s n).Ok wt := by
  unfold State.acknowledged
  have h : ((s.cleanUp n).goFn n .ready .ready 0).Ok wt := State.goFn_ok _ _ _ _ _ (by simp [hk]) (by simp [hp])
  dsimp only
  split <;> simp [h]

theorem State.controlFaulted_ok (s : State) (n : Nat) (code : Nat) (hk : s.Ok wt) (hp : isPermanent n = false) : excOk wt (State.controlFaulted s n code) := by
  simp [State.controlFaulted, hk, hp]

theorem State.control_ok (s : State) (n : Nat) (code : Nat) (hk : s.Ok wt) : excOk wt (State.control s n code) := by
  unfold State.control
  split
  · simp
  · split
    · simp
    · split
      · simp [hk]
      · next hp =>
        have hp : isPermanent n = false := by simpa using hp
        split
        · exact State.controlOff_ok _ _ _ hk hp
        · exact State.controlReady_ok _ _ _ hk hp
        · exact State.controlRunning_ok _ _ _ hk hp
        · exact State.controlMoving_ok _ _ _ hk hp
        · exact State.controlMoving_ok _ _ _ hk hp
        · exact State.controlFaulted_ok _ _ _ hk hp
        · exact excOk_error _

@[simp] theorem State.applyPending_ok (s : State) (n : Nat) (hk : s.Ok wt) : (State.applyPending s n).Ok wt := by
  unfold State.applyPending
  dsimp only
  split
  · exact hk
  · have h1 := State.setPend_ok s n 0 hk
    have h2 := State.control_ok (s.setPend n 0) n (s.fn n).pend h1
    split
    · next t ht => exact h2 _ ht
    · simp [h1]

@[simp] theorem State.evict_ok (s : State) (k : Nat) (hk : s.Ok wt) : (State.evict s k).Ok wt := by
  unfold State.evict
  split <;> simp (maxDischargeDepth := 9) [ok_foldl_iff, hk]

@[simp] theorem State.makeFrames_ok (s : State) (h : Nat) (not : Nat) (need : Nat) (x_ : Nat) (hk : s.Ok wt) : (State.makeFrames s h not need x_).Ok wt := by
  fun_induction State.makeFrames <;> simp_all (maxDischargeDepth := 9)

@[simp] theorem State.putFrame_ok (s : State) (k : Nat) (f : Frame) : (State.putFrame s k f).Ok wt ↔ s.Ok wt := by
  simp (maxDischargeDepth := 9) [State.putFrame]

@[simp] theorem State.loadFreshkok (s : State) (h : Nat) (k : Nat) (hk : s.Ok wt) : (State.loadFresh s h k).Ok wt := by
  simp (maxDischargeDepth := 9) [State.loadFresh, hk]

@[simp] theorem State.loadGroup_ok (s : State) (h : Nat) (k : Nat) (hk : s.Ok wt) : (State.loadGroup s h k).Ok wt := by
  unfold State.loadGroup
  split <;> simp (maxDischargeDepth := 9) [ok_foldl_iff, hk]

@[simp] theorem State.countPromotion_ok (s : State) (r : Nat) (slot : Nat) (lapse : Bool) (bit : Bool) (deep : Bool) (nf : Nat) : (State.countPromotion s r slot lapse bit deep nf).Ok wt ↔ s.Ok wt := by
  simp (maxDischargeDepth := 9) [State.countPromotion, ok_foldl_iff]

@[simp] theorem State.disarm_ok (s : State) : (State.disarm s).Ok wt ↔ s.Ok wt := by
  simp (maxDischargeDepth := 9) [State.disarm]

@[simp] theorem State.putPromoted_ok (s : State) (hub : Nat) (key : Nat) (f : Frame) (vals : List (Nat × Val)) : (State.putPromoted s hub key f vals).Ok wt ↔ s.Ok wt := by
  simp (maxDischargeDepth := 9) [State.putPromoted]

@[simp] theorem State.promoteEvent_ok (s : State) (r : Nat) (slot : Nat) (hub : Nat) (key : Nat) (vals : List (Nat × Val)) (hk : s.Ok wt) : (State.promoteEvent s r slot hub key vals).Ok wt := by
  unfold State.promoteEvent
  split
  · exact hk
  · have h1 := State.loadGroup_ok s hub key hk
    generalize State.loadGroup s hub key = s1 at h1
    dsimp only
    split
    · exact h1
    · split
      · exact State.windrowError_ok _ _ _ h1
      · generalize countEvent _ _ _ = c
        (repeat' split) <;> simp [h1]

@[simp] theorem State.applyEvent_ok (s : State) (r : Nat) (slot : Nat) (hub : Nat) (key : Nat) (ev : Nat) (vals : List (Nat × Val)) (hk : s.Ok wt) : (State.applyEvent s r slot hub key ev vals).Ok wt := by
  simp (maxDischargeDepth := 9) [State.applyEvent, hk]

@[simp] theorem State.scaleStep_ok (s : State) (o : Order) (p : Plan) (q : Nat) (key : Nat) (hk : s.Ok wt) : (State.scaleStep s o p q key).Ok wt := by
  unfold State.scaleStep
  grind [outOk, optOk, State.bump_ok, State.applyEvent_ok]

@[simp] theorem State.targetEvent_ok (s : State) (o : Order) (p : Plan) (t : Target) (key : Nat) (hk : s.Ok wt) : (State.targetEvent s o p t key).Ok wt := by
  unfold State.targetEvent
  grind [outOk, optOk, State.applyEvent_ok]

@[simp] theorem State.promoStep_ok (s : State) (o : Order) (group : Nat) (hk : s.Ok wt) : (State.promoStep s o group).Ok wt := by
  unfold State.promoStep
  grind [outOk, optOk, State.scaleStep_ok, State.targetEvent_ok]

@[simp] theorem State.setAtt_ok (s : State) (a : Att) : (State.setAtt s a).Ok wt ↔ s.Ok wt := by
  simp (maxDischargeDepth := 9) [State.setAtt]

@[simp] theorem State.setRev_ok (s : State) (v : Rev) : (State.setRev s v).Ok wt ↔ s.Ok wt := by
  simp (maxDischargeDepth := 9) [State.setRev]

@[simp] theorem State.countOut_ok (s : State) (r : Nat) (slot : Nat) (sub : Nat) : (State.countOut s r slot sub).Ok wt ↔ s.Ok wt := by
  simp (maxDischargeDepth := 9) [State.countOut]

@[simp] theorem State.attWrite_ok (s : State) (o : Order) (base : Nat) (fm : Nat) (f : Nat → Nat → Nat → Nat) (hk : s.Ok wt) : (State.attWrite s o base fm f).Ok wt := by
  simp (maxDischargeDepth := 9) (contextual := true) [State.attWrite, ok_foldl, hk]

@[simp] theorem State.attDrain_ok (s : State) (o : Order) (v : Rev) (hk : s.Ok wt) : (State.attDrain s o v).Ok wt := by
  simp (maxDischargeDepth := 9) (contextual := true) [State.attDrain, ok_foldl, hk]

@[simp] theorem State.stepElem_ok (s : State) (o : Order) (x : HLayer) (ic1 : Nat) (i : Nat) (j : Nat) (u : Nat) (hk : s.Ok wt) : (State.stepElem s o x ic1 i j u).Ok wt := by
  unfold State.stepElem
  (repeat' split) <;> simp_all (maxDischargeDepth := 9) [ok_foldl_iff]

@[simp] theorem answerOf_ok (s : State) (x_ : Except Nat State) (hk : s.Ok wt) (h : ∀ t, x_ = .ok t → t.Ok wt) : (answerOf s x_).1.Ok wt := by
  cases x_ <;> simp_all [answerOf]

@[simp] theorem answerOr_ok (s : State) (c : Nat) (x_ : Option State) (hk : s.Ok wt) (h : optOk wt x_) : (answerOr s c x_).1.Ok wt := by
  cases x_ <;> simp_all [answerOr]

@[simp] theorem State.setRing_ok (s : State) (r : Nat) (x : Ring) : (State.setRing s r x).Ok wt ↔ s.Ok wt := by
  simp (maxDischargeDepth := 9) [State.setRing]

@[simp] theorem State.startRing_ok (s : State) (r : Nat) : (State.startRing s r).Ok wt ↔ s.Ok wt := by
  simp (maxDischargeDepth := 9) [State.startRing]

@[simp] theorem State.drainRing_ok (s : State) (r : Nat) : (State.drainRing s r).Ok wt ↔ s.Ok wt := by
  simp (maxDischargeDepth := 9) [State.drainRing]

@[simp] theorem State.ringControl_ok (s : State) (r : Nat) (code : Nat) (hk : s.Ok wt) : optOk wt (State.ringControl s r code) := by
  unfold State.ringControl
  grind [outOk, optOk, State.setRing_ok, State.startRing_ok, State.drainRing_ok]

@[simp] theorem State.drainPromos_ok (s : State) (o : Order) (hk : s.Ok wt) : (State.drainPromos s o).Ok wt := by
  unfold State.drainPromos
  split
  · exact hk
  · refine ok_foldl _ _ _ (fun s a hs => ?_) hk
    split <;> simp [hs]

@[simp] theorem State.setLayer_ok (s : State) (l : Nat) (x : Layer) : (State.setLayer s l x).Ok wt ↔ s.Ok wt := by
  simp (maxDischargeDepth := 9) [State.setLayer]

@[simp] theorem State.dropWin_ok (s : State) (n : Nat) : (State.dropWin s n).Ok wt ↔ s.Ok wt := by
  simp (maxDischargeDepth := 9) [State.dropWin]

@[simp] theorem State.clearRegion_ok (s : State) (n : Nat) (hk : s.Ok wt) : (State.clearRegion s n).Ok wt := by
  simp only [State.clearRegion, State.bump64_ok, State.setRegion_ok, State.setFrames_ok, ok_mk]
  exact ⟨hk.1, clearRange_wf _ _ _ (clearRange_wf _ _ _ (clearRange_wf _ _ _ hk.2.1)), hk.2.2⟩

@[simp] theorem State.endHarrow_ok (s : State) (o : Order) (ok : Bool) (hk : s.Ok wt) : (State.endHarrow s o ok).Ok wt := by
  unfold State.endHarrow
  split <;> simp (maxDischargeDepth := 9) [ok_foldl_iff, hk]

@[simp] theorem State.publishkok (s : State) (l : Nat) (a : Nat) (x_ : Nat) (hk : s.Ok wt) : (State.publish s l a x_).Ok wt := by
  fun_induction State.publish <;> simp_all (maxDischargeDepth := 9)

@[simp] theorem State.readQds_ok (s : State) (l : List Nat) : (State.readQds s l).Ok wt ↔ s.Ok wt := by
  simp (maxDischargeDepth := 9) [State.readQds, ok_foldl_iff]

@[simp] theorem State.reread_ok (s : State) (n : Nat) : (State.reread s n).Ok wt ↔ s.Ok wt := by
  simp (maxDischargeDepth := 9) [State.reread]

@[simp] theorem State.settle_ok (s : State) (o : Order) (ok : Bool) (hk : s.Ok wt) : (State.settle s o ok).Ok wt := by
  simp (maxDischargeDepth := 9) [State.settle, hk]

@[simp] theorem State.freePans_ok (s : State) (r : Nat) (slot : Nat) (status : Nat) : (State.freePans s r slot status).Ok wt ↔ s.Ok wt := by
  simp (maxDischargeDepth := 9) [State.freePans]

@[simp] theorem State.leave_ok (s : State) (o : Order) (status : Nat) : (State.leave s o status).Ok wt ↔ s.Ok wt := by
  simp (maxDischargeDepth := 9) [State.leave]

@[simp] theorem State.setComing_ok (s : State) (o : Order) (n : Nat) (e : Nat) : (State.setComing s o n e).Ok wt ↔ s.Ok wt := by
  simp (maxDischargeDepth := 9) [State.setComing]

@[simp] theorem State.forsake_ok (s : State) (o : Order) (n : Nat) : (State.forsake s o n).Ok wt ↔ s.Ok wt := by
  simp (maxDischargeDepth := 9) [State.forsake]

@[simp] theorem State.arrived_ok (s : State) (o : Order) (n : Nat) (rec_ : Nat → Nat) (hk : s.Ok wt) : (State.arrived s o n rec_).Ok wt := by
  simp (maxDischargeDepth := 9) [State.arrived, hk]

@[simp] theorem State.closeOutput_ok (s : State) (o : Order) (ok : Bool) (hk : s.Ok wt) : (State.closeOutput s o ok).Ok wt := by
  simp (maxDischargeDepth := 9) [State.closeOutput, hk]

@[simp] theorem State.unpin_ok (s : State) (p : Option (Nat × Nat)) : (State.unpin s p).Ok wt ↔ s.Ok wt := by
  unfold State.unpin
  split <;> simp (maxDischargeDepth := 9) [ok_foldl_iff]

@[simp] theorem State.unpinSlots_ok (s : State) (o : Order) : (State.unpinSlots s o).Ok wt ↔ s.Ok wt := by
  simp (maxDischargeDepth := 9) [State.unpinSlots, ok_foldl_iff]

@[simp] theorem State.freeEntry_ok (s : State) (n : Nat) (hk : s.Ok wt) : (State.freeEntry s n).Ok wt := by
  simp (maxDischargeDepth := 9) [State.freeEntry, hk]

@[simp] theorem State.releaseEntry_ok (s : State) (n : Nat) (hk : s.Ok wt) : (State.releaseEntry s n).Ok wt := by
  simp (maxDischargeDepth := 9) [State.releaseEntry, hk]

@[simp] theorem State.unpinEntry_ok (s : State) (n : Nat) (hk : s.Ok wt) : (State.unpinEntry s n).Ok wt := by
  simp (maxDischargeDepth := 9) [State.unpinEntry, hk]

@[simp] theorem State.unpinAll_ok (s : State) (o : Order) (ok : Bool) (hk : s.Ok wt) : (State.unpinAll s o ok).Ok wt := by
  simp (maxDischargeDepth := 9) (contextual := true) [State.unpinAll, ok_foldl, hk]

@[simp] theorem State.countDone_ok (s : State) (o : Order) : (State.countDone s o).Ok wt ↔ s.Ok wt := by
  simp (maxDischargeDepth := 9) [State.countDone]

@[simp] theorem State.setPan_ok (s : State) (p : Nat) (x : Pan) : (State.setPan s p x).Ok wt ↔ s.Ok wt := by
  simp (maxDischargeDepth := 9) [State.setPan]

@[simp] theorem State.takeBack_ok (s : State) (q : Nat × Nat) : (State.takeBack s q).Ok wt ↔ s.Ok wt := by
  unfold State.takeBack
  split <;> simp (maxDischargeDepth := 9) [ok_foldl_iff]

@[simp] theorem State.cplBit_ok (s : State) (r : Nat) : (State.cplBit s r).Ok wt ↔ s.Ok wt := by
  simp (maxDischargeDepth := 9) [State.cplBit]

@[simp] theorem State.haltRing_ok (s : State) (r : Nat) : (State.haltRing s r).Ok wt ↔ s.Ok wt := by
  simp (maxDischargeDepth := 9) [State.haltRing]

@[simp] theorem State.record_ok (s : State) (o : Order) (status : Nat) (code : Nat) (hk : s.Ok wt) : (State.record s o status code).Ok wt := by
  simp (maxDischargeDepth := 9) [State.record, hk]

@[simp] theorem State.closeOrder_ok (s : State) (o : Order) (status : Nat) (code : Nat) (hk : s.Ok wt) : (State.closeOrder s o status code).Ok wt := by
  unfold State.closeOrder
  have h2 : ((s.leave o status).settle o (decide (status = 0))).Ok wt := by simp [hk]
  dsimp only
  generalize (s.leave o status).settle o (decide (status = 0)) = s2 at h2
  have h3 : State.Ok wt (if decide (status = 0) = true then s2.countDone o else s2) := by split <;> simp [h2]
  have h4 := ok_foldl (fun (s : State) q => s.takeBack q) o.preempts _ (fun s a hs => by simp [hs])
    (State.unpinAll_ok _ o (decide (status = 0)) h3)
  exact State.pump_ok _ (State.record_ok _ _ _ _ h4)

@[simp] theorem State.complete_ok (s : State) (o : Order) (status : Nat) (code : Nat) (hk : s.Ok wt) : (State.complete s o status code).Ok wt := by
  unfold State.complete
  refine State.closeOrder_ok _ _ _ _ ?_
  split <;> simp [hk]

@[simp] theorem State.abort_ok (s : State) (r : Nat) (slot : Nat) (hk : s.Ok wt) : (State.abort s r slot).Ok wt := by
  unfold State.abort
  (repeat' split) <;> simp_all (maxDischargeDepth := 9) [ok_foldl_iff]

@[simp] theorem State.chanControl_ok (s : State) (c : Nat) (code : Nat) (hk : s.Ok wt) : optOk wt (State.chanControl s c code) := by
  simp (maxDischargeDepth := 9) [State.chanControl, hk]

@[simp] theorem State.setQueue_ok (s : State) (l : Nat) (q : Queue) : (State.setQueue s l q).Ok wt ↔ s.Ok wt := by
  simp (maxDischargeDepth := 9) [State.setQueue]

@[simp] theorem State.settleStop_ok (s : State) (pn : Nat) : (State.settleStop s pn).Ok wt ↔ s.Ok wt := by
  simp (maxDischargeDepth := 9) [State.settleStop]

@[simp] theorem State.unholdPan_ok (s : State) (pn : Nat) : (State.unholdPan s pn).Ok wt ↔ s.Ok wt := by
  simp (maxDischargeDepth := 9) [State.unholdPan]

@[simp] theorem State.unholdPans_ok (s : State) (x : Stream) : (State.unholdPans s x).Ok wt ↔ s.Ok wt := by
  simp (maxDischargeDepth := 9) [State.unholdPans, ok_foldl_iff]

@[simp] theorem State.updStream_ok (s : State) (x : Stream) (f : Stream → Stream) : (State.updStream s x f).Ok wt ↔ s.Ok wt := by
  simp (maxDischargeDepth := 9) [State.updStream]

@[simp] theorem State.resumeRead_ok (s : State) (x : Stream) : (State.resumeRead s x).Ok wt ↔ s.Ok wt := by
  simp (maxDischargeDepth := 9) [State.resumeRead, ok_foldl_iff]

@[simp] theorem State.resumeWrites_ok (s : State) (l : Nat) : (State.resumeWrites s l).Ok wt ↔ s.Ok wt := by
  simp (maxDischargeDepth := 9) [State.resumeWrites, ok_foldl_iff]

@[simp] theorem State.resumeStream_ok (s : State) (l : Nat) : (State.resumeStream s l).Ok wt ↔ s.Ok wt := by
  unfold State.resumeStream
  dsimp only
  split <;> simp

@[simp] theorem State.testStop_ok (s : State) (mask : Nat) : (State.testStop s mask).Ok wt ↔ s.Ok wt := by
  simp (maxDischargeDepth := 9) [State.testStop]

@[simp] theorem State.testResume_ok (s : State) (mask : Nat) : (State.testResume s mask).Ok wt ↔ s.Ok wt := by
  simp (maxDischargeDepth := 9) [State.testResume]

@[simp] theorem State.clearWlb_ok (s : State) (p : Nat → WlbEnt → Bool) : (State.clearWlb s p).Ok wt ↔ s.Ok wt := by
  simp (maxDischargeDepth := 9) [State.clearWlb]

@[simp] theorem State.setCommit_ok (s : State) (c : Commit) : (State.setCommit s c).Ok wt ↔ s.Ok wt := by
  simp (maxDischargeDepth := 9) [State.setCommit]

@[simp] theorem State.capture_ok (s : State) (hk : s.Ok wt) : (State.capture s).Ok wt := by
  simp (maxDischargeDepth := 9) [State.capture, hk]

@[simp] theorem State.setPages_ok (s : State) (l : List KvPage) : (State.setPages s l).Ok wt ↔ s.Ok wt := by
  simp (maxDischargeDepth := 9) [State.setPages]

@[simp] theorem State.dropCaches_ok (s : State) (hk : s.Ok wt) : (State.dropCaches s).Ok wt := by
  simp (maxDischargeDepth := 9) (contextual := true) [State.dropCaches, ok_foldl, hk]

@[simp] theorem State.setSplit_ok (s : State) (v : Nat) (hk : s.Ok wt) : (State.setSplit s v).Ok wt := by
  simp (maxDischargeDepth := 9) (contextual := true) [State.setSplit, ok_foldl, hk]

@[simp] theorem State.setTestThrottle_ok (s : State) (v : Nat) : (State.setTestThrottle s v).Ok wt ↔ s.Ok wt := by
  simp (maxDischargeDepth := 9) [State.setTestThrottle]

@[simp] theorem State.noteEmergency_ok (s : State) : (State.noteEmergency s).Ok wt ↔ s.Ok wt := by
  simp (maxDischargeDepth := 9) [State.noteEmergency]

@[simp] theorem State.noteTriggers_ok (s : State) : (State.noteTriggers s).Ok wt ↔ s.Ok wt := by
  simp (maxDischargeDepth := 9) [State.noteTriggers]

@[simp] theorem State.weirReact_ok (s : State) : (State.weirReact s).Ok wt ↔ s.Ok wt := by
  simp (maxDischargeDepth := 9) [State.weirReact]

@[simp] theorem State.applyObj_ok (s : State) (i : Nat) (j : Nat) (v : Nat) (hk : s.Ok wt) : (State.applyObj s i j v).Ok wt := by
  simp (maxDischargeDepth := 9) [State.applyObj, hk]

@[simp] theorem State.commit_ok (s : State) (priv : Nat) (hk : s.Ok wt) : (State.commit s priv).1.Ok wt := by
  unfold State.commit
  dsimp only
  split
  · simp [hk]
  · split
    · simp [hk]
    · simp only [State.setCommit_ok]
      exact ok_foldl _ _ _ (fun s a hs => by simp [hs]) hk

@[simp] theorem State.commitControl_ok (s : State) (priv : Nat) (code : Nat) (hk : s.Ok wt) : (State.commitControl s priv code).1.Ok wt := by
  simp (maxDischargeDepth := 9) [State.commitControl, hk]

@[simp] theorem State.setSnap_ok (s : State) (x : Snap) : (State.setSnap s x).Ok wt ↔ s.Ok wt := by
  simp (maxDischargeDepth := 9) [State.setSnap]

@[simp] theorem State.setHub_ok (s : State) (h : Nat) (x : Hub) : (State.setHub s h x).Ok wt ↔ s.Ok wt := by
  simp (maxDischargeDepth := 9) [State.setHub]

@[simp] theorem State.skipStill_ok (s : State) : (State.skipStill s).Ok wt ↔ s.Ok wt :=
  ok_foldl_iff _ _ _ fun s h => by simp

@[simp] theorem State.snapSettle_ok (s : State) (hk : s.Ok wt) : (State.snapSettle s).Ok wt := by
  simp (maxDischargeDepth := 9) [State.snapSettle, hk]

theorem State.snapControl_ok (s : State) (code : Nat) (hk : s.Ok wt) : excOk wt (State.snapControl s code) := by
  unfold State.snapControl
  (repeat' split) <;> simp_all (maxDischargeDepth := 9) [ok_foldl_iff]

@[simp] theorem State.ackLog_ok (s : State) (hk : s.Ok wt) : (State.ackLog s).Ok wt := by
  refine ⟨hk.1, hk.2.1, hk.2.2.1, ?_⟩
  show (List.map _ _).length ≤ 32
  simpa using hk.2.2.2

@[simp] theorem State.restoreRegion_ok (s : State) (n : Nat) : (State.restoreRegion s n).Ok wt ↔ s.Ok wt := by
  simp (maxDischargeDepth := 9) [State.restoreRegion]

@[simp] theorem State.setMgt_ok (s : State) (m : Mgt) : (State.setMgt s m).Ok wt ↔ s.Ok wt := by
  simp (maxDischargeDepth := 9) [State.setMgt]

@[simp] theorem State.setSession_ok (s : State) (n : Nat) (x : Option Session) : (State.setSession s n x).Ok wt ↔ s.Ok wt := by
  simp (maxDischargeDepth := 9) [State.setSession]

@[simp] theorem State.setXfer_ok (s : State) (cl : Nat) (x : Option Xfer) : (State.setXfer s cl x).Ok wt ↔ s.Ok wt := by
  simp (maxDischargeDepth := 9) [State.setXfer]

@[simp] theorem State.countAnswer_ok (s : State) (cl : Nat) : (State.countAnswer s cl).Ok wt ↔ s.Ok wt := by
  simp (maxDischargeDepth := 9) [State.countAnswer]

@[simp] theorem State.abortXfer_ok (s : State) (cl : Nat) (code : Nat) : (State.abortXfer s cl code).Ok wt ↔ s.Ok wt := by
  unfold State.abortXfer
  split <;> simp (maxDischargeDepth := 9) [ok_foldl_iff]

@[simp] theorem State.closeSession_ok (s : State) (n : Nat) : (State.closeSession s n).Ok wt ↔ s.Ok wt := by
  unfold State.closeSession
  split <;> simp (maxDischargeDepth := 9) [ok_foldl_iff]

@[simp] theorem State.closeOf_ok (s : State) (cl : Nat) : (State.closeOf s cl).Ok wt ↔ s.Ok wt := by
  unfold State.closeOf
  split <;> simp (maxDischargeDepth := 9) [ok_foldl_iff]

@[simp] theorem State.setClient_ok (s : State) (cl : Nat) (x : Client) : (State.setClient s cl x).Ok wt ↔ s.Ok wt := by
  simp (maxDischargeDepth := 9) [State.setClient]

@[simp] theorem State.draw_ok (s : State) : (State.draw s).Ok wt ↔ s.Ok wt := by
  simp (maxDischargeDepth := 9) [State.draw]

@[simp] theorem State.openHandshake_ok (s : State) (cl : Nat) (p : Nat) : (State.openHandshake s cl p).1.Ok wt ↔ s.Ok wt := by
  simp (maxDischargeDepth := 9) [State.openHandshake]

@[simp] theorem State.authFails_ok (s : State) (cl : Nat) : (State.authFails s cl).Ok wt ↔ s.Ok wt := by
  simp (maxDischargeDepth := 9) [State.authFails]

@[simp] theorem State.respond_ok (s : State) (cl : Nat) (mac : List Byte) : (State.respond s cl mac).1.Ok wt ↔ s.Ok wt := by
  unfold State.respond
  grind [outOk, optOk, State.bump32_ok, State.setSession_ok, State.setClient_ok, State.authFails_ok]

@[simp] theorem State.writeKey_ok (s : State) (p : Nat) (data : List Byte) : (State.writeKey s p data).1.Ok wt ↔ s.Ok wt := by
  simp (maxDischargeDepth := 9) [State.writeKey]

theorem State.writeSpecial_ok (s : State) (cl : Nat) (priv : Nat) (k : Nat) (i : Nat) (v : Nat) (data : List Byte) (hk : s.Ok wt) : ∀ t, State.writeSpecial s cl priv k i v data = some t → t.1.Ok wt := by
  show optFstOk wt _
  unfold State.writeSpecial
  simp only [optFstOk_ite, optFstOk_some, optFstOk_none, fstOk_ite]
  simp [hk, answerOr_ok]
  split
  · exact answerOf_ok _ _ hk (State.control_ok _ _ _ hk)
  · intros
    exact answerOf_ok _ _ hk (State.snapControl_ok _ _ hk)

@[simp] theorem State.setSel_ok (s : State) (cl : Nat) (k : Nat) (v : Nat) : (State.setSel s cl k v).Ok wt ↔ s.Ok wt := by
  unfold State.setSel
  split <;> simp (maxDischargeDepth := 9) [ok_foldl_iff]

@[simp] theorem State.serveWrite_ok (s : State) (cl : Nat) (i : Nat) (j : Nat) (data : List Byte) (hk : s.Ok wt) : (State.serveWrite s cl i j data).1.Ok wt := by
  unfold State.serveWrite
  split
  · exact hk
  · split
    · exact hk
    · dsimp only
      split
      · exact hk
      · split
        · exact hk
        · split
          · exact hk
          · split
            · exact hk
            · split
              · next hx => exact State.writeSpecial_ok _ _ _ _ _ _ _ hk _ hx
              · (repeat' split) <;> simp [hk]

@[simp] theorem State.initiate_ok (s : State) (cl : Nat) : (State.initiate s cl).Ok wt ↔ s.Ok wt := by
  simp (maxDischargeDepth := 9) [State.initiate]

@[simp] theorem State.initWrite_ok (s : State) (cl : Nat) (i : Nat) (j : Nat) (data : List Byte) : (State.initWrite s cl i j data).Ok wt ↔ s.Ok wt := by
  simp (maxDischargeDepth := 9) [State.initWrite]

@[simp] theorem State.countRequest_ok (s : State) (cl : Nat) : (State.countRequest s cl).Ok wt ↔ s.Ok wt := by
  simp (maxDischargeDepth := 9) [State.countRequest]

@[simp] theorem State.asked_ok (s : State) (cl : Nat) (i : Nat) (j : Nat) (data : List Byte) : (State.asked s cl i j data).Ok wt ↔ s.Ok wt := by
  simp (maxDischargeDepth := 9) [State.asked]

@[simp] theorem State.afterEntry_ok (s : State) (cause : Nat) (hk : s.Ok ⟨wt.queue, false⟩) : (State.afterEntry s cause).Ok ⟨wt.queue, false⟩ := by
  unfold State.afterEntry
  dsimp only
  split <;> simp [permOk] <;> exact ⟨hk.1, hk.2.1, by simp [State.reset]⟩

@[simp] theorem State.setBank_ok (s : State) (k : Nat) (f : Nat → Byte) (n : Nat) : (State.setBank s k f n).Ok wt ↔ s.Ok wt := by
  simp (maxDischargeDepth := 9) [State.setBank]

@[simp] theorem State.tearBank_ok (s : State) (k : Nat) (step : Nat) (image : List Byte) : (State.tearBank s k step image).Ok wt ↔ s.Ok wt := by
  simp (maxDischargeDepth := 9) [State.tearBank]

@[simp] theorem State.cutShort_ok (s : State) : (State.cutShort s).Ok wt ↔ s.Ok wt := by
  simp (maxDischargeDepth := 9) [State.cutShort]

@[simp] theorem State.poisonAll_ok (s : State) : (State.poisonAll s).Ok wt ↔ s.Ok wt := by
  simp (maxDischargeDepth := 9) [State.poisonAll]

@[simp] theorem State.latchkok (s : State) (hk : s.Ok wt) : (State.latch s).Ok wt := by
  exact hk

@[simp] theorem State.loadRecord_ok (s : State) (r : BankRec) (hk : s.Ok wt) : (State.loadRecord s r).1.Ok wt := by
  unfold State.loadRecord
  split <;> simp (maxDischargeDepth := 9) [ok_foldl_iff, hk]

@[simp] theorem State.loadRecords_ok (s : State) (rs : List BankRec) (hk : s.Ok wt) : (State.loadRecords s rs).Ok wt := by
  unfold State.loadRecords
  simp only [State.eventIf_ok, State.setObj_ok]
  exact ok_foldl_fst _ _ _ (fun x a hx => by simp [hx]) hk

@[simp] theorem State.loadConfig_ok (s : State) (parityA : Bool) (parityB : Bool) (hk : s.Ok wt) : (State.loadConfig s parityA parityB).Ok wt := by
  simp (maxDischargeDepth := 9) [State.loadConfig, hk]

@[simp] theorem State.reachkok (s : State) (n : Nat) (hk : s.Ok wt) (hm : wt.perm = true → isPermanent n = false) : (State.reach s n).Ok wt := by
  unfold State.reach
  exact State.applyPending_ok _ _ (State.goFn_ok _ _ _ _ _ hk (fun a c => by simp [hm a] at c))

@[simp] theorem State.clearStreams_ok (s : State) : (State.clearStreams s).Ok wt ↔ s.Ok wt := by
  simp (maxDischargeDepth := 9) [State.clearStreams, ok_foldl_iff]

@[simp] theorem State.resetEntries_ok (s : State) (hk : s.Ok wt) : (State.resetEntries s).Ok wt := by
  unfold State.resetEntries
  exact ⟨hk.1, clearRange_wf _ _ _ hk.2.1, hk.2.2⟩

@[simp] theorem State.startWork_ok (s : State) (n : Nat) (hk : s.Ok wt) : (State.startWork s n).Ok wt := by
  simp (maxDischargeDepth := 9) [State.startWork, hk]

@[simp] theorem State.startFails_ok (s : State) (n : Nat) (hk : s.Ok wt) : (State.startFails s n).Ok wt := by
  unfold State.startFails
  split
  · dsimp only
    have h1 := State.setFn_ok (wt := wt) (s.setMods (fun _ x => { x with state := 7 })) 9 { s.fn 9 with persists := 0x09F0 } (by simp [hk]) (by simp [isPermanent])
    simp [h1]
  · exact State.fault_ok _ _ _ _ hk

@[simp] theorem State.startEnds_ok (s : State) (n : Nat) (ok : Bool) (hk : s.Ok wt) (hm : wt.perm = true → isPermanent n = false) : (State.startEnds s n ok).Ok wt := by
  unfold State.startEnds
  split
  · exact State.reachkok _ _ (by simp [hk]) hm
  · split <;> simp [hk]

@[simp] theorem State.trainAll_ok (s : State) (failed : Option Nat) (hk : s.Ok wt) : (State.trainAll s failed).Ok wt := by
  unfold State.trainAll
  exact State.startEnds_ok _ _ _ (by simp [hk]) (fun _ => rfl)

@[simp] theorem State.bringUp_ok (s : State) (env : ResetEnv) (n : Nat) (hk : s.Ok wt) (hm : wt.perm = true → isPermanent n = false) : (State.bringUp s env n).Ok wt := by
  unfold State.bringUp
  dsimp only
  split
  · refine State.startEnds_ok _ _ _ (State.setFn_ok _ _ _ (State.goFn_ok _ _ _ _ _ hk (by simp [isPermanent])) (by simp [isPermanent])) (fun _ => rfl)
  · split
    · exact hk
    · have h1 := State.goFn_ok s n .starting (if (s.resetGoal n == .off) = true then .ready else s.resetGoal n) 0 hk (fun a c => by simp [hm a] at c)
      split
      · exact State.trainAll_ok _ _ h1
      · exact State.startEnds_ok _ _ _ h1 hm

@[simp] theorem State.toOff_ok (s : State) (n : Nat) (hk : s.Ok wt) (hm : wt.perm = true → isPermanent n = false) : (State.toOff s n).Ok wt := by
  unfold State.toOff
  split
  · exact State.goFn_ok _ _ _ _ _ hk (fun a c => by simp [hm a] at c)
  · exact hk

@[simp] theorem State.sendFrame_ok (s : State) (id : Nat) (data : List Byte) : (State.sendFrame s id data).Ok wt ↔ s.Ok wt := by
  simp (maxDischargeDepth := 9) [State.sendFrame]

@[simp] theorem State.bringUpAll_ok (s : State) (env : ResetEnv) (hk : s.Ok ⟨wt.queue, false⟩) : (State.bringUpAll s env).Ok wt := by
  unfold State.bringUpAll
  dsimp only
  have h1 : (((s.loadConfig env.parityA env.parityB).latch).poisonAll).Ok ⟨wt.queue, false⟩ := by simp [hk]
  generalize ((s.loadConfig env.parityA env.parityB).latch).poisonAll = s1 at h1
  have h2 : (([10, 11, 14].foldl (fun (s : State) n => s.goFn n .running .running 0) s1)).Ok wt := by
    have h3 : (([10, 11, 14].foldl (fun (s : State) n => s.goFn n .running .running 0) s1)).Ok ⟨wt.queue, false⟩ :=
      ok_foldl _ _ _ (fun s a hs => State.goFn_ok _ _ _ _ _ hs (by simp)) h1
    refine ⟨h3.1, h3.2.1, ?_, h3.2.2.2⟩
    intro _ _ n hn
    refine Or.inl ?_
    have hn : n = 10 ∨ n = 11 ∨ n = 14 := by simpa [isPermanent, or_assoc] using hn
    rcases hn with rfl | rfl | rfl <;>
      simp [State.goFn, State.enterFn, State.bump32, State.bump, State.setObj, State.setFn, FMap.get_put_ne]
  generalize [10, 11, 14].foldl (fun (s : State) n => s.goFn n .running .running 0) s1 = s2 at h2
  have h4 : (bringUpOrder.foldl (fun (s : State) n => s.bringUp env n) s2).Ok wt := by
    simp only [bringUpOrder, List.foldl]
    refine State.bringUp_ok _ _ _ ?_ (fun _ => rfl)
    refine State.bringUp_ok _ _ _ ?_ (fun _ => rfl)
    refine State.bringUp_ok _ _ _ ?_ (fun _ => rfl)
    refine State.bringUp_ok _ _ _ ?_ (fun _ => rfl)
    refine State.bringUp_ok _ _ _ ?_ (fun _ => rfl)
    refine State.bringUp_ok _ _ _ ?_ (fun _ => rfl)
    refine State.bringUp_ok _ _ _ ?_ (fun _ => rfl)
    refine State.bringUp_ok _ _ _ ?_ (fun _ => rfl)
    refine State.bringUp_ok _ _ _ ?_ (fun _ => rfl)
    refine State.bringUp_ok _ _ _ ?_ (fun _ => rfl)
    exact State.bringUp_ok _ _ _ h2 (fun _ => rfl)
  generalize bringUpOrder.foldl (fun (s : State) n => s.bringUp env n) s2 = s3 at h4
  have h5 := State.toOff_ok _ 8 (State.toOff_ok _ 9 h4 (fun _ => rfl)) (fun _ => rfl)
  simp [h5]

@[simp] theorem State.fullReset_ok (s : State) (cause : Nat) (env : ResetEnv) (hk : s.Ok wt) : (State.fullReset s cause env).Ok wt := by
  have h1 : s.Ok ⟨wt.queue, false⟩ := ⟨hk.1, hk.2.1, fun a => by simp at a, hk.2.2.2⟩
  have h2 := State.afterEntry_ok s.cutShort cause ((State.cutShort_ok s).2 h1)
  unfold State.fullReset
  dsimp only
  split
  · exact State.bringUpAll_ok _ _ h2
  · have h3 := State.afterEntry_ok _ 3 h2
    split
    · exact State.bringUpAll_ok _ _ h3
    · exact ⟨h3.1, h3.2.1, fun _ c => by simp at c, h3.2.2.2⟩

@[simp] theorem State.thenReset_ok (s : State) (i : Nat) (j : Nat) (a : Answer) (env : ResetEnv) (hk : s.Ok wt) : (State.thenReset s i j a env).Ok wt := by
  simp (maxDischargeDepth := 9) [State.thenReset, hk]

@[simp] theorem State.served_ok (s : State) (cl : Nat) : (State.served s cl).Ok wt ↔ s.Ok wt := by
  unfold State.served
  split <;> simp (maxDischargeDepth := 9) [ok_foldl_iff]

@[simp] theorem State.answer_ok (s : State) (cl : Nat) (a : Answer) : (State.answer s cl a).Ok wt ↔ s.Ok wt := by
  simp (maxDischargeDepth := 9) [State.answer]

@[simp] theorem State.write_ok (s : State) (cl : Nat) (i : Nat) (j : Nat) (data : List Byte) (env : ResetEnv) (hk : s.Ok wt) : (State.write s cl i j data env).Ok wt := by
  simp (maxDischargeDepth := 9) [State.write, hk]

@[simp] theorem State.writeNum_ok (s : State) (cl : Nat) (i : Nat) (j : Nat) (w : Nat) (v : Nat) (hk : s.Ok wt) : outOk wt (State.writeNum s cl i j w v) := by
  simp (maxDischargeDepth := 9) [State.writeNum, hk]

theorem execInjectArm_ok (cl : ClientNo) (s : State) (hk : s.Ok wt) : outOk wt (execInjectArm cl s) := by
  simp (maxDischargeDepth := 9) [execInjectArm, hk]

@[simp] theorem State.refuse_ok (s : State) (o : Order) (code : Nat) (hk : s.Ok wt) : (State.refuse s o code).Ok wt := by
  unfold State.refuse
  dsimp only
  refine State.record_ok _ _ _ _ ?_
  (repeat' split) <;> simp [hk]

@[simp] theorem State.advance_ok (s : State) (r : Nat) (hk : s.Ok wt) : (State.advance s r).Ok wt := by
  simp (maxDischargeDepth := 9) [State.advance, hk]

@[simp] theorem State.pinEntry_ok (s : State) (n : Nat) (hk : s.Ok wt) : (State.pinEntry s n).Ok wt := by
  simp (maxDischargeDepth := 9) [State.pinEntry, hk]

@[simp] theorem State.pinEntries_ok (s : State) (o : Order) (hk : s.Ok wt) : (State.pinEntries s o).1.Ok wt := by
  unfold State.pinEntries
  refine ok_foldl_fst _ _ _ (fun x a hx => ?_) hk
  split <;> simp [hx]

@[simp] theorem State.accept_ok (s : State) (o : Order) (hk : s.Ok wt) : (State.accept s o).Ok wt := by
  simp (maxDischargeDepth := 9) [State.accept, hk]

@[simp] theorem State.judge_ok (s : State) (o : Order) (hk : s.Ok wt) : (State.judge s o).Ok wt := by
  unfold State.judge
  split <;> simp (maxDischargeDepth := 9) [ok_foldl_iff, hk]

@[simp] theorem State.readRegion_ok (s : State) (n : Nat) : (State.readRegion s n).Ok wt ↔ s.Ok wt := by
  simp (maxDischargeDepth := 9) [State.readRegion]

@[simp] theorem State.readRegions_ok (s : State) (o : Order) : (State.readRegions s o).Ok wt ↔ s.Ok wt := by
  unfold State.readRegions
  exact ok_foldl_iff _ _ _ (fun s a => by simp)

@[simp] theorem State.noteRecord_ok (s : State) (k : Kind) (w : Nat) (o : Order) : (State.noteRecord s k w o).Ok wt ↔ s.Ok wt := by
  simp (maxDischargeDepth := 9) [State.noteRecord]

@[simp] theorem State.readOrder_ok (s : State) (r : Nat) (hk : s.Ok wt) : (State.readOrder s r).Ok wt := by
  unfold State.readOrder
  dsimp only
  split
  · exact State.refuse_ok _ _ _ (by simp [hk])
  · simp [hk]

@[simp] theorem State.readAs_ok (s : State) (r : Nat) (p : Kind → Bool) (hk : s.Ok wt) : outOk wt (State.readAs s r p) := by
  simp (maxDischargeDepth := 9) [State.readAs, hk]

@[simp] theorem State.logRepair_ok (s : State) (code : Nat) (l : Loc) (hk : s.Ok wt) : (State.logRepair s code l).Ok wt := by
  simp (maxDischargeDepth := 9) [State.logRepair, hk]

@[simp] theorem State.mendCopy_ok (s : State) (k : Nat) (hk : s.Ok wt) : (State.mendCopy s k).Ok wt := by
  simp (maxDischargeDepth := 9) [State.mendCopy, hk]

@[simp] theorem State.countNonfinite_ok (s : State) (r : Nat) (slot : Nat) (v : Val) : (State.countNonfinite s r slot v).Ok wt ↔ s.Ok wt := by
  simp (maxDischargeDepth := 9) [State.countNonfinite]

@[simp] theorem State.runProduct_ok (s : State) (v : State) (o : Order) (out : Nat) (hk : s.Ok wt) : (State.runProduct s v o out).Ok wt := by
  simp (maxDischargeDepth := 9) (contextual := true) [State.runProduct, ok_foldl, hk]

@[simp] theorem State.boilOut_ok (s : State) (r : Nat) (slot : Nat) (w : Nat) (base : Nat) (d : Nat) (q : Nat) (f : Nat → Nat → Nat) (hk : s.Ok wt) : (State.boilOut s r slot w base d q f).Ok wt := by
  simp (maxDischargeDepth := 9) (contextual := true) [State.boilOut, ok_foldl, hk]

@[simp] theorem State.runNorm_ok (s : State) (v : State) (r : Nat) (slot : Nat) (w : Nat) (out : Nat) (q : Nat) (hk : s.Ok wt) : (State.runNorm s v r slot w out q).Ok wt := by
  simp (maxDischargeDepth := 9) [State.runNorm, hk]

@[simp] theorem State.paramGrads_ok (s : State) (r : Nat) (slot : Nat) (w : Nat) (rows : Nat) (f : Nat → Nat → Nat) (hk : s.Ok wt) : (State.paramGrads s r slot w rows f).Ok wt := by
  simp (maxDischargeDepth := 9) (contextual := true) [State.paramGrads, ok_foldl, hk]

@[simp] theorem State.runNormb_ok (s : State) (v : State) (r : Nat) (slot : Nat) (w : Nat) (out : Nat) (q : Nat) (hk : s.Ok wt) : (State.runNormb s v r slot w out q).Ok wt := by
  simp (maxDischargeDepth := 9) [State.runNormb, hk]

@[simp] theorem State.runSoftmax_ok (s : State) (v : State) (r : Nat) (slot : Nat) (w : Nat) (out : Nat) (q : Nat) (hk : s.Ok wt) : (State.runSoftmax s v r slot w out q).Ok wt := by
  simp (maxDischargeDepth := 9) [State.runSoftmax, hk]

@[simp] theorem State.runSoftmaxb_ok (s : State) (v : State) (r : Nat) (slot : Nat) (w : Nat) (out : Nat) (q : Nat) (hk : s.Ok wt) : (State.runSoftmaxb s v r slot w out q).Ok wt := by
  simp (maxDischargeDepth := 9) [State.runSoftmaxb, hk]

@[simp] theorem State.runPoint_ok (s : State) (v : State) (r : Nat) (slot : Nat) (w : Nat) (out : Nat) (q : Nat) (hk : s.Ok wt) : (State.runPoint s v r slot w out q).Ok wt := by
  simp (maxDischargeDepth := 9) [State.runPoint, hk]

@[simp] theorem State.runPointb_ok (s : State) (v : State) (r : Nat) (slot : Nat) (w : Nat) (out : Nat) (q : Nat) (hk : s.Ok wt) : (State.runPointb s v r slot w out q).Ok wt := by
  simp (maxDischargeDepth := 9) [State.runPointb, hk]

@[simp] theorem State.runDwconv_ok (s : State) (v : State) (r : Nat) (slot : Nat) (w : Nat) (out : Nat) (q : Nat) (hk : s.Ok wt) : (State.runDwconv s v r slot w out q).Ok wt := by
  simp (maxDischargeDepth := 9) [State.runDwconv, hk]

@[simp] theorem State.runDwconvb_ok (s : State) (v : State) (r : Nat) (slot : Nat) (w : Nat) (out : Nat) (q : Nat) (hk : s.Ok wt) : (State.runDwconvb s v r slot w out q).Ok wt := by
  simp (maxDischargeDepth := 9) [State.runDwconvb, hk]

@[simp] theorem State.runTile_ok (s : State) (v : State) (o : Order) (b : Nat) (out : Nat) (q : Nat) (hk : s.Ok wt) : (State.runTile s v o b out q).Ok wt := by
  unfold State.runTile
  split <;> simp (maxDischargeDepth := 9) [ok_foldl_iff, hk]

@[simp] theorem State.viewEntry_ok (s : State) (k : Nat) (hk : s.Ok wt) : (State.viewEntry s k).Ok wt := by
  simp (maxDischargeDepth := 9) [State.viewEntry, hk]

@[simp] theorem State.tileOf_ok (s : State) (o : Order) (b : Nat) (out : Nat) (q : Nat) (hk : s.Ok wt) : (State.tileOf s o b out q).Ok wt := by
  simp (maxDischargeDepth := 9) [State.tileOf, hk]

@[simp] theorem State.boilRun_ok (s : State) (r : Nat) (slot : Nat) (b : Nat) (hk : s.Ok wt) : (State.boilRun s r slot b).Ok wt := by
  unfold State.boilRun
  split <;> simp (maxDischargeDepth := 9) [ok_foldl_iff, hk]

@[simp] theorem State.boilRow_ok (s : State) (r : Nat) (b : Nat) (ph : Phase) (hk : s.Ok wt) : outOk wt (State.boilRow s r b ph) := by
  unfold State.boilRow
  split <;> simp (maxDischargeDepth := 9) [ok_foldl_iff, hk]

theorem execNormb_ok (r : RingNo) (ph : Phase) (s : State) (hk : s.Ok wt) : outOk wt (execNormb r ph s) := by
  simp (maxDischargeDepth := 9) [execNormb, hk]

theorem execFullReset_ok (cl : ClientNo) (code : Nat) (env : ResetEnv) (s : State) (hk : s.Ok wt) : outOk wt (execFullReset cl code env s) := by
  simp (maxDischargeDepth := 9) [execFullReset, hk]

@[simp] theorem State.starve_ok (s : State) (o : Order) (pn : Nat) : (State.starve s o pn).Ok wt ↔ s.Ok wt := by
  simp (maxDischargeDepth := 9) [State.starve]

@[simp] theorem State.tagMismatchkok (s : State) (o : Order) (pn : Nat) (a : Nat) (hk : s.Ok wt) : (State.tagMismatch s o pn a).Ok wt := by
  simp (maxDischargeDepth := 9) [State.tagMismatch, hk]

@[simp] theorem State.consume_ok (s : State) (o : Order) (pn : Nat) (a : Nat) (n : Nat) (hk : s.Ok wt) : (State.consume s o pn a n).Ok wt := by
  unfold State.consume
  grind [outOk, optOk, State.setPan_ok, State.tagMismatchkok]

theorem execBeat_ok (pn : PanNo) (a : Fin 5) (cell : Fin 256) (s : State) (hk : s.Ok wt) : outOk wt (execBeat pn a cell s) := by
  unfold execBeat
  (repeat' split) <;> simp_all (maxDischargeDepth := 9) [ok_foldl_iff]

@[simp] theorem State.putHeaderBit_ok (s : State) (a : Nat) (off : Nat) (k : Nat) (v : Bool) (hk : s.Ok wt) : (State.putHeaderBit s a off k v).Ok wt := by
  simp (maxDischargeDepth := 9) [State.putHeaderBit, hk]

@[simp] theorem State.chainFail_ok (s : State) (o : Order) : (State.chainFail s o).Ok wt ↔ s.Ok wt := by
  simp (maxDischargeDepth := 9) [State.chainFail]

@[simp] theorem State.displace_ok (s : State) (seg : Nat) (hk : s.Ok wt) : optOk wt (State.displace s seg) := by
  unfold State.displace
  split <;> simp (maxDischargeDepth := 9) [ok_foldl_iff, hk]

theorem State.takeScratchkok (s : State) (seg : Nat) (n : Nat) (x_ : Nat) (hk : s.Ok wt) : ∀ t, State.takeScratch s seg n x_ = some t → t.1.Ok wt := by
  induction x_ generalizing s with
  | zero => intro t h; exact absurd h (by simp [State.takeScratch])
  | succ k ih =>
    intro t h
    unfold State.takeScratch at h
    split at h
    · cases h; exact hk
    · split at h
      · exact absurd h (by simp)
      · next s' hs => exact ih _ (State.displace_ok _ _ hk _ hs) t h

@[simp] theorem State.reserve_ok (s : State) (o : Order) (n : Nat) (t : Nat) (width : Nat) (ofm : Nat) (hk : s.Ok wt) : optOk wt (State.reserve s o n t width ofm) := by
  unfold State.reserve
  dsimp only
  split
  · simp
  · next s' u h => have := State.takeScratchkok _ _ _ _ hk _ h; simp_all

@[simp] theorem State.openStreams_ok (s : State) (r : Nat) (slot : Nat) (mask : Nat) (role : Nat) (daddr : Nat) (d : Nat) (base : Nat) (hidden : List Nat) : (State.openStreams s r slot mask role daddr d base hidden).Ok wt ↔ s.Ok wt := by
  simp (maxDischargeDepth := 9) [State.openStreams]

@[simp] theorem State.startStreams_ok (s : State) (o : Order) : (State.startStreams s o).Ok wt ↔ s.Ok wt := by
  unfold State.startStreams
  split <;> simp (maxDischargeDepth := 9) [ok_foldl_iff]

@[simp] theorem State.beginOwn_ok (s : State) (o : Order) (hk : s.Ok wt) : (State.beginOwn s o).Ok wt := by
  unfold State.beginOwn
  split
  · exact hk
  · dsimp only
    split
    · simp [hk]
    · next t ht =>
      have h1 : t.Ok wt := by
        (repeat' split at ht) <;> first
          | (cases ht; exact hk)
          | exact State.reserve_ok _ _ _ _ _ _ hk _ ht
      simp [h1]

@[simp] theorem State.startChain_ok (s : State) (o : Order) (hk : s.Ok wt) : (State.startChain s o).Ok wt := by
  unfold State.startChain
  grind [outOk, optOk, State.updOrder_ok, State.pinEntry_ok, State.chainFail_ok, State.beginOwn_ok]

end Sys2Proof.Machine
end

