-- ==== Sys2Proof/Laws/KeptMore.lean ====
section
/-! SUPPORT. What every operation and every meaning keeps (continued). -/

set_option linter.unusedSimpArgs false
set_option linter.unusedVariables false

namespace Sys2Proof.Machine

variable {wt : Watch}

@[simp] theorem State.wedge_ok (s : State) (n : Nat) (code : Nat) (l : Loc) (hk : s.Ok wt) : (State.wedge s n code l).Ok wt := by
  unfold State.wedge
  dsimp only
  have h0 : permOk wt s.fns s.ctl := hk.2.2.1
  have hd : s.disturb.ctl = s.ctl := by unfold State.disturb; split <;> rfl
  have h1 : (s.disturb.setObj (fnKey n 4) code).Ok wt := by simp [hk]
  have hd : (s.disturb.setObj (fnKey n 4) code).ctl = s.ctl := hd
  generalize s.disturb.setObj (fnKey n 4) code = s1 at h1 hd
  generalize h2 : (if ((s.fn n).state == .off || (s.fn n).state == .wedged) = true then s1 else _) = s2
  have h2 : s2.Ok wt := by
    subst h2
    split
    · exact h1
    · refine State.enterFn_ok _ _ _ _ _ (State.setFn_ok _ _ _ h1 ?_) (by simp)
      intro a c d
      rw [hd] at c
      exact h0 a c n d
  split <;> simp [h2]

@[simp] theorem State.setMod_ok (s : State) (m : Nat) (x : Mod) : (State.setMod s m x).Ok wt ↔ s.Ok wt := by
  simp (maxDischargeDepth := 9) [State.setMod]

@[simp] theorem State.replay_ok (s : State) (m : Nat) (toEast : Bool) (hk : s.Ok wt) : (State.replay s m toEast).Ok wt := by
  simp (maxDischargeDepth := 9) [State.replay, hk]

@[simp] theorem State.stageBytes_ok (s : State) (x : HLayer) (hk : s.Ok wt) : (State.stageBytes s x).Ok wt := by
  simp (maxDischargeDepth := 9) [State.stageBytes, hk]

@[simp] theorem State.readHead_ok (s : State) (r : Nat) : (State.readHead s r).Ok wt ↔ s.Ok wt := by
  simp (maxDischargeDepth := 9) [State.readHead]

theorem execRingPoll_ok (r : RingNo) (s : State) (hk : s.Ok wt) : outOk wt (execRingPoll r s) := by
  simp (maxDischargeDepth := 9) [execRingPoll, hk]

@[simp] theorem State.dropWaiting_ok (s : State) (o : Order) (hk : s.Ok wt) : (State.dropWaiting s o).Ok wt := by
  simp (maxDischargeDepth := 9) (contextual := true) [State.dropWaiting, ok_foldl, hk]

theorem execBusError_ok (tec : Nat) (rec_ : Nat) (s : State) (hk : s.Ok wt) : outOk wt (execBusError tec rec_ s) := by
  simp (maxDischargeDepth := 9) [execBusError, hk]

theorem execSequencerWatchdog_ok (s : State) (hk : s.Ok wt) : outOk wt (execSequencerWatchdog s) := by
  exact hk

@[simp] theorem State.ensureRev_ok (s : State) (o : Order) : (State.ensureRev s o).Ok wt ↔ s.Ok wt := by
  unfold State.ensureRev
  split <;> simp (maxDischargeDepth := 9) [ok_foldl_iff]

theorem State.attNow_ok (s : State) (r : Nat) (slot : Nat) (hk : s.Ok wt) : ∀ t, State.attNow s r slot = some t → t.2.Ok wt := by
  unfold State.attNow
  (repeat' split) <;> simp_all (maxDischargeDepth := 9) [ok_foldl_iff]

@[simp] theorem State.kvRoom_ok (s : State) (half : Nat) (n : Nat) (x_ : Nat) : (State.kvRoom s half n x_).Ok wt ↔ s.Ok wt := by
  fun_induction State.kvRoom <;> simp_all (maxDischargeDepth := 9)

@[simp] theorem State.kvKeep_ok (s : State) (half : Nat) (a : Nat) (data : List Byte) : (State.kvKeep s half a data).Ok wt ↔ s.Ok wt := by
  simp (maxDischargeDepth := 9) [State.kvKeep]

@[simp] theorem State.kvRead_ok (s : State) (half : Nat) (a : Nat) (n : Nat) (hk : s.Ok wt) : (State.kvRead s half a n).1.Ok wt := by
  unfold State.kvRead
  split <;> simp (maxDischargeDepth := 9) [ok_foldl_iff, hk]

@[simp] theorem State.stageMem_ok (s : State) (w : Nat) (b : Nat) (k : Nat) (st : FMap Nat) (hk : s.Ok wt) : (State.stageMem s w b k st).Ok wt := by
  simp (maxDischargeDepth := 9) [State.stageMem, hk]

@[simp] theorem State.attBegin_ok (s : State) (o : Order) (b : KvBlock) (hk : s.Ok wt) : (State.attBegin s o b).Ok wt := by
  simp (maxDischargeDepth := 9) (contextual := true) [State.attBegin, ok_foldl, hk]

@[simp] theorem State.spillRow_ok (s : State) (o : Order) (qb : Nat) (hk : s.Ok wt) : (State.spillRow s o qb).Ok wt := by
  simp (maxDischargeDepth := 9) [State.spillRow, hk]

@[simp] theorem State.attProcess_ok (s : State) (o : Order) (v : Rev) (b : KvBlock) (hk : s.Ok wt) : (State.attProcess s o v b).Ok wt := by
  simp (maxDischargeDepth := 9) [State.attProcess, hk]

@[simp] theorem State.markRan_ok (s : State) (r : Nat) (slot : Nat) : (State.markRan s r slot).Ok wt ↔ s.Ok wt := by
  simp (maxDischargeDepth := 9) [State.markRan]

@[simp] theorem State.attEnd_ok (s : State) (o : Order) : (State.attEnd s o).Ok wt ↔ s.Ok wt := by
  unfold State.attEnd
  split <;> simp (maxDischargeDepth := 9) [ok_foldl_iff]

@[simp] theorem State.writeRider_ok (s : State) (o : Order) (b : KvBlock) (hk : s.Ok wt) : (State.writeRider s o b).Ok wt := by
  simp (maxDischargeDepth := 9) (contextual := true) [State.writeRider, ok_foldl, hk]

@[simp] theorem State.writeRiders_ok (s : State) (o : Order) (v : Rev) (hk : s.Ok wt) : (State.writeRiders s o v).Ok wt := by
  simp (maxDischargeDepth := 9) (contextual := true) [State.writeRiders, ok_foldl, hk]

@[simp] theorem State.setRevEnd_ok (s : State) (o : Order) (v : Rev) (hk : s.Ok wt) : (State.setRevEnd s o v).Ok wt := by
  simp (maxDischargeDepth := 9) [State.setRevEnd, hk]

@[simp] theorem State.attRow_ok (s : State) (k : Kind) (r : Nat) (ph : AttPhase) (hk : s.Ok wt) : outOk wt (State.attRow s k r ph) := by
  unfold State.attRow
  split
  · simp [hk]
  · split
    · exact hk
    · next o s' hs =>
      have h' := State.attNow_ok _ _ _ hk _ hs
      split
      · exact hk
      · next v _ =>
        split
        · exact hk
        · next b _ =>
          dsimp only
          split
          · have h2 : (s'.attProcess o v b).Ok wt := State.attProcess_ok _ _ _ _ h'
            generalize s'.attProcess o v b = s2 at h2
            cases s2.att.rev <;> simp [h2]
          · exact hk
  · split
    · exact hk
    · next o s' hs =>
      have h' := State.attNow_ok _ _ _ hk _ hs
      split
      · exact hk
      · dsimp only
        split
        · simp [h']
        · exact hk

theorem execAttf_ok (r : RingNo) (ph : AttPhase) (s : State) (hk : s.Ok wt) : outOk wt (execAttf r ph s) := by
  simp (maxDischargeDepth := 9) [execAttf, hk]

@[simp] theorem State.freeBuf_ok (s : State) (i : Nat) : (State.freeBuf s i).Ok wt ↔ s.Ok wt := by
  simp (maxDischargeDepth := 9) [State.freeBuf]

@[simp] theorem State.moved_ok (s : State) (h : Nat) : (State.moved s h).Ok wt ↔ s.Ok wt := by
  simp (maxDischargeDepth := 9) [State.moved]

@[simp] theorem State.updBuf_ok (s : State) (i : Nat) (f : Buf → Buf) : (State.updBuf s i f).Ok wt ↔ s.Ok wt := by
  simp (maxDischargeDepth := 9) [State.updBuf]

@[simp] theorem State.repace_ok (s : State) (c : Nat) : (State.repace s c).Ok wt ↔ s.Ok wt := by
  simp (maxDischargeDepth := 9) [State.repace]

@[simp] theorem State.repaceAll_ok (s : State) (l : Nat) : (State.repaceAll s l).Ok wt ↔ s.Ok wt := by
  simp (maxDischargeDepth := 9) [State.repaceAll, ok_foldl_iff]

@[simp] theorem State.pushHandle_ok (s : State) (l : Nat) (h : Handle) : (State.pushHandle s l h).Ok wt ↔ s.Ok wt := by
  simp (maxDischargeDepth := 9) [State.pushHandle]

@[simp] theorem State.pushEnd_ok (s : State) (x : Stream) : (State.pushEnd s x).Ok wt ↔ s.Ok wt := by
  unfold State.pushEnd
  split <;> simp (maxDischargeDepth := 9) [ok_foldl_iff]

@[simp] theorem State.pushKind_ok (s : State) (b : Buf) (kind : Nat) : (State.pushKind s b kind).Ok wt ↔ s.Ok wt := by
  simp (maxDischargeDepth := 9) [State.pushKind, ok_foldl_iff]

@[simp] theorem State.pushReady_ok (s : State) (x : Stream) (x_ : Nat) : (State.pushReady s x x_).Ok wt ↔ s.Ok wt := by
  fun_induction State.pushReady <;> simp_all (maxDischargeDepth := 9)

@[simp] theorem State.deferFault_ok (s : State) (i : Nat) (page : Nat) : (State.deferFault s i page).Ok wt ↔ s.Ok wt := by
  unfold State.deferFault
  (repeat' split) <;> simp_all (maxDischargeDepth := 9) [ok_foldl_iff]

@[simp] theorem State.pinLink_ok (s : State) (o : Order) (n : Nat) (hk : s.Ok wt) : (State.pinLink s o n).Ok wt := by
  simp (maxDischargeDepth := 9) [State.pinLink, hk]

theorem execErase_ok (cl : ClientNo) (s : State) (hk : s.Ok wt) : outOk wt (execErase cl s) := by
  simp (maxDischargeDepth := 9) [execErase, hk]

@[simp] theorem State.combineTile_ok (s : State) (x : HLayer) (q : Nat) (hk : s.Ok wt) : (State.combineTile s x q).Ok wt := by
  simp (maxDischargeDepth := 9) (contextual := true) [State.combineTile, ok_foldl, hk]

@[simp] theorem State.attFault_ok (s : State) (o : Option Order) (code : Nat) (hk : s.Ok wt) : (State.attFault s o code).Ok wt := by
  unfold State.attFault
  split <;> simp (maxDischargeDepth := 9) [ok_foldl_iff, hk]

@[simp] theorem State.walkFailed_ok (s : State) (o : Order) (hk : s.Ok wt) : (State.walkFailed s o).Ok wt := by
  simp (maxDischargeDepth := 9) [State.walkFailed, hk]

theorem execOddGenerationWait_ok (r : RingNo) (slot : Nat) (_block : Nat) (s : State) (hk : s.Ok wt) : outOk wt (execOddGenerationWait r slot _block s) := by
  unfold execOddGenerationWait
  split <;> simp (maxDischargeDepth := 9) [ok_foldl_iff, hk]

@[simp] theorem State.writeBackAll_ok (s : State) (p : Nat → Bool) (keep : Bool) (hk : s.Ok wt) : (State.writeBackAll s p keep).Ok wt := by
  unfold State.writeBackAll
  split <;> simp (maxDischargeDepth := 9) [ok_foldl_iff, hk]

@[simp] theorem State.flushRegion_ok (s : State) (n : Nat) (hk : s.Ok wt) : (State.flushRegion s n).Ok wt := by
  simp (maxDischargeDepth := 9) [State.flushRegion, hk]

@[simp] theorem State.toStage_ok (s : State) (o : Order) (stage : Nat) (tiles : Nat) (ran : optParam Bool false) : (State.toStage s o stage tiles ran).Ok wt ↔ s.Ok wt := by
  simp (maxDischargeDepth := 9) [State.toStage]

@[simp] theorem State.judgeGroup_ok (s : State) (o : Order) (x : HLayer) (k : Nat) (hk : s.Ok wt) : (State.judgeGroup s o x k).Ok wt := by
  simp (maxDischargeDepth := 9) [State.judgeGroup, hk]

@[simp] theorem State.beginHarrow_ok (s : State) (o : Order) (x : HLayer) (hk : s.Ok wt) : (State.beginHarrow s o x).Ok wt := by
  simp (maxDischargeDepth := 9) (contextual := true) [State.beginHarrow, ok_foldl, hk]

@[simp] theorem State.putBlock128_ok (s : State) (a : Nat) (size : Nat) (m : List Nat) (hk : s.Ok wt) : (State.putBlock128 s a size m).Ok wt := by
  simp (maxDischargeDepth := 9) (contextual := true) [State.putBlock128, ok_foldl, hk]

@[simp] theorem State.countBad_ok (s : State) (o : Order) (n : Nat) : (State.countBad s o n).Ok wt ↔ s.Ok wt := by
  simp (maxDischargeDepth := 9) [State.countBad, ok_foldl_iff]

@[simp] theorem State.countRoot_ok (s : State) (o : Order) (r : Root) : (State.countRoot s o r).Ok wt ↔ s.Ok wt := by
  simp (maxDischargeDepth := 9) [State.countRoot]

@[simp] theorem State.precondBlock_ok (s : State) (o : Order) (x : HLayer) (d : Side) (g : Nat → Nat → Nat) (a : Nat) (hk : s.Ok wt) : (State.precondBlock s o x d g a).Ok wt := by
  simp (maxDischargeDepth := 9) [State.precondBlock, hk]

@[simp] theorem State.precondTile_ok (s : State) (o : Order) (x : HLayer) (q : Nat) (hk : s.Ok wt) : (State.precondTile s o x q).Ok wt := by
  simp (maxDischargeDepth := 9) [State.precondTile, hk]

@[simp] theorem State.carry_ok (s : State) (a : Nat) (b : Nat) (n : Nat) (hk : s.Ok wt) : (State.carry s a b n).Ok wt := by
  simp (maxDischargeDepth := 9) [State.carry, hk]

@[simp] theorem State.carryElem_ok (s : State) (x : HLayer) (i : Nat) (j : Nat) (hk : s.Ok wt) : (State.carryElem s x i j).Ok wt := by
  unfold State.carryElem
  split <;> simp (maxDischargeDepth := 9) [ok_foldl_iff, hk]

@[simp] theorem State.vectorElem_ok (s : State) (o : Order) (x : HLayer) (i : Nat) (j : Nat) (hk : s.Ok wt) : (State.vectorElem s o x i j).Ok wt := by
  simp (maxDischargeDepth := 9) [State.vectorElem, hk]

@[simp] theorem State.matrixElem_ok (s : State) (o : Order) (x : HLayer) (i : Nat) (j : Nat) (hk : s.Ok wt) : (State.matrixElem s o x i j).Ok wt := by
  simp (maxDischargeDepth := 9) [State.matrixElem, hk]

@[simp] theorem State.skipEnd_ok (s : State) (o : Order) (x : HLayer) (hk : s.Ok wt) : (State.skipEnd s o x).Ok wt := by
  simp (maxDischargeDepth := 9) [State.skipEnd, hk]

@[simp] theorem State.lastTile_ok (s : State) (o : Order) (x : HLayer) (q : Nat) (hk : s.Ok wt) : (State.lastTile s o x q).Ok wt := by
  simp (maxDischargeDepth := 9) (contextual := true) [State.lastTile, ok_foldl, hk]

@[simp] theorem State.harrowTile_ok (s : State) (o : Order) (x : HLayer) (hk : s.Ok wt) : (State.harrowTile s o x).Ok wt := by
  unfold State.harrowTile
  split <;> simp (maxDischargeDepth := 9) [ok_foldl_iff, hk]

@[simp] theorem State.setDemand_ok (s : State) (o : Order) (d : Nat) : (State.setDemand s o d).Ok wt ↔ s.Ok wt := by
  simp (maxDischargeDepth := 9) [State.setDemand]

@[simp] theorem State.harrowStep_ok (s : State) (o : Order) (x : HLayer) (hk : s.Ok wt) : (State.harrowStep s o x).Ok wt := by
  unfold State.harrowStep
  grind [outOk, optOk, State.updOrder_ok, State.toStage_ok, State.harrowTile_ok, State.setDemand_ok]

@[simp] theorem State.runHarrow_ok (s : State) (o : Order) (hk : s.Ok wt) : (State.runHarrow s o).Ok wt := by
  simp (maxDischargeDepth := 9) [State.runHarrow, hk]

@[simp] theorem State.harrowRow_ok (s : State) (k : Kind) (r : Nat) (ph : Phase) (hk : s.Ok wt) : outOk wt (State.harrowRow s k r ph) := by
  unfold State.harrowRow
  (repeat' split) <;> simp_all (maxDischargeDepth := 9) [ok_foldl_iff]

theorem execPrecond_ok (r : RingNo) (ph : Phase) (s : State) (hk : s.Ok wt) : outOk wt (execPrecond r ph s) := by
  simp (maxDischargeDepth := 9) [execPrecond, hk]

@[simp] theorem State.finishHalt_ok (s : State) (c : Nat) (hk : s.Ok wt) : (State.finishHalt s c).Ok wt := by
  simp (maxDischargeDepth := 9) [State.finishHalt, hk]

@[simp] theorem State.settleHalt_ok (s : State) (c : Nat) (hk : s.Ok wt) : (State.settleHalt s c).Ok wt := by
  simp (maxDischargeDepth := 9) [State.settleHalt, hk]

@[simp] theorem State.pushStaged_ok (s : State) (c : Nat) (x_ : Nat) : (State.pushStaged s c x_).Ok wt ↔ s.Ok wt := by
  fun_induction State.pushStaged <;> simp_all (maxDischargeDepth := 9)

@[simp] theorem State.halt_ok (s : State) (c : Nat) (code : Nat) (off : Nat) (hk : s.Ok wt) : (State.halt s c code off).Ok wt := by
  simp (maxDischargeDepth := 9) [State.halt, hk]

@[simp] theorem State.judgeChan_ok (s : State) (c : Nat) (hk : s.Ok wt) : (State.judgeChan s c).Ok wt := by
  unfold State.judgeChan
  split <;> simp (maxDischargeDepth := 9) [ok_foldl_iff, hk]

@[simp] theorem State.judgeHalf_ok (s : State) (half : Nat) (hk : s.Ok wt) : (State.judgeHalf s half).Ok wt := by
  simp (maxDischargeDepth := 9) (contextual := true) [State.judgeHalf, ok_foldl, hk]

@[simp] theorem State.translated_ok (s : State) (half : Nat) (page : Nat) (large : Bool) (write : Bool) (hk : s.Ok wt) : (State.translated s half page large write).Ok wt := by
  unfold State.translated
  grind [outOk, optOk, State.setStrm_ok, State.judgeHalf_ok]

@[simp] theorem State.addPromo_ok (s : State) (x : Promo) : (State.addPromo s x).Ok wt ↔ s.Ok wt := by
  simp (maxDischargeDepth := 9) [State.addPromo]

@[simp] theorem State.handPromo_ok (s : State) (o : Order) (p : Plan) (pt : Part) (src : Nat) (a : Nat) (n : Nat) (c : Cursor) (v : Val) : (State.handPromo s o p pt src a n c v).Ok wt ↔ s.Ok wt := by
  unfold State.handPromo
  split <;> simp (maxDischargeDepth := 9) [ok_foldl_iff]

@[simp] theorem State.handFlake_ok (s : State) (o : Order) (p : Plan) (pt : Part) (src : Nat) (a : Nat) (n : Nat) (c : Cursor) : (State.handFlake s o p pt src a n c).Ok wt ↔ s.Ok wt := by
  unfold State.handFlake
  split <;> simp (maxDischargeDepth := 9) [ok_foldl_iff]

@[simp] theorem State.scalePromo_ok (s : State) (o : Order) (p : Plan) (ev : Nat) (ord : Nat) (i : Nat) (j : Nat) (v : Val) : (State.scalePromo s o p ev ord i j v).Ok wt ↔ s.Ok wt := by
  unfold State.scalePromo
  split <;> simp (maxDischargeDepth := 9) [ok_foldl_iff]

@[simp] theorem State.handCell_ok (s : State) (o : Order) (p : Plan) (pt : Part) (src : Nat) (a : Nat) (n : Nat) (thin : Bool) (c : Cell) (drain : FMap Nat) : (State.handCell s o p pt src a n thin c drain).1.Ok wt ↔ s.Ok wt := by
  unfold State.handCell
  grind [outOk, optOk, State.bump_ok, State.countOut_ok, State.countNonfinite_ok, State.handPromo_ok, State.handFlake_ok, State.scalePromo_ok]

@[simp] theorem State.output_ok (s : State) (hub : Nat) (r : Nat) (slot : Nat) (ws : List (Nat × List Byte)) : (State.output s hub r slot ws).Ok wt ↔ s.Ok wt := by
  simp (maxDischargeDepth := 9) [State.output]

@[simp] theorem State.handRow_ok (s : State) (o : Order) (pn : Nat) (a : Nat) (row : Nat) (thin : Bool) : (State.handRow s o pn a row thin).Ok wt ↔ s.Ok wt := by
  unfold State.handRow
  dsimp only
  split
  · rfl
  · simp only [State.output_ok, State.setPan_ok]
    exact (ok_foldl_fst_iff _ _ _ (fun x a => by simp)).trans Iff.rfl

theorem execChunkHandoff_ok (pn : PanNo) (a : Fin 5) (row : Fin 16) (s : State) (hk : s.Ok wt) : outOk wt (execChunkHandoff pn a row s) := by
  unfold execChunkHandoff
  grind [outOk, optOk, State.handRow_ok]

@[simp] theorem State.issue_ok (s : State) (b : Buf) (hk : s.Ok wt) : (State.issue s b).Ok wt := by
  unfold State.issue
  refine ok_foldl _ _ _ (fun s r hs => ok_foldl _ _ _ (fun s p hs => ?_) hs) hk
  split <;> simp [hs]

theorem execPromotionEvent_ok (r : RingNo) (slot : Nat) (group : Nat) (s : State) (hk : s.Ok wt) : outOk wt (execPromotionEvent r slot group s) := by
  unfold execPromotionEvent
  split <;> simp (maxDischargeDepth := 9) [ok_foldl_iff, hk]

theorem execPowerOn_ok (env : ResetEnv) (s : State) (hk : s.Ok wt) : outOk wt (execPowerOn env s) := by
  simp (maxDischargeDepth := 9) [execPowerOn, hk]

@[simp] theorem State.freeTags_ok (s : State) (h : Nat) (t : Tag) : (State.freeTags s h t).Ok wt ↔ s.Ok wt := by
  simp (maxDischargeDepth := 9) [State.freeTags, ok_foldl_iff]

@[simp] theorem State.chanMiss_ok (s : State) (c : Nat) (a : Nat) (n : Nat) : (State.chanMiss s c a n).Ok wt ↔ s.Ok wt := by
  unfold State.chanMiss
  split <;> simp (maxDischargeDepth := 9) [ok_foldl_iff]

@[simp] theorem State.readList_ok (s : State) (c : Nat) (write : Bool) (lo : Nat) (hi : Nat) (x_ : Nat) : (State.readList s c write lo hi x_).Ok wt ↔ s.Ok wt := by
  fun_induction State.readList <;> simp_all (maxDischargeDepth := 9)

@[simp] theorem State.askBeats_ok (s : State) (c : Nat) (write : Bool) (buf : Nat) (lo : Nat) (data : List Byte) (l : List (Nat × Nat × Nat)) : (State.askBeats s c write buf lo data l).Ok wt ↔ s.Ok wt := by
  simp (maxDischargeDepth := 9) [State.askBeats, ok_foldl_iff]

@[simp] theorem State.writeBurst_ok (s : State) (c : Nat) (lo : Nat) (data : List Byte) (hk : s.Ok wt) : optOk wt (State.writeBurst s c lo data) := by
  unfold State.writeBurst
  dsimp only
  (repeat' split) <;> simp [hk]

@[simp] theorem State.writeOr_ok (s : State) (c : Nat) (lo : Nat) (data : List Byte) (f : State → State) (hk : s.Ok wt) (hf : ∀ t : State, t.Ok wt → (f t).Ok wt) : (State.writeOr s c lo data f).Ok wt := by
  unfold State.writeOr
  split
  · next t ht => exact hf _ (State.writeBurst_ok _ _ _ _ hk _ ht)
  · simp [hk]

@[simp] theorem State.popHandle_ok (s : State) (l : Nat) (hold : Bool) : (State.popHandle s l hold).Ok wt ↔ s.Ok wt := by
  unfold State.popHandle
  grind [outOk, optOk, State.setQueue_ok, State.moved_ok, State.repaceAll_ok]

@[simp] theorem State.beginWrite_ok (s : State) (c : Nat) (hk : s.Ok wt) : (State.beginWrite s c).Ok wt := by
  unfold State.beginWrite
  grind [outOk, optOk, State.setChan_ok, State.updBuf_ok, State.writeOr_ok, State.popHandle_ok]

@[simp] theorem State.dmaData_ok (s : State) (q : Req) (bad : Bool) (hk : s.Ok wt) : (State.dmaData s q bad).Ok wt := by
  simp (maxDischargeDepth := 9) [State.dmaData, hk]

@[simp] theorem State.badRead_ok (s : State) (h : Nat) (q : Req) (poisoned : Bool) (hk : s.Ok wt) : (State.badRead s h q poisoned).Ok wt := by
  simp (maxDischargeDepth := 9) [State.badRead, hk]

@[simp] theorem State.epochFault_ok (s : State) (b : Buf) (hk : s.Ok wt) : (State.epochFault s b).Ok wt := by
  simp (maxDischargeDepth := 9) [State.epochFault, hk]

@[simp] theorem State.tryFill_ok (s : State) (x : Stream) (b : Buf) (hk : s.Ok wt) : (State.tryFill s x b).Ok wt := by
  simp (maxDischargeDepth := 9) [State.tryFill, hk]

@[simp] theorem State.filled_ok (s : State) (i : Nat) (hk : s.Ok wt) : (State.filled s i).Ok wt := by
  unfold State.filled
  (repeat' split) <;> simp_all (maxDischargeDepth := 9) [ok_foldl_iff]

theorem execFabricReadResponse_ok (h : HubNo) (tag : Nat) (poisoned : Bool) (s : State) (hk : s.Ok wt) : outOk wt (execFabricReadResponse h tag poisoned s) := by
  unfold execFabricReadResponse
  split <;> simp (maxDischargeDepth := 9) [ok_foldl_iff, hk]

@[simp] theorem State.pushAll_ok (s : State) : (State.pushAll s).Ok wt ↔ s.Ok wt := by
  simp (maxDischargeDepth := 9) [State.pushAll, ok_foldl_iff]

theorem execHeartbeatTime_ok (cl : ClientNo) (ms : Nat) (s : State) (hk : s.Ok wt) : outOk wt (execHeartbeatTime cl ms s) := by
  simp (maxDischargeDepth := 9) [execHeartbeatTime, hk]

@[simp] theorem State.openStage_ok (s : State) (c : Nat) : (State.openStage s c).Ok wt ↔ s.Ok wt := by
  unfold State.openStage
  split <;> simp (maxDischargeDepth := 9) [ok_foldl_iff]

@[simp] theorem State.readBurst_ok (s : State) (c : Nat) (buf : Nat) (hi : Nat) (hk : s.Ok wt) : (State.readBurst s c buf hi).Ok wt := by
  unfold State.readBurst
  grind [outOk, optOk, State.setChan_ok, State.halt_ok, State.readList_ok, State.askBeats_ok]

@[simp] theorem State.beginRead_ok (s : State) (c : Nat) (hk : s.Ok wt) : (State.beginRead s c).Ok wt := by
  unfold State.beginRead
  grind [outOk, optOk, State.openStage_ok, State.readBurst_ok]

theorem execBurst_ok (cn : ChanNo) (s : State) (hk : s.Ok wt) : outOk wt (execBurst cn s) := by
  simp (maxDischargeDepth := 9) [execBurst, hk]

@[simp] theorem State.dropBusXfers_ok (s : State) : (State.dropBusXfers s).Ok wt ↔ s.Ok wt := by
  simp (maxDischargeDepth := 9) [State.dropBusXfers]

@[simp] theorem State.exhausted_ok (s : State) (k : LinkKind) (hk : s.Ok wt) : (State.exhausted s k).Ok wt := by
  unfold State.exhausted
  split <;> simp (maxDischargeDepth := 9) [ok_foldl_iff, hk]

@[simp] theorem State.turnOn_ok (s : State) (h : Nat) (q : Req) : (State.turnOn s h q).Ok wt ↔ s.Ok wt := by
  simp (maxDischargeDepth := 9) [State.turnOn]

@[simp] theorem State.markStale_ok (s : State) (key : Nat) (a : Nat) (n : Nat) : (State.markStale s key a n).Ok wt ↔ s.Ok wt := by
  simp (maxDischargeDepth := 9) [State.markStale]

@[simp] theorem State.engineServed_ok (s : State) (c : Nat) (q : Req) : (State.engineServed s c q).Ok wt ↔ s.Ok wt := by
  simp (maxDischargeDepth := 9) [State.engineServed]

@[simp] theorem State.halfCheck_ok (s : State) (c : Nat) : (State.halfCheck s c).Ok wt ↔ s.Ok wt := by
  simp (maxDischargeDepth := 9) [State.halfCheck]

@[simp] theorem State.dmaIssued_ok (s : State) (q : Req) (hk : s.Ok wt) : (State.dmaIssued s q).Ok wt := by
  unfold State.dmaIssued
  grind [outOk, optOk, State.bump_ok, State.setChan_ok, State.setQueue_ok, State.freeBuf_ok, State.moved_ok, State.settleHalt_ok, State.beginWrite_ok, State.halfCheck_ok]

@[simp] theorem State.grant_ok (s : State) (h : Nat) (q : Req) (tag : Nat) (hk : s.Ok wt) : (State.grant s h q tag).Ok wt := by
  simp (maxDischargeDepth := 9) [State.grant, hk]

theorem execCapture_ok (cl : ClientNo) (s : State) (hk : s.Ok wt) : outOk wt (execCapture cl s) := by
  simp (maxDischargeDepth := 9) [execCapture, hk]

@[simp] theorem State.takeMask_ok (s : State) (o : Order) : (State.takeMask s o).Ok wt ↔ s.Ok wt := by
  unfold State.takeMask
  split <;> simp (maxDischargeDepth := 9) [ok_foldl_iff]

@[simp] theorem State.finishkok (s : State) (o : Order) (hk : s.Ok wt) : (State.finish s o).Ok wt := by
  unfold State.finish
  grind [outOk, optOk, State.updOrder_ok, State.complete_ok, State.flushRegion_ok]

@[simp] theorem State.setMbx_ok (s : State) (ch : Nat) (x : Mbx) : (State.setMbx s ch x).Ok wt ↔ s.Ok wt := by
  simp (maxDischargeDepth := 9) [State.setMbx]

@[simp] theorem State.readError_ok (s : State) (cl : Nat) (i : Nat) (j : Nat) (hk : s.Ok wt) : (State.readError s cl i j).Ok wt := by
  simp (maxDischargeDepth := 9) [State.readError, hk]

@[simp] theorem State.serveRead_ok (s : State) (cl : Nat) (i : Nat) (j : Nat) (hk : s.Ok wt) : (State.serveRead s cl i j).1.Ok wt := by
  unfold State.serveRead
  (repeat' split) <;> simp_all (maxDischargeDepth := 9) [ok_foldl_iff]

@[simp] theorem State.serveMsg_ok (s : State) (cl : Nat) (msg : Usdo) (hk : s.Ok wt) : (s.serveMsg cl msg).state.Ok wt := by
  unfold State.serveMsg
  dsimp only
  (repeat' split) <;> first
    | (simp [hk]; done)
    | (simp; exact fst_ok (by assumption) (by simp [hk]))
    | exact fst_ok (by assumption) (by simp [hk])

@[simp] theorem Served.send_ok (x : Served) (cl : Nat) (h : x.state.Ok wt) : (x.send cl).Ok wt := by
  unfold Served.send
  (repeat' split) <;> simp [h]

@[simp] theorem Served.finishkok (x : Served) (cl : Nat) (h : x.state.Ok wt) : (x.finish cl).Ok wt := by
  unfold Served.finish
  split <;> simp [h]

@[simp] theorem State.takeMail_ok (s : State) (ch : Nat) (seq : Nat) (dest : Nat) (msg : Usdo) (hk : s.Ok wt) : (State.takeMail s ch seq dest msg).Ok wt := by
  unfold State.takeMail
  dsimp only
  split
  · simp [hk]
  · split
    · simp [hk]
    · exact State.thenReset_ok _ _ _ _ _ (by simp [hk])

theorem execMailboxRequest_ok (ch : MbxNo) (seq : Nat) (dest : Nat) (msg : Usdo) (s : State) (hk : s.Ok wt) : outOk wt (execMailboxRequest ch seq dest msg s) := by
  simp (maxDischargeDepth := 9) [execMailboxRequest, hk]

@[simp] theorem State.setHubSteps_ok (s : State) (f : Nat → Nat → Nat) : (State.setHubSteps s f).Ok wt ↔ s.Ok wt := by
  simp (maxDischargeDepth := 9) [State.setHubSteps, ok_foldl_iff]

theorem execThrottleStep_ok (s : State) (hk : s.Ok wt) : outOk wt (execThrottleStep s) := by
  simp (maxDischargeDepth := 9) [execThrottleStep, hk]

theorem execDw_ok (r : RingNo) (s : State) (hk : s.Ok wt) : outOk wt (execDw r s) := by
  simp (maxDischargeDepth := 9) [execDw, hk]

theorem execPreEmption_ok (r : RingNo) (s : State) (hk : s.Ok wt) : outOk wt (execPreEmption r s) := by
  unfold execPreEmption
  split <;> simp (maxDischargeDepth := 9) [ok_foldl_iff, hk]

theorem execPoint_ok (r : RingNo) (ph : Phase) (s : State) (hk : s.Ok wt) : outOk wt (execPoint r ph s) := by
  simp (maxDischargeDepth := 9) [execPoint, hk]

theorem execEmergencyEnd_ok (s : State) (hk : s.Ok wt) : outOk wt (execEmergencyEnd s) := by
  simp (maxDischargeDepth := 9) [execEmergencyEnd, hk]

theorem execRegionRestore_ok (cl : ClientNo) (region : Nat) (s : State) (hk : s.Ok wt) : outOk wt (execRegionRestore cl region s) := by
  simp (maxDischargeDepth := 9) [execRegionRestore, hk]

@[simp] theorem State.dmaAbsent_ok (s : State) (half : Nat) (page : Nat) (hk : s.Ok wt) : (State.dmaAbsent s half page).Ok wt := by
  unfold State.dmaAbsent
  refine ok_foldl _ _ _ (fun s c hs => ?_) hk
  dsimp only
  split
  · exact hs
  · generalize hx : State.judgeChan _ c = t
    have ht : t.Ok wt := by
      subst hx
      refine State.judgeChan_ok _ _ ?_
      split <;> simp [hs]
    clear hx
    (repeat' split) <;> simp [ht]

@[simp] theorem State.quiesceFlushkok (s : State) (hk : s.Ok wt) : (State.quiesceFlush s).Ok wt := by
  simp (maxDischargeDepth := 9) [State.quiesceFlush, hk]

theorem execStockpilePart_ok (cl : ClientNo) (units : Nat) (s : State) (hk : s.Ok wt) : outOk wt (execStockpilePart cl units s) := by
  simp (maxDischargeDepth := 9) [execStockpilePart, hk]

theorem execFlitReceived_ok (m : ModNo) (toEast : Bool) (words : List (BitVec 32)) (s : State) (hk : s.Ok wt) : outOk wt (execFlitReceived m toEast words s) := by
  simp (maxDischargeDepth := 9) [execFlitReceived, hk]

theorem execLockoutExpiry_ok (cl : ClientNo) (s : State) (hk : s.Ok wt) : outOk wt (execLockoutExpiry cl s) := by
  simp (maxDischargeDepth := 9) [execLockoutExpiry, hk]

@[simp] theorem State.linkPins_ok (s : State) (o : Order) (x : LinkWo) (hk : s.Ok wt) : (State.linkPins s o x).Ok wt := by
  simp (maxDischargeDepth := 9) (contextual := true) [State.linkPins, ok_foldl, hk]

theorem execRefclkRestored_ok (s : State) (hk : s.Ok wt) : outOk wt (execRefclkRestored s) := by
  simp (maxDischargeDepth := 9) [execRefclkRestored, hk]

theorem State.linkBegin_ok (s : State) (o : Order) (k : Nat) (out : Nat) (a : Nat) (n : Nat) (hk : s.Ok wt) : ∀ t, State.linkBegin s o k out a n = some t → t.1.Ok wt := by
  unfold State.linkBegin
  show optFstOk wt _
  refine optFst_foldl _ _ _ (fun x a hx => ?_) (by simp [hk])
  intro t ht
  obtain ⟨y, _, hy⟩ := Option.bind_eq_some_iff.1 ht
  dsimp only at hy
  split at hy
  · cases hy
  · cases hy
    simp [hx]

theorem execSoftmaxb_ok (r : RingNo) (ph : Phase) (s : State) (hk : s.Ok wt) : outOk wt (execSoftmaxb r ph s) := by
  simp (maxDischargeDepth := 9) [execSoftmaxb, hk]

theorem execAbortSlot_ok (cl : ClientNo) (r : RingNo) (slot : Nat) (s : State) (hk : s.Ok wt) : outOk wt (execAbortSlot cl r slot s) := by
  simp (maxDischargeDepth := 9) [execAbortSlot, hk]

theorem execCloseSession_ok (cl : ClientNo) (sess : Nat) (s : State) (hk : s.Ok wt) : outOk wt (execCloseSession cl sess s) := by
  simp (maxDischargeDepth := 9) [execCloseSession, hk]

theorem execVersionSet_ok (r : RingNo) (ph : Phase) (s : State) (hk : s.Ok wt) : outOk wt (execVersionSet r ph s) := by
  unfold execVersionSet
  (repeat' split) <;> simp_all (maxDischargeDepth := 9) [ok_foldl_iff]

@[simp] theorem State.startPans_ok (s : State) (o : Order) : (State.startPans s o).Ok wt ↔ s.Ok wt := by
  simp (maxDischargeDepth := 9) [State.startPans, ok_foldl_iff]

theorem execNorm_ok (r : RingNo) (ph : Phase) (s : State) (hk : s.Ok wt) : outOk wt (execNorm r ph s) := by
  simp (maxDischargeDepth := 9) [execNorm, hk]

@[simp] theorem State.markStalls_ok (s : State) : (State.markStalls s).Ok wt ↔ s.Ok wt := by
  simp (maxDischargeDepth := 9) [State.markStalls, ok_foldl_iff]

@[simp] theorem State.enterQuiesced_ok (s : State) : (State.enterQuiesced s).Ok wt ↔ s.Ok wt := by
  simp (maxDischargeDepth := 9) [State.enterQuiesced]

theorem execAcknowledge_ok (cl : ClientNo) (n : FnNo) (s : State) (hk : s.Ok wt) : outOk wt (execAcknowledge cl n s) := by
  simp (maxDischargeDepth := 9) [execAcknowledge, hk]

theorem execOddEpochWait_ok (l : LaunderNo) (s : State) (hk : s.Ok wt) : outOk wt (execOddEpochWait l s) := by
  unfold execOddEpochWait
  (repeat' split) <;> simp_all (maxDischargeDepth := 9) [ok_foldl_iff]

@[simp] theorem State.abortUsers_ok (s : State) (n : Nat) (hk : s.Ok wt) : (State.abortUsers s n).Ok wt := by
  simp (maxDischargeDepth := 9) (contextual := true) [State.abortUsers, ok_foldl, hk]

theorem execStoppingLimit_ok (n : FnNo) (s : State) (hk : s.Ok wt) : outOk wt (execStoppingLimit n s) := by
  simp (maxDischargeDepth := 9) [execStoppingLimit, hk]

theorem execQuiesced_ok (s : State) (hk : s.Ok wt) : outOk wt (execQuiesced s) := by
  simp (maxDischargeDepth := 9) [execQuiesced, hk]

theorem execResponse_ok (cl : ClientNo) (mac : List Byte) (s : State) (hk : s.Ok wt) : outOk wt (execResponse cl mac s) := by
  simp (maxDischargeDepth := 9) [execResponse, hk]

@[simp] theorem State.beginMoved_ok (s : State) (entry : Nat) (hk : s.Ok wt) : (State.beginMoved s entry).Ok wt := by
  simp (maxDischargeDepth := 9) (contextual := true) [State.beginMoved, ok_foldl, hk]

theorem execSpillComplete_ok (entry : Nat) (s : State) (hk : s.Ok wt) : outOk wt (execSpillComplete entry s) := by
  unfold execSpillComplete
  dsimp only
  split
  · exact hk
  · simp only [outOk_next]
    refine State.pump_ok _ ?_
    have h : memWf _ := copyRange_wf s.mem (enAddr (s.entryRec entry))
      (s.allocBase 1 + 65536 * FMap.get 0 s.stock.spill entry) (65536 * enSize (s.entryRec entry)) hk.2.1
    have h2 (u : State) (hu : u.Ok wt) : (u.beginMoved entry).Ok wt := by simp [hu]
    refine h2 _ ?_
    split <;> simp [h, hk.1, hk.2.2.1, hk.2.2.2]

theorem execDmaClear_ok (cl : ClientNo) (c : ChanNo) (s : State) (hk : s.Ok wt) : outOk wt (execDmaClear cl c s) := by
  simp (maxDischargeDepth := 9) [execDmaClear, hk]

theorem execDwconvb_ok (r : RingNo) (ph : Phase) (s : State) (hk : s.Ok wt) : outOk wt (execDwconvb r ph s) := by
  simp (maxDischargeDepth := 9) [execDwconvb, hk]

theorem execRailAlertDeasserted_ok (s : State) (hk : s.Ok wt) : outOk wt (execRailAlertDeasserted s) := by
  simp (maxDischargeDepth := 9) [execRailAlertDeasserted, hk]

@[simp] theorem State.takeTiles_ok (s : State) (o : Order) (b : Buf) (pn : Nat) (hk : s.Ok wt) : optOk wt (State.takeTiles s o b pn) := by
  unfold State.takeTiles
  dsimp only
  (repeat' split) <;> simp [hk]

@[simp] theorem State.letGo_ok (s : State) (h : Nat) (b : Buf) (hk : s.Ok wt) : optOk wt (State.letGo s h b) := by
  unfold State.letGo
  (repeat' split) <;> first
    | (simp [hk]; done)
    | exact optOk_foldl _ _ _ (fun s a hs => State.takeTiles_ok _ _ _ _ hs) (by simp [hk])

theorem State.takeTiles_iff (s : State) (o : Order) (b : Buf) (pn : Nat) (t : State) (h : s.takeTiles o b pn = some t) : t.Ok wt ↔ s.Ok wt := by
  unfold State.takeTiles at h
  dsimp only at h
  (repeat' split at h) <;> cases h <;> simp

theorem State.letGo_iff (s : State) (h : Nat) (b : Buf) (t : State) (ht : s.letGo h b = some t) : t.Ok wt ↔ s.Ok wt := by
  unfold State.letGo at ht
  (repeat' split at ht) <;> first
    | (cases ht; done)
    | (cases ht; rfl)
    | exact iff_foldl _ _ _ _ (fun s a t h => State.takeTiles_iff _ _ _ _ _ h) ht

@[simp] theorem State.releaseHead_ok (s : State) (l : Nat) (h : Handle) : (State.releaseHead s l h).Ok wt ↔ s.Ok wt := by
  unfold State.releaseHead
  dsimp only
  split
  · simp
  · split
    · rfl
    · split
      · split <;> simp
      · split
        · next t ht => simpa using State.letGo_iff _ _ _ _ ht
        · rfl

@[simp] theorem State.handKept_ok (s : State) (o : Order) (pn : Nat) (hdr : Nat) : (State.handKept s o pn hdr).Ok wt ↔ s.Ok wt := by
  simp (maxDischargeDepth := 9) [State.handKept, ok_foldl_iff]

@[simp] theorem State.setLink_ok (s : State) (k : Nat) (n : Nat) : (State.setLink s k n).Ok wt ↔ s.Ok wt := by
  simp (maxDischargeDepth := 9) [State.setLink]

theorem execIslandLinkWord_ok (k : LinkKind) (parityOk : Bool) (s : State) (hk : s.Ok wt) : outOk wt (execIslandLinkWord k parityOk s) := by
  simp (maxDischargeDepth := 9) [execIslandLinkWord, hk]

@[simp] theorem State.levelStep_ok (s : State) (half : Nat) (hk : s.Ok wt) : optOk wt (State.levelStep s half) := by
  cases hr : s.nextRaise half <;> cases hd : s.nextLower half <;> simp [State.levelStep, hr, hd, hk]

@[simp] theorem State.dmaArrived_ok (s : State) (q : Req) (hk : s.Ok wt) : (State.dmaArrived s q).Ok wt := by
  simp (maxDischargeDepth := 9) [State.dmaArrived, hk]

@[simp] theorem State.runBoil_ok (s : State) (o : Order) (b : Nat) (out : Nat) (hk : s.Ok wt) : (State.runBoil s o b out).Ok wt := by
  simp (maxDischargeDepth := 9) (contextual := true) [State.runBoil, ok_foldl, hk]

theorem execDmaStart_ok (cl : ClientNo) (c : ChanNo) (s : State) (hk : s.Ok wt) : outOk wt (execDmaStart cl c s) := by
  simp (maxDischargeDepth := 9) [execDmaStart, hk]

@[simp] theorem State.setBudget_ok (s : State) (half : Nat) (b : Int) : (State.setBudget s half b).Ok wt ↔ s.Ok wt := by
  simp (maxDischargeDepth := 9) [State.setBudget]

@[simp] theorem State.runQcal_ok (s : State) (o : Order) (n : Nat) (hk : s.Ok wt) : (State.runQcal s o n).Ok wt := by
  simp (maxDischargeDepth := 9) (contextual := true) [State.runQcal, ok_foldl, hk]

theorem execStartComplete_ok (n : FnNo) (ok : Bool) (s : State) (hk : s.Ok wt) : outOk wt (execStartComplete n ok s) := by
  unfold execStartComplete
  split
  · next h =>
    simp only [Bool.and_eq_true, beq_iff_eq] at h
    exact State.startEnds_ok _ _ _ hk (hk.move h.1.2 (by simp [h.1.1]) (by simp [h.1.1]))
  · exact hk

theorem execWrite1ToClear_ok (cl : ClientNo) (index : Nat) (sub : Nat) (mask : Nat) (s : State) (hk : s.Ok wt) : outOk wt (execWrite1ToClear cl index sub mask s) := by
  simp (maxDischargeDepth := 9) [execWrite1ToClear, hk]

@[simp] theorem State.setWlb_ok (s : State) (k : Nat) (x : WlbEnt) : (State.setWlb s k x).Ok wt ↔ s.Ok wt := by
  simp (maxDischargeDepth := 9) [State.setWlb]

@[simp] theorem State.kvDrop_ok (s : State) (a : Nat) : (State.kvDrop s a).Ok wt ↔ s.Ok wt := by
  simp (maxDischargeDepth := 9) [State.kvDrop]

@[simp] theorem State.wlbLook_ok (s : State) (w : Nat) (b : Nat) (g : Nat) (e : Nat) : (State.wlbLook s w b g e).1.Ok wt ↔ s.Ok wt := by
  unfold State.wlbLook
  grind [outOk, optOk, State.bump64_ok, State.setAtt_ok, State.setWlb_ok, State.kvDrop_ok]

@[simp] theorem State.trainSent_ok (s : State) (o : Order) (v : Rev) (hk : s.Ok wt) : (State.trainSent s o v).Ok wt := by
  simp (maxDischargeDepth := 9) [State.trainSent, hk]

theorem execRippleLoad_ok (pn : PanNo) (s : State) (hk : s.Ok wt) : outOk wt (execRippleLoad pn s) := by
  unfold execRippleLoad
  dsimp only
  (repeat' split) <;> simp [hk]

@[simp] theorem State.landedWrite_ok (s : State) (key : Nat) (a : Nat) (l : List Byte) (hk : s.Ok wt) : (State.landedWrite s key a l).Ok wt := by
  simp (maxDischargeDepth := 9) [State.landedWrite, hk]

theorem execQcal_ok (r : RingNo) (ph : Phase) (s : State) (hk : s.Ok wt) : outOk wt (execQcal r ph s) := by
  unfold execQcal
  (repeat' split) <;> simp_all (maxDischargeDepth := 9) [ok_foldl_iff]

@[simp] theorem State.runLink_ok (s : State) (out : Nat) (x : LinkWo) (hk : s.Ok wt) : optOk wt (State.runLink s out x) := by
  unfold State.runLink
  dsimp only
  have h1 : State.Ok wt (if (x.q.rewet && !(named x.q.kind x.q.raw).isEmpty) = true then s.bump64 (okey 0x2611 7) else s) := by
    split <;> simp [hk]
  generalize (if (x.q.rewet && !(named x.q.kind x.q.raw).isEmpty) = true then s.bump64 (okey 0x2611 7) else s) = s1 at h1
  split
  · intro t ht
    obtain ⟨u, hu, he⟩ := Option.map_eq_some_iff.1 ht
    subst he
    have h2 : u.Ok wt := by
      split at hu
      · exact State.reserve_ok _ _ _ _ _ _ h1 _ hu
      · cases hu; exact h1
    simp [h2]
  · simp [h1]

@[simp] theorem State.recipe_ok (s : State) (o : Order) (k : Nat) (out : Nat) (a : Nat) (n : Nat) (hk : s.Ok wt) : (State.recipe s o k out a n).1.Ok wt := by
  unfold State.recipe
  split
  · exact hk
  · next b hb =>
    have h1 := State.linkBegin_ok s o k out a n hk b hb
    refine ok_foldl_fst _ _ _ (fun x a hx => ?_) h1
    split
    · exact hx
    · split
      · exact hx
      · next t ht => exact State.runLink_ok _ _ _ hx _ ht

@[simp] theorem State.handFlakes_ok (s : State) (o : Order) (pn : Nat) : (State.handFlakes s o pn).Ok wt ↔ s.Ok wt := by
  unfold State.handFlakes
  refine ok_foldl_iff _ _ _ (fun s a => ok_foldl_iff _ _ _ (fun s n => ?_))
  dsimp only
  split
  · split <;> simp
  · rfl

@[simp] theorem State.saveCrust_ok (s : State) (o : Order) (pn : Nat) : (State.saveCrust s o pn).Ok wt ↔ s.Ok wt := by
  simp (maxDischargeDepth := 9) [State.saveCrust]

@[simp] theorem State.writeOut_ok (s : State) (h : Nat) (b : Buf) (hk : s.Ok wt) : (State.writeOut s h b).Ok wt := by
  simp (maxDischargeDepth := 9) [State.writeOut, ok_foldl_iff, hk]

theorem execStationaryLoad_ok (pn : PanNo) (a : Fin 5) (s : State) (hk : s.Ok wt) : outOk wt (execStationaryLoad pn a s) := by
  unfold execStationaryLoad
  grind [outOk, optOk, State.setPan_ok, State.starve_ok]

theorem execPageInvalidation_ok (half : HalfNo) (page : Nat) (s : State) (hk : s.Ok wt) : outOk wt (execPageInvalidation half page s) := by
  simp (maxDischargeDepth := 9) [execPageInvalidation, ok_foldl_iff, hk]

@[simp] theorem State.holdStream_ok (s : State) (h : Nat) (b : Buf) : (State.holdStream s h b).Ok wt ↔ s.Ok wt := by
  unfold State.holdStream
  split <;> simp (maxDischargeDepth := 9) [ok_foldl_iff]

@[simp] theorem State.popHead_ok (s : State) (l : Nat) (h : Handle) (hk : s.Ok wt) : (State.popHead s l h).Ok wt := by
  unfold State.popHead
  (repeat' split) <;> simp_all (maxDischargeDepth := 9) [ok_foldl_iff]

@[simp] theorem State.keepCopy_ok (s : State) (k : Nat) (data : List Byte) : (State.keepCopy s k data).Ok wt ↔ s.Ok wt := by
  simp (maxDischargeDepth := 9) [State.keepCopy]

@[simp] theorem State.offload_ok (s : State) (x_ : Nat) (hk : s.Ok wt) : (State.offload s x_).Ok wt := by
  induction x_ generalizing s with
  | zero => exact hk
  | succ n ih =>
    unfold State.offload
    dsimp only
    split
    · exact hk
    · split
      · exact hk
      · next t ht => exact ih _ (optOk_bind _ _ (fun k => State.spill_ok _ _ hk) _ ht)

theorem execArrivalWritten_ok (s : State) (hk : s.Ok wt) : outOk wt (execArrivalWritten s) := by
  unfold execArrivalWritten
  split <;> simp (maxDischargeDepth := 9) [ok_foldl_iff, hk]

theorem execFence_ok (r : RingNo) (s : State) (hk : s.Ok wt) : outOk wt (execFence r s) := by
  simp (maxDischargeDepth := 9) [execFence, hk]

theorem execHubHeartbeat_ok (s : State) (hk : s.Ok wt) : outOk wt (execHubHeartbeat s) := by
  simp (maxDischargeDepth := 9) [execHubHeartbeat, ok_foldl_iff, hk]

@[simp] theorem State.stored_ok (s : State) (failedStep : Option Nat) : (State.stored s failedStep).Ok wt ↔ s.Ok wt := by
  unfold State.stored
  split <;> simp (maxDischargeDepth := 9) [ok_foldl_iff]

theorem execAbortComplete_ok (cn : ChanNo) (s : State) (hk : s.Ok wt) : outOk wt (execAbortComplete cn s) := by
  simp (maxDischargeDepth := 9) [execAbortComplete, hk]

theorem execVersionDrop_ok (r : RingNo) (ph : Phase) (s : State) (hk : s.Ok wt) : outOk wt (execVersionDrop r ph s) := by
  unfold execVersionDrop
  (repeat' split) <;> simp_all (maxDischargeDepth := 9) [ok_foldl_iff]

theorem execShutDown_ok (cl : ClientNo) (n : FnNo) (s : State) (hk : s.Ok wt) : outOk wt (execShutDown cl n s) := by
  simp (maxDischargeDepth := 9) [execShutDown, hk]

theorem execSoftmax_ok (r : RingNo) (ph : Phase) (s : State) (hk : s.Ok wt) : outOk wt (execSoftmax r ph s) := by
  simp (maxDischargeDepth := 9) [execSoftmax, hk]

@[simp] theorem State.crustLost_ok (s : State) (o : Order) (pn : Nat) (hk : s.Ok wt) : (State.crustLost s o pn).Ok wt := by
  simp (maxDischargeDepth := 9) [State.crustLost, hk]

@[simp] theorem State.restore_ok (s : State) (o : Order) (pn : Nat) (c : Crust) (hk : s.Ok wt) : optOk wt (State.restore s o pn c) := by
  unfold State.restore
  dsimp only
  (repeat' split) <;> simp [hk]

theorem execCrustResume_ok (pn : PanNo) (parityError : Bool) (s : State) (hk : s.Ok wt) : outOk wt (execCrustResume pn parityError s) := by
  unfold execCrustResume
  dsimp only
  (repeat' split) <;> first
    | (simp [hk]; done)
    | exact State.restore_ok _ _ _ _ hk _ (by assumption)

theorem execRailEmg_ok (s : State) (hk : s.Ok wt) : outOk wt (execRailEmg s) := by
  simp (maxDischargeDepth := 9) [execRailEmg, hk]

theorem execStopComplete_ok (n : FnNo) (s : State) (hk : s.Ok wt) : outOk wt (execStopComplete n s) := by
  unfold execStopComplete
  split
  · next h =>
    simp only [Bool.and_eq_true, beq_iff_eq] at h
    have hm := hk.move h.1.2 (n := n.val) (by simp [h.1.1.1]) (by simp [h.1.1.1])
    have h1 : State.Ok wt (if n.val = 12 then s.writeBackAll (fun _ => true) false else s) := by split <;> simp [hk]
    dsimp only
    generalize (if n.val = 12 then s.writeBackAll (fun _ => true) false else s) = t at h1
    simp only [outOk_next]
    split
    · exact h1
    · exact State.reachkok _ _ h1 hm
  · exact hk

theorem execStreamResume_ok (cl : ClientNo) (l : LaunderNo) (s : State) (hk : s.Ok wt) : outOk wt (execStreamResume cl l s) := by
  simp (maxDischargeDepth := 9) [execStreamResume, hk]

theorem execDescriptorRead_ok (cn : ChanNo) (s : State) (hk : s.Ok wt) : outOk wt (execDescriptorRead cn s) := by
  simp (maxDischargeDepth := 9) [execDescriptorRead, hk]

theorem execRemoteTimeout_ok (s : State) (hk : s.Ok wt) : outOk wt (execRemoteTimeout s) := by
  unfold execRemoteTimeout
  (repeat' split) <;> simp_all (maxDischargeDepth := 9) [ok_foldl_iff]

theorem execRailCurrentSample_ok (half : HalfNo) (milliamps : Nat) (temps : List Nat) (s : State) (hk : s.Ok wt) : outOk wt (execRailCurrentSample half milliamps temps s) := by
  simp (maxDischargeDepth := 9) [execRailCurrentSample, ok_foldl_iff, hk]

theorem execPointb_ok (r : RingNo) (ph : Phase) (s : State) (hk : s.Ok wt) : outOk wt (execPointb r ph s) := by
  simp (maxDischargeDepth := 9) [execPointb, hk]

theorem execMailboxResponseCleared_ok (ch : MbxNo) (s : State) (hk : s.Ok wt) : outOk wt (execMailboxResponseCleared ch s) := by
  unfold execMailboxResponseCleared
  grind [outOk, optOk, State.setMbx_ok, State.takeMail_ok]

theorem execUrgent_ok (h : HubNo) (q : Requester) (s : State) (hk : s.Ok wt) : outOk wt (execUrgent h q s) := by
  simp (maxDischargeDepth := 9) [execUrgent, hk]

theorem execBlockSend_ok (block : Nat) (s : State) (hk : s.Ok wt) : outOk wt (execBlockSend block s) := by
  unfold execBlockSend
  split
  · exact hk
  · split
    · exact hk
    · dsimp only
      split
      · exact hk
      · split
        · exact hk
        · simp only [outOk_next]
          generalize hx : State.bump64 _ _ = t
          have ht : t.Ok wt := by subst hx; simp [hk]
          clear hx
          split <;> simp [ht]

@[simp] theorem State.takeSettings_ok (s : State) (o : Order) : (State.takeSettings s o).Ok wt ↔ s.Ok wt := by
  simp (maxDischargeDepth := 9) [State.takeSettings]

theorem execTestResume_ok (cl : ClientNo) (mask : BitVec 64) (s : State) (hk : s.Ok wt) : outOk wt (execTestResume cl mask s) := by
  simp (maxDischargeDepth := 9) [execTestResume, hk]

theorem execDisable_ok (cl : ClientNo) (n : FnNo) (s : State) (hk : s.Ok wt) : outOk wt (execDisable cl n s) := by
  simp (maxDischargeDepth := 9) [execDisable, hk]

theorem execBankErased_ok (ok : Bool) (s : State) (hk : s.Ok wt) : outOk wt (execBankErased ok s) := by
  simp (maxDischargeDepth := 9) [execBankErased, hk]

theorem execDoorbell_ok (r : RingNo) (wrote : List (Nat × List Byte)) (s : State) (hk : s.Ok wt) : outOk wt (execDoorbell r wrote s) := by
  have h : memWf (wrote.foldl (fun m w => writeBytes m w.1 w.2) s.mem) :=
    foldl_wf _ _ _ (fun m _ hm => writeBytes_wf m _ _ hm) hk.2.1
  simp [execDoorbell, h, hk.1, hk.2.2.1, hk.2.2.2]

theorem execRelease_ok (cl : ClientNo) (s : State) (hk : s.Ok wt) : outOk wt (execRelease cl s) := by
  simp (maxDischargeDepth := 9) [execRelease, hk]

@[simp] theorem State.countMasked_ok (s : State) (o : Order) : (State.countMasked s o).Ok wt ↔ s.Ok wt := by
  unfold State.countMasked
  split <;> simp (maxDischargeDepth := 9) [ok_foldl_iff]

@[simp] theorem State.claimRegions_ok (s : State) (o : Order) (hk : s.Ok wt) : (State.claimRegions s o).Ok wt := by
  unfold State.claimRegions
  (repeat' split) <;> simp_all (maxDischargeDepth := 9) [ok_foldl_iff]

@[simp] theorem State.claimTarget_ok (s : State) (o : Order) : (State.claimTarget s o).Ok wt ↔ s.Ok wt := by
  unfold State.claimTarget
  grind [outOk, optOk, State.bump32_ok, State.updOrder_ok, State.setLayer_ok]

@[simp] theorem State.admitNow_ok (s : State) (o : Order) (hk : s.Ok wt) : (State.admitNow s o).Ok wt := by
  unfold State.admitNow
  split
  · exact State.refuse_ok _ _ _ (by simp [hk])
  · dsimp only
    generalize hs3 : List.foldl _ _ o.preempts = s3
    have h3 : s3.Ok wt := by
      subst hs3
      exact ok_foldl _ _ _ (fun s a hs => by split <;> simp [hs]) (by simp [hk])
    clear hs3
    generalize hs4 : (if o.kind.isHarrow = true then State.takeSettings _ _ else _) = s4
    have h4 : s4.Ok wt := by subst hs4; split <;> simp [h3]
    clear hs4
    generalize hs5 : (if o.rewet = true then State.orderEvent _ _ _ _ else _) = s5
    have h5 : s5.Ok wt := by subst hs5; split <;> simp [h4]
    clear hs5
    (repeat' split) <;> simp [h5]

theorem execAdmission_ok (s : State) (hk : s.Ok wt) : outOk wt (execAdmission s) := by
  unfold execAdmission
  grind [outOk, optOk, State.markStalls_ok, State.admitNow_ok]

theorem execIdleTimeout_ok (sess : Nat) (s : State) (hk : s.Ok wt) : outOk wt (execIdleTimeout sess s) := by
  simp (maxDischargeDepth := 9) [execIdleTimeout, hk]

theorem execPortGrant_ok (h : HubNo) (write : Bool) (s : State) (hk : s.Ok wt) : outOk wt (execPortGrant h write s) := by
  unfold execPortGrant
  split <;> simp (maxDischargeDepth := 9) [ok_foldl_iff, hk]

theorem execStopRequest_ok (pn : PanNo) (cause : Nat) (s : State) (hk : s.Ok wt) : outOk wt (execStopRequest pn cause s) := by
  simp (maxDischargeDepth := 9) [execStopRequest, hk]

theorem execRailAlert_ok (s : State) (hk : s.Ok wt) : outOk wt (execRailAlert s) := by
  simp (maxDischargeDepth := 9) [execRailAlert, hk]

theorem execChallengeExpiry_ok (cl : ClientNo) (s : State) (hk : s.Ok wt) : outOk wt (execChallengeExpiry cl s) := by
  simp (maxDischargeDepth := 9) [execChallengeExpiry, hk]

theorem execBusOff_ok (s : State) (hk : s.Ok wt) : outOk wt (execBusOff s) := by
  simp (maxDischargeDepth := 9) [execBusOff, hk]

theorem execOpen_ok (cl : ClientNo) (priv : Nat) (s : State) (hk : s.Ok wt) : outOk wt (execOpen cl priv s) := by
  simp (maxDischargeDepth := 9) [execOpen, hk]

theorem execProduct_ok (r : RingNo) (ph : Phase) (s : State) (hk : s.Ok wt) : outOk wt (execProduct r ph s) := by
  simp (maxDischargeDepth := 9) [execProduct, hk]

theorem execSlotCredit_ok (slot : Nat) (s : State) (hk : s.Ok wt) : outOk wt (execSlotCredit slot s) := by
  unfold execSlotCredit
  (repeat' split) <;> simp_all (maxDischargeDepth := 9) [ok_foldl_iff]

theorem execPrepare_ok (cl : ClientNo) (n : FnNo) (s : State) (hk : s.Ok wt) : outOk wt (execPrepare cl n s) := by
  simp (maxDischargeDepth := 9) [execPrepare, hk]

theorem execTestStop_ok (cl : ClientNo) (mask : BitVec 64) (s : State) (hk : s.Ok wt) : outOk wt (execTestStop cl mask s) := by
  simp (maxDischargeDepth := 9) [execTestStop, hk]

@[simp] theorem State.linkDone_ok (s : State) (r : Nat) (slot : Nat) (k : Nat) (last : Nat) (ran : Nat) (hk : s.Ok wt) : (State.linkDone s r slot k last ran).Ok wt := by
  unfold State.linkDone
  grind [outOk, optOk, State.updOrder_ok, State.beginOwn_ok]

theorem execRingResume_ok (cl : ClientNo) (r : RingNo) (s : State) (hk : s.Ok wt) : outOk wt (execRingResume cl r s) := by
  simp (maxDischargeDepth := 9) [execRingResume, hk]

theorem execDx_ok (r : RingNo) (s : State) (hk : s.Ok wt) : outOk wt (execDx r s) := by
  simp (maxDischargeDepth := 9) [execDx, hk]

@[simp] theorem State.pushHub_ok (s : State) (h : Nat) : (State.pushHub s h).Ok wt ↔ s.Ok wt := by
  simp (maxDischargeDepth := 9) [State.pushHub, ok_foldl_iff]

theorem execTrainingAttemptTimeout_ok (s : State) (hk : s.Ok wt) : outOk wt (execTrainingAttemptTimeout s) := by
  simp (maxDischargeDepth := 9) [execTrainingAttemptTimeout, hk]

theorem execChainLink_ok (r : RingNo) (slot : Nat) (s : State) (hk : s.Ok wt) : outOk wt (execChainLink r slot s) := by
  unfold execChainLink
  split
  · exact hk
  · split
    · exact hk
    · split
      · exact hk
      · dsimp only
        split
        · simp [hk]
        · split
          · exact hk
          · generalize hx : (if bit _ _ = true then State.recipe _ _ _ _ _ _ else _) = x
            have h2 : x.1.Ok wt := by
              subst hx
              split
              · exact State.recipe_ok _ _ _ _ _ _ (by simp [hk])
              · simp [hk]
            clear hx
            obtain ⟨s2, ok⟩ := x
            cases ok <;> simp [h2]

@[simp] theorem State.startBuf_ok (s : State) (x : Stream) (hk : s.Ok wt) : (State.startBuf s x).Ok wt := by
  unfold State.startBuf
  dsimp only
  generalize hx : List.foldl _ _ _ = x1
  have h1 : x1.Ok wt := by subst hx; exact ok_foldl _ _ _ (fun s a hs => by simp [hs]) (by simp [hk])
  clear hx
  split <;> simp [h1]

theorem execStockpileArrival_ok (header : List Byte) (data : List Byte) (s : State) (hk : s.Ok wt) : outOk wt (execStockpileArrival header data s) := by
  simp (maxDischargeDepth := 9) [execStockpileArrival, hk]

theorem execBusOffRecovery_ok (s : State) (hk : s.Ok wt) : outOk wt (execBusOffRecovery s) := by
  simp (maxDischargeDepth := 9) [execBusOffRecovery, hk]

theorem execDualDraw_ok (r : RingNo) (s : State) (hk : s.Ok wt) : outOk wt (execDualDraw r s) := by
  simp (maxDischargeDepth := 9) [execDualDraw, hk]

theorem execRegisterWrite_ok (cl : ClientNo) (index : Nat) (sub : Nat) (data : List Byte) (s : State) (hk : s.Ok wt) : outOk wt (execRegisterWrite cl index sub data s) := by
  simp (maxDischargeDepth := 9) [execRegisterWrite, hk]

@[simp] theorem State.finishDesc_ok (s : State) (c : Nat) (hk : s.Ok wt) : (State.finishDesc s c).Ok wt := by
  simp (maxDischargeDepth := 9) [State.finishDesc, hk]

theorem execQuiesce_ok (cl : ClientNo) (s : State) (hk : s.Ok wt) : outOk wt (execQuiesce cl s) := by
  simp (maxDischargeDepth := 9) [execQuiesce, hk]

theorem execLevelGrant_ok (half : HalfNo) (ns : Nat) (s : State) (hk : s.Ok wt) : outOk wt (execLevelGrant half ns s) := by
  unfold execLevelGrant
  dsimp only
  split
  · exact hk
  · have h1 : (s.bump 64 (okey 0x2811 5) (s.ballastCycles half.val ns)).Ok wt := by simp [hk]
    generalize s.bump 64 (okey 0x2811 5) (s.ballastCycles half.val ns) = s1 at h1
    have h2 := State.levelStep_ok s1 half.val h1
    generalize s1.levelStep half.val = x at h2 ⊢
    cases x with
    | none => simp [h1]
    | some t =>
      have h3 : t.Ok wt := h2 _ rfl
      dsimp only
      split <;> simp [h1, h3]

theorem execFaultLogAcknowledge_ok (cl : ClientNo) (s : State) (hk : s.Ok wt) : outOk wt (execFaultLogAcknowledge cl s) := by
  simp (maxDischargeDepth := 9) [execFaultLogAcknowledge, hk]

theorem execPkgRst_ok (env : ResetEnv) (s : State) (hk : s.Ok wt) : outOk wt (execPkgRst env s) := by
  simp (maxDischargeDepth := 9) [execPkgRst, hk]

theorem execVersionPublishkok (r : RingNo) (s : State) (hk : s.Ok wt) : outOk wt (execVersionPublish r s) := by
  simp (maxDischargeDepth := 9) [execVersionPublish, hk]

theorem execRiderReturn_ok (header : List Byte) (rider : List Byte) (s : State) (hk : s.Ok wt) : outOk wt (execRiderReturn header rider s) := by
  unfold execRiderReturn
  dsimp only
  split
  · exact hk
  · split
    · simp [hk]
    · next o _ =>
      have h1 : (s.ensureRev o).Ok wt := by simp [hk]
      generalize s.ensureRev o = s1 at h1
      split
      · exact h1
      · split
        · simp [h1]
        · simp [h1]

@[simp] theorem State.walkPages_ok (s : State) (w : Nat) (b : Nat) (pages : List (Nat × Nat)) (hk : s.Ok wt) : (State.walkPages s w b pages).1.Ok wt := by
  unfold State.walkPages
  exact ok_foldl_fst _ _ _ (fun x p hx => State.kvRead_ok _ _ _ _ (State.kvRead_ok _ _ _ _ hx)) hk

theorem execRingEnable_ok (cl : ClientNo) (r : RingNo) (s : State) (hk : s.Ok wt) : outOk wt (execRingEnable cl r s) := by
  simp (maxDischargeDepth := 9) [execRingEnable, hk]

theorem execModuleLeftActive_ok (m : ModNo) (s : State) (hk : s.Ok wt) : outOk wt (execModuleLeftActive m s) := by
  simp (maxDischargeDepth := 9) [execModuleLeftActive, hk]

theorem execHeartbeat_ok (s : State) (hk : s.Ok wt) : outOk wt (execHeartbeat s) := by
  simp (maxDischargeDepth := 9) [execHeartbeat, hk]

theorem execCommit_ok (cl : ClientNo) (s : State) (hk : s.Ok wt) : outOk wt (execCommit cl s) := by
  simp (maxDischargeDepth := 9) [execCommit, hk]

theorem execKeyWrite_ok (cl : ClientNo) (priv : Nat) (data : List Byte) (s : State) (hk : s.Ok wt) : outOk wt (execKeyWrite cl priv data s) := by
  simp (maxDischargeDepth := 9) [execKeyWrite, hk]

theorem execReplayTimeout_ok (m : ModNo) (toEast : Bool) (s : State) (hk : s.Ok wt) : outOk wt (execReplayTimeout m toEast s) := by
  simp (maxDischargeDepth := 9) [execReplayTimeout, hk]

theorem execRefclkLost_ok (s : State) (hk : s.Ok wt) : outOk wt (execRefclkLost s) := by
  simp (maxDischargeDepth := 9) [execRefclkLost, hk]

theorem execWlbInvalidate_ok (cl : ClientNo) (mask : Nat) (s : State) (hk : s.Ok wt) : outOk wt (execWlbInvalidate cl mask s) := by
  simp (maxDischargeDepth := 9) [execWlbInvalidate, hk]

theorem execWriteAcknowledged_ok (h : HubNo) (tag : Nat) (s : State) (hk : s.Ok wt) : outOk wt (execWriteAcknowledged h tag s) := by
  unfold execWriteAcknowledged
  split <;> simp (maxDischargeDepth := 9) [ok_foldl_iff, hk]

theorem execStillwater_ok (h : HubNo) (s : State) (hk : s.Ok wt) : outOk wt (execStillwater h s) := by
  simp (maxDischargeDepth := 9) [execStillwater, hk]

theorem execCrustSave_ok (pn : PanNo) (s : State) (hk : s.Ok wt) : outOk wt (execCrustSave pn s) := by
  unfold execCrustSave
  grind [outOk, optOk, State.setPan_ok, State.settleStop_ok, State.saveCrust_ok]

@[simp] theorem State.untranslated_ok (s : State) (half : Nat) (page : Nat) (hk : s.Ok wt) : (State.untranslated s half page).Ok wt := by
  unfold State.untranslated
  dsimp only
  refine State.judgeHalf_ok _ _ (State.dmaAbsent_ok _ _ _ ?_)
  simp only [State.setStrm_ok]
  exact ok_foldl _ _ _ (fun s a hs => by simp [hs]) (by simp [hk])

theorem execPark_ok (pn : PanNo) (holds : ParkHold) (offset : Nat) (again : Bool) (s : State) (hk : s.Ok wt) : outOk wt (execPark pn holds offset again s) := by
  unfold execPark
  dsimp only
  split
  · exact hk
  · have h1 : State.Ok wt (if s.injected 1 pn.val = true then s.disarm else s) := by split <;> simp [hk]
    generalize (if s.injected 1 pn.val = true then s.disarm else s) = s1 at h1
    (repeat' split) <;> simp [h1]

theorem execRingDisable_ok (cl : ClientNo) (r : RingNo) (s : State) (hk : s.Ok wt) : outOk wt (execRingDisable cl r s) := by
  simp (maxDischargeDepth := 9) [execRingDisable, hk]

theorem execHandlePop_ok (l : LaunderNo) (release : Bool) (s : State) (hk : s.Ok wt) : outOk wt (execHandlePop l release s) := by
  unfold execHandlePop
  grind [outOk, optOk, State.releaseHead_ok, State.popHead_ok, State.pushHub_ok]

theorem execUpdate_ok (r : RingNo) (ph : Phase) (s : State) (hk : s.Ok wt) : outOk wt (execUpdate r ph s) := by
  simp (maxDischargeDepth := 9) [execUpdate, hk]

theorem execPowerLost_ok (s : State) (hk : s.Ok wt) : outOk wt (execPowerLost s) := by
  unfold execPowerLost
  dsimp only
  have h1 : s.cutShort.Ok wt := by simp [hk]
  generalize s.cutShort = s at h1
  refine ⟨h1.1, FMap.wf_nil _, ?_, by simp [State.reset]⟩
  intro _ _ n hn
  refine Or.inl ?_
  have hn : n = 10 ∨ n = 11 ∨ n = 14 := by simpa [isPermanent, or_assoc] using hn
  rcases hn with rfl | rfl | rfl <;> rfl

@[simp] theorem State.pushGate_ok (s : State) (d : Nat) (hk : s.Ok wt) : optOk wt (State.pushGate s d) := by
  unfold State.pushGate
  grind [outOk, optOk, State.bump64_ok, State.setStrm_ok, State.pushHandle_ok]

theorem execDescriptorComplete_ok (cn : ChanNo) (s : State) (hk : s.Ok wt) : outOk wt (execDescriptorComplete cn s) := by
  unfold execDescriptorComplete
  dsimp only
  split
  · exact hk
  · split
    · have h1 := State.pushGate_ok s (s.chan cn.val).desc hk
      generalize s.pushGate (s.chan cn.val).desc = x at h1 ⊢
      cases x with
      | none => simp [hk]
      | some t => simp [h1 t rfl]
    · simp [hk]

theorem execThrottleRelease_ok (s : State) (hk : s.Ok wt) : outOk wt (execThrottleRelease s) := by
  simp (maxDischargeDepth := 9) [execThrottleRelease, hk]

theorem execSnapshotExpired_ok (s : State) (hk : s.Ok wt) : outOk wt (execSnapshotExpired s) := by
  simp (maxDischargeDepth := 9) [execSnapshotExpired, hk]

theorem execWorkOrderComplete_ok (r : RingNo) (slot : Nat) (s : State) (hk : s.Ok wt) : outOk wt (execWorkOrderComplete r slot s) := by
  unfold execWorkOrderComplete
  (repeat' split) <;> simp_all (maxDischargeDepth := 9) [ok_foldl_iff]

theorem execAutonomousRamp_ok (h : HubNo) (s : State) (hk : s.Ok wt) : outOk wt (execAutonomousRamp h s) := by
  simp (maxDischargeDepth := 9) [execAutonomousRamp, hk]

theorem execAtts_ok (r : RingNo) (ph : AttPhase) (s : State) (hk : s.Ok wt) : outOk wt (execAtts r ph s) := by
  simp (maxDischargeDepth := 9) [execAtts, hk]

theorem execGatePop_ok (l : LaunderNo) (s : State) (hk : s.Ok wt) : outOk wt (execGatePop l s) := by
  unfold execGatePop
  grind [outOk, optOk, State.updStream_ok, State.freeBuf_ok, State.popHandle_ok]

theorem execBlockArrival_ok (header : List Byte) (payload : List Byte) (rider : List Byte) (s : State) (hk : s.Ok wt) : outOk wt (execBlockArrival header payload rider s) := by
  unfold execBlockArrival
  split
  · exact hk
  · split
    · simp [hk]
    · next o _ =>
      have h1 : (s.ensureRev o).Ok wt := by simp [hk]
      generalize s.ensureRev o = s1 at h1
      dsimp only
      split
      · exact h1
      · generalize (_ || Option.isSome _) = bad
        cases bad
        · simp only [Bool.false_eq_true, if_false, outOk_next, State.setRev_ok]
          exact (ok_foldl_iff _ _ _ (fun s x => by simp)).2 (by simp [h1])
        · simp [h1]

theorem execStream_ok (r : RingNo) (ph : Phase) (s : State) (hk : s.Ok wt) : outOk wt (execStream r ph s) := by
  unfold execStream
  (repeat' split) <;> simp_all (maxDischargeDepth := 9) [ok_foldl_iff]

@[simp] theorem State.walkTry_ok (s : State) (o : Order) (v : Rev) (b : Nat) (genAfter : Option Nat) (hk : s.Ok wt) : (State.walkTry s o v b genAfter).Ok wt := by
  unfold State.walkTry
  dsimp only
  split
  · simp [hk]
  · generalize hx : List.foldl _ (s, some []) _ = x
    have h1 : x.1.Ok wt := by
      subst hx
      refine ok_foldl_fst _ _ _ (fun x a hx => ?_) hk
      split
      · exact hx
      · split
        · next t p ht => exact fst_ok ht ((State.wlbLook_ok _ _ _ _ _).2 hx)
        · next t ht => exact fst_ok ht ((State.wlbLook_ok _ _ _ _ _).2 hx)
    clear hx
    split
    · simp [h1]
    · have h2 (l : List (Nat × Nat)) : (x.1.walkPages o.raw b l).1.Ok wt := State.walkPages_ok _ _ _ _ h1
      (repeat' split) <;> simp [h2]

theorem execWalk_ok (r : RingNo) (slot : Nat) (block : Nat) (genAfter : Option Nat) (s : State) (hk : s.Ok wt) : outOk wt (execWalk r slot block genAfter s) := by
  unfold execWalk
  split
  · exact hk
  · next o s' hs =>
    have h' := State.attNow_ok _ _ _ hk _ hs
    dsimp only at h' ⊢
    (repeat' split) <;> first
      | (simp_all; done)
      | (simp only [outOk_next]; exact ok_foldl _ _ _ (fun s a hs => by simp [hs]) h')

theorem execUsdoRequest_ok (cl : ClientNo) (dest : Nat) (msg : Usdo) (s : State) (hk : s.Ok wt) : outOk wt (execUsdoRequest cl dest msg s) := by
  unfold execUsdoRequest
  split <;> simp [hk]

theorem execClockStepChange_ok (h : HubNo) (s : State) (hk : s.Ok wt) : outOk wt (execClockStepChange h s) := by
  unfold execClockStepChange
  dsimp only
  exact (State.setBudget_ok _ _ _).2 (ok_foldl _ _ _ (fun s a hs => by simp [hs]) hk)

theorem execCommitStored_ok (failedStep : Option Nat) (s : State) (hk : s.Ok wt) : outOk wt (execCommitStored failedStep s) := by
  simp (maxDischargeDepth := 9) [execCommitStored, hk]

theorem execAutonomousMode_ok (h : HubNo) (s : State) (hk : s.Ok wt) : outOk wt (execAutonomousMode h s) := by
  simp (maxDischargeDepth := 9) [execAutonomousMode, hk]

theorem execAttb_ok (r : RingNo) (ph : AttPhase) (s : State) (hk : s.Ok wt) : outOk wt (execAttb r ph s) := by
  simp (maxDischargeDepth := 9) [execAttb, hk]

theorem execDwconv_ok (r : RingNo) (ph : Phase) (s : State) (hk : s.Ok wt) : outOk wt (execDwconv r ph s) := by
  simp (maxDischargeDepth := 9) [execDwconv, hk]

theorem execTranslationResponse_ok (half : HalfNo) (page : Nat) (x : Xlate) (s : State) (hk : s.Ok wt) : outOk wt (execTranslationResponse half page x s) := by
  unfold execTranslationResponse
  (repeat' split) <;> simp_all (maxDischargeDepth := 9) [ok_foldl_iff]

theorem execClose_ok (cl : ClientNo) (s : State) (hk : s.Ok wt) : outOk wt (execClose cl s) := by
  simp (maxDischargeDepth := 9) [execClose, hk]

theorem execTestEmergency_ok (cl : ClientNo) (s : State) (hk : s.Ok wt) : outOk wt (execTestEmergency cl s) := by
  simp (maxDischargeDepth := 9) [execTestEmergency, hk]

theorem execEnable_ok (cl : ClientNo) (n : FnNo) (s : State) (hk : s.Ok wt) : outOk wt (execEnable cl n s) := by
  simp (maxDischargeDepth := 9) [execEnable, hk]

theorem execSegmentTimeout_ok (cl : ClientNo) (s : State) (hk : s.Ok wt) : outOk wt (execSegmentTimeout cl s) := by
  simp (maxDischargeDepth := 9) [execSegmentTimeout, hk]

theorem execCancel_ok (cl : ClientNo) (n : FnNo) (s : State) (hk : s.Ok wt) : outOk wt (execCancel cl n s) := by
  simp (maxDischargeDepth := 9) [execCancel, hk]

theorem execRakeFetchkok (l : LaunderNo) (s : State) (hk : s.Ok wt) : outOk wt (execRakeFetch l s) := by
  unfold execRakeFetch
  (repeat' split) <;> simp_all (maxDischargeDepth := 9) [ok_foldl_iff]

theorem execDmaAbort_ok (cl : ClientNo) (c : ChanNo) (s : State) (hk : s.Ok wt) : outOk wt (execDmaAbort cl c s) := by
  simp (maxDischargeDepth := 9) [execDmaAbort, hk]
end Sys2Proof.Machine
end

