-- ==== Sys2Proof/Laws/State.lean ====
section
/-! SUPPORT. What each update of the state leaves as it is, field by field, and what its own field reads afterwards. -/

namespace Sys2Proof.Machine

@[simp] theorem State.setObj_pending (s : State) (k v : Nat) : (s.setObj k v).pending = s.pending := rfl
@[simp] theorem State.setObj_out (s : State) (k v : Nat) : (s.setObj k v).out = s.out := rfl
@[simp] theorem State.setObj_timeUs (s : State) (k v : Nat) : (s.setObj k v).timeUs = s.timeUs := rfl
@[simp] theorem State.setObj_draws (s : State) (k v : Nat) : (s.setObj k v).draws = s.draws := rfl
@[simp] theorem State.setObj_mem (s : State) (k v : Nat) : (s.setObj k v).mem = s.mem := rfl
@[simp] theorem State.setObj_fns (s : State) (k v : Nat) : (s.setObj k v).fns = s.fns := rfl
@[simp] theorem State.setObj_ctl (s : State) (k v : Nat) : (s.setObj k v).ctl = s.ctl := rfl
@[simp] theorem State.setObj_seq (s : State) (k v : Nat) : (s.setObj k v).seq = s.seq := rfl
@[simp] theorem State.setObj_win (s : State) (k v : Nat) : (s.setObj k v).win = s.win := rfl
@[simp] theorem State.setObj_pans (s : State) (k v : Nat) : (s.setObj k v).pans = s.pans := rfl
@[simp] theorem State.setObj_hubs (s : State) (k v : Nat) : (s.setObj k v).hubs = s.hubs := rfl
@[simp] theorem State.setObj_strm (s : State) (k v : Nat) : (s.setObj k v).strm = s.strm := rfl
@[simp] theorem State.setObj_chans (s : State) (k v : Nat) : (s.setObj k v).chans = s.chans := rfl
@[simp] theorem State.setObj_stock (s : State) (k v : Nat) : (s.setObj k v).stock = s.stock := rfl
@[simp] theorem State.setObj_att (s : State) (k v : Nat) : (s.setObj k v).att = s.att := rfl
@[simp] theorem State.setObj_qds (s : State) (k v : Nat) : (s.setObj k v).qds = s.qds := rfl
@[simp] theorem State.setObj_weir (s : State) (k v : Nat) : (s.setObj k v).weir = s.weir := rfl
@[simp] theorem State.setObj_link (s : State) (k v : Nat) : (s.setObj k v).link = s.link := rfl
@[simp] theorem State.setObj_mgt (s : State) (k v : Nat) : (s.setObj k v).mgt = s.mgt := rfl
@[simp] theorem State.setObj_cfg (s : State) (k v : Nat) : (s.setObj k v).cfg = s.cfg := rfl
@[simp] theorem State.setObj_flt (s : State) (k v : Nat) : (s.setObj k v).flt = s.flt := rfl
@[simp] theorem State.setObj_fn (s : State) (k v : Nat) (i : Nat) : (s.setObj k v).fn i = s.fn i := rfl
@[simp] theorem State.setObj_ring (s : State) (k v : Nat) (i : Nat) : (s.setObj k v).ring i = s.ring i := rfl
@[simp] theorem State.setObj_pan (s : State) (k v : Nat) (i : Nat) : (s.setObj k v).pan i = s.pan i := rfl
@[simp] theorem State.setObj_hub (s : State) (k v : Nat) (i : Nat) : (s.setObj k v).hub i = s.hub i := rfl
@[simp] theorem State.setObj_rd8 (s : State) (k v : Nat) (i : Nat) : (s.setObj k v).rd8 i = s.rd8 i := rfl
@[simp] theorem State.setObj_order (s : State) (k v : Nat) (i j : Nat) : (s.setObj k v).order? i j = s.order? i j := rfl
@[simp] theorem State.setObj_chan (s : State) (k v : Nat) (i : Nat) : (s.setObj k v).chan i = s.chan i := rfl
@[simp] theorem State.setObj_mod (s : State) (k v : Nat) (i : Nat) : (s.setObj k v).mod i = s.mod i := rfl
@[simp] theorem State.setObj_layer (s : State) (k v : Nat) (i : Nat) : (s.setObj k v).layer i = s.layer i := rfl
@[simp] theorem State.setObj_region (s : State) (k v : Nat) (i : Nat) : (s.setObj k v).region i = s.region i := rfl
@[simp] theorem State.setObj_queue (s : State) (k v : Nat) (i : Nat) : (s.setObj k v).queue i = s.queue i := rfl
@[simp] theorem State.setObj_entryRec (s : State) (k v : Nat) (i : Nat) : (s.setObj k v).entryRec i = s.entryRec i := rfl
@[simp] theorem State.setObj_mbx (s : State) (k v : Nat) (i : Nat) : (s.setObj k v).mbx i = s.mbx i := rfl
@[simp] theorem State.setObj_xfer (s : State) (k v : Nat) (i : Nat) : (s.setObj k v).xfer i = s.xfer i := rfl
@[simp] theorem State.setObj_clientOf (s : State) (k v : Nat) (i : Nat) : (s.setObj k v).clientOf i = s.clientOf i := rfl
@[simp] theorem State.setObj_qd (s : State) (k v : Nat) (i : Nat) : (s.setObj k v).qd i = s.qd i := rfl

@[simp] theorem State.setFn_pending (s : State) (n : Nat) (r : FnRec) : (s.setFn n r).pending = s.pending := rfl
@[simp] theorem State.setFn_out (s : State) (n : Nat) (r : FnRec) : (s.setFn n r).out = s.out := rfl
@[simp] theorem State.setFn_timeUs (s : State) (n : Nat) (r : FnRec) : (s.setFn n r).timeUs = s.timeUs := rfl
@[simp] theorem State.setFn_draws (s : State) (n : Nat) (r : FnRec) : (s.setFn n r).draws = s.draws := rfl
@[simp] theorem State.setFn_mem (s : State) (n : Nat) (r : FnRec) : (s.setFn n r).mem = s.mem := rfl
@[simp] theorem State.setFn_objs (s : State) (n : Nat) (r : FnRec) : (s.setFn n r).objs = s.objs := rfl
@[simp] theorem State.setFn_ctl (s : State) (n : Nat) (r : FnRec) : (s.setFn n r).ctl = s.ctl := rfl
@[simp] theorem State.setFn_seq (s : State) (n : Nat) (r : FnRec) : (s.setFn n r).seq = s.seq := rfl
@[simp] theorem State.setFn_win (s : State) (n : Nat) (r : FnRec) : (s.setFn n r).win = s.win := rfl
@[simp] theorem State.setFn_pans (s : State) (n : Nat) (r : FnRec) : (s.setFn n r).pans = s.pans := rfl
@[simp] theorem State.setFn_hubs (s : State) (n : Nat) (r : FnRec) : (s.setFn n r).hubs = s.hubs := rfl
@[simp] theorem State.setFn_strm (s : State) (n : Nat) (r : FnRec) : (s.setFn n r).strm = s.strm := rfl
@[simp] theorem State.setFn_chans (s : State) (n : Nat) (r : FnRec) : (s.setFn n r).chans = s.chans := rfl
@[simp] theorem State.setFn_stock (s : State) (n : Nat) (r : FnRec) : (s.setFn n r).stock = s.stock := rfl
@[simp] theorem State.setFn_att (s : State) (n : Nat) (r : FnRec) : (s.setFn n r).att = s.att := rfl
@[simp] theorem State.setFn_qds (s : State) (n : Nat) (r : FnRec) : (s.setFn n r).qds = s.qds := rfl
@[simp] theorem State.setFn_weir (s : State) (n : Nat) (r : FnRec) : (s.setFn n r).weir = s.weir := rfl
@[simp] theorem State.setFn_link (s : State) (n : Nat) (r : FnRec) : (s.setFn n r).link = s.link := rfl
@[simp] theorem State.setFn_mgt (s : State) (n : Nat) (r : FnRec) : (s.setFn n r).mgt = s.mgt := rfl
@[simp] theorem State.setFn_cfg (s : State) (n : Nat) (r : FnRec) : (s.setFn n r).cfg = s.cfg := rfl
@[simp] theorem State.setFn_flt (s : State) (n : Nat) (r : FnRec) : (s.setFn n r).flt = s.flt := rfl
@[simp] theorem State.setFn_obj (s : State) (n : Nat) (r : FnRec) (i : Nat) : (s.setFn n r).obj i = s.obj i := rfl
@[simp] theorem State.setFn_ring (s : State) (n : Nat) (r : FnRec) (i : Nat) : (s.setFn n r).ring i = s.ring i := rfl
@[simp] theorem State.setFn_pan (s : State) (n : Nat) (r : FnRec) (i : Nat) : (s.setFn n r).pan i = s.pan i := rfl
@[simp] theorem State.setFn_hub (s : State) (n : Nat) (r : FnRec) (i : Nat) : (s.setFn n r).hub i = s.hub i := rfl
@[simp] theorem State.setFn_rd8 (s : State) (n : Nat) (r : FnRec) (i : Nat) : (s.setFn n r).rd8 i = s.rd8 i := rfl
@[simp] theorem State.setFn_order (s : State) (n : Nat) (r : FnRec) (i j : Nat) : (s.setFn n r).order? i j = s.order? i j := rfl
@[simp] theorem State.setFn_chan (s : State) (n : Nat) (r : FnRec) (i : Nat) : (s.setFn n r).chan i = s.chan i := rfl
@[simp] theorem State.setFn_mod (s : State) (n : Nat) (r : FnRec) (i : Nat) : (s.setFn n r).mod i = s.mod i := rfl
@[simp] theorem State.setFn_layer (s : State) (n : Nat) (r : FnRec) (i : Nat) : (s.setFn n r).layer i = s.layer i := rfl
@[simp] theorem State.setFn_region (s : State) (n : Nat) (r : FnRec) (i : Nat) : (s.setFn n r).region i = s.region i := rfl
@[simp] theorem State.setFn_queue (s : State) (n : Nat) (r : FnRec) (i : Nat) : (s.setFn n r).queue i = s.queue i := rfl
@[simp] theorem State.setFn_entryRec (s : State) (n : Nat) (r : FnRec) (i : Nat) : (s.setFn n r).entryRec i = s.entryRec i := rfl
@[simp] theorem State.setFn_mbx (s : State) (n : Nat) (r : FnRec) (i : Nat) : (s.setFn n r).mbx i = s.mbx i := rfl
@[simp] theorem State.setFn_xfer (s : State) (n : Nat) (r : FnRec) (i : Nat) : (s.setFn n r).xfer i = s.xfer i := rfl
@[simp] theorem State.setFn_clientOf (s : State) (n : Nat) (r : FnRec) (i : Nat) : (s.setFn n r).clientOf i = s.clientOf i := rfl
@[simp] theorem State.setFn_qd (s : State) (n : Nat) (r : FnRec) (i : Nat) : (s.setFn n r).qd i = s.qd i := rfl

@[simp] theorem State.setOrders_pending (s : State) (l : List Order) : (s.setOrders l).pending = s.pending := rfl
@[simp] theorem State.setOrders_out (s : State) (l : List Order) : (s.setOrders l).out = s.out := rfl
@[simp] theorem State.setOrders_timeUs (s : State) (l : List Order) : (s.setOrders l).timeUs = s.timeUs := rfl
@[simp] theorem State.setOrders_draws (s : State) (l : List Order) : (s.setOrders l).draws = s.draws := rfl
@[simp] theorem State.setOrders_mem (s : State) (l : List Order) : (s.setOrders l).mem = s.mem := rfl
@[simp] theorem State.setOrders_objs (s : State) (l : List Order) : (s.setOrders l).objs = s.objs := rfl
@[simp] theorem State.setOrders_fns (s : State) (l : List Order) : (s.setOrders l).fns = s.fns := rfl
@[simp] theorem State.setOrders_ctl (s : State) (l : List Order) : (s.setOrders l).ctl = s.ctl := rfl
@[simp] theorem State.setOrders_win (s : State) (l : List Order) : (s.setOrders l).win = s.win := rfl
@[simp] theorem State.setOrders_pans (s : State) (l : List Order) : (s.setOrders l).pans = s.pans := rfl
@[simp] theorem State.setOrders_hubs (s : State) (l : List Order) : (s.setOrders l).hubs = s.hubs := rfl
@[simp] theorem State.setOrders_strm (s : State) (l : List Order) : (s.setOrders l).strm = s.strm := rfl
@[simp] theorem State.setOrders_chans (s : State) (l : List Order) : (s.setOrders l).chans = s.chans := rfl
@[simp] theorem State.setOrders_stock (s : State) (l : List Order) : (s.setOrders l).stock = s.stock := rfl
@[simp] theorem State.setOrders_att (s : State) (l : List Order) : (s.setOrders l).att = s.att := rfl
@[simp] theorem State.setOrders_qds (s : State) (l : List Order) : (s.setOrders l).qds = s.qds := rfl
@[simp] theorem State.setOrders_weir (s : State) (l : List Order) : (s.setOrders l).weir = s.weir := rfl
@[simp] theorem State.setOrders_link (s : State) (l : List Order) : (s.setOrders l).link = s.link := rfl
@[simp] theorem State.setOrders_mgt (s : State) (l : List Order) : (s.setOrders l).mgt = s.mgt := rfl
@[simp] theorem State.setOrders_cfg (s : State) (l : List Order) : (s.setOrders l).cfg = s.cfg := rfl
@[simp] theorem State.setOrders_flt (s : State) (l : List Order) : (s.setOrders l).flt = s.flt := rfl
@[simp] theorem State.setOrders_seq_rings (s : State) (l : List Order) : (s.setOrders l).seq.rings = s.seq.rings := rfl
@[simp] theorem State.setOrders_seq_readCount (s : State) (l : List Order) : (s.setOrders l).seq.readCount = s.seq.readCount := rfl
@[simp] theorem State.setOrders_seq_lastRing (s : State) (l : List Order) : (s.setOrders l).seq.lastRing = s.seq.lastRing := rfl
@[simp] theorem State.setOrders_seq_layers (s : State) (l : List Order) : (s.setOrders l).seq.layers = s.seq.layers := rfl
@[simp] theorem State.setOrders_seq_records (s : State) (l : List Order) : (s.setOrders l).seq.records = s.seq.records := rfl
@[simp] theorem State.setOrders_obj (s : State) (l : List Order) (i : Nat) : (s.setOrders l).obj i = s.obj i := rfl
@[simp] theorem State.setOrders_fn (s : State) (l : List Order) (i : Nat) : (s.setOrders l).fn i = s.fn i := rfl
@[simp] theorem State.setOrders_ring (s : State) (l : List Order) (i : Nat) : (s.setOrders l).ring i = s.ring i := rfl
@[simp] theorem State.setOrders_pan (s : State) (l : List Order) (i : Nat) : (s.setOrders l).pan i = s.pan i := rfl
@[simp] theorem State.setOrders_hub (s : State) (l : List Order) (i : Nat) : (s.setOrders l).hub i = s.hub i := rfl
@[simp] theorem State.setOrders_rd8 (s : State) (l : List Order) (i : Nat) : (s.setOrders l).rd8 i = s.rd8 i := rfl
@[simp] theorem State.setOrders_chan (s : State) (l : List Order) (i : Nat) : (s.setOrders l).chan i = s.chan i := rfl
@[simp] theorem State.setOrders_mod (s : State) (l : List Order) (i : Nat) : (s.setOrders l).mod i = s.mod i := rfl
@[simp] theorem State.setOrders_layer (s : State) (l : List Order) (i : Nat) : (s.setOrders l).layer i = s.layer i := rfl
@[simp] theorem State.setOrders_region (s : State) (l : List Order) (i : Nat) : (s.setOrders l).region i = s.region i := rfl
@[simp] theorem State.setOrders_queue (s : State) (l : List Order) (i : Nat) : (s.setOrders l).queue i = s.queue i := rfl
@[simp] theorem State.setOrders_entryRec (s : State) (l : List Order) (i : Nat) : (s.setOrders l).entryRec i = s.entryRec i := rfl
@[simp] theorem State.setOrders_mbx (s : State) (l : List Order) (i : Nat) : (s.setOrders l).mbx i = s.mbx i := rfl
@[simp] theorem State.setOrders_xfer (s : State) (l : List Order) (i : Nat) : (s.setOrders l).xfer i = s.xfer i := rfl
@[simp] theorem State.setOrders_clientOf (s : State) (l : List Order) (i : Nat) : (s.setOrders l).clientOf i = s.clientOf i := rfl
@[simp] theorem State.setOrders_qd (s : State) (l : List Order) (i : Nat) : (s.setOrders l).qd i = s.qd i := rfl

@[simp] theorem State.setRing_pending (s : State) (r : Nat) (x : Ring) : (s.setRing r x).pending = s.pending := rfl
@[simp] theorem State.setRing_out (s : State) (r : Nat) (x : Ring) : (s.setRing r x).out = s.out := rfl
@[simp] theorem State.setRing_timeUs (s : State) (r : Nat) (x : Ring) : (s.setRing r x).timeUs = s.timeUs := rfl
@[simp] theorem State.setRing_draws (s : State) (r : Nat) (x : Ring) : (s.setRing r x).draws = s.draws := rfl
@[simp] theorem State.setRing_mem (s : State) (r : Nat) (x : Ring) : (s.setRing r x).mem = s.mem := rfl
@[simp] theorem State.setRing_objs (s : State) (r : Nat) (x : Ring) : (s.setRing r x).objs = s.objs := rfl
@[simp] theorem State.setRing_fns (s : State) (r : Nat) (x : Ring) : (s.setRing r x).fns = s.fns := rfl
@[simp] theorem State.setRing_ctl (s : State) (r : Nat) (x : Ring) : (s.setRing r x).ctl = s.ctl := rfl
@[simp] theorem State.setRing_win (s : State) (r : Nat) (x : Ring) : (s.setRing r x).win = s.win := rfl
@[simp] theorem State.setRing_pans (s : State) (r : Nat) (x : Ring) : (s.setRing r x).pans = s.pans := rfl
@[simp] theorem State.setRing_hubs (s : State) (r : Nat) (x : Ring) : (s.setRing r x).hubs = s.hubs := rfl
@[simp] theorem State.setRing_strm (s : State) (r : Nat) (x : Ring) : (s.setRing r x).strm = s.strm := rfl
@[simp] theorem State.setRing_chans (s : State) (r : Nat) (x : Ring) : (s.setRing r x).chans = s.chans := rfl
@[simp] theorem State.setRing_stock (s : State) (r : Nat) (x : Ring) : (s.setRing r x).stock = s.stock := rfl
@[simp] theorem State.setRing_att (s : State) (r : Nat) (x : Ring) : (s.setRing r x).att = s.att := rfl
@[simp] theorem State.setRing_qds (s : State) (r : Nat) (x : Ring) : (s.setRing r x).qds = s.qds := rfl
@[simp] theorem State.setRing_weir (s : State) (r : Nat) (x : Ring) : (s.setRing r x).weir = s.weir := rfl
@[simp] theorem State.setRing_link (s : State) (r : Nat) (x : Ring) : (s.setRing r x).link = s.link := rfl
@[simp] theorem State.setRing_mgt (s : State) (r : Nat) (x : Ring) : (s.setRing r x).mgt = s.mgt := rfl
@[simp] theorem State.setRing_cfg (s : State) (r : Nat) (x : Ring) : (s.setRing r x).cfg = s.cfg := rfl
@[simp] theorem State.setRing_flt (s : State) (r : Nat) (x : Ring) : (s.setRing r x).flt = s.flt := rfl
@[simp] theorem State.setRing_seq_orders (s : State) (r : Nat) (x : Ring) : (s.setRing r x).seq.orders = s.seq.orders := rfl
@[simp] theorem State.setRing_seq_readCount (s : State) (r : Nat) (x : Ring) : (s.setRing r x).seq.readCount = s.seq.readCount := rfl
@[simp] theorem State.setRing_seq_lastRing (s : State) (r : Nat) (x : Ring) : (s.setRing r x).seq.lastRing = s.seq.lastRing := rfl
@[simp] theorem State.setRing_seq_layers (s : State) (r : Nat) (x : Ring) : (s.setRing r x).seq.layers = s.seq.layers := rfl
@[simp] theorem State.setRing_seq_records (s : State) (r : Nat) (x : Ring) : (s.setRing r x).seq.records = s.seq.records := rfl
@[simp] theorem State.setRing_obj (s : State) (r : Nat) (x : Ring) (i : Nat) : (s.setRing r x).obj i = s.obj i := rfl
@[simp] theorem State.setRing_fn (s : State) (r : Nat) (x : Ring) (i : Nat) : (s.setRing r x).fn i = s.fn i := rfl
@[simp] theorem State.setRing_pan (s : State) (r : Nat) (x : Ring) (i : Nat) : (s.setRing r x).pan i = s.pan i := rfl
@[simp] theorem State.setRing_hub (s : State) (r : Nat) (x : Ring) (i : Nat) : (s.setRing r x).hub i = s.hub i := rfl
@[simp] theorem State.setRing_rd8 (s : State) (r : Nat) (x : Ring) (i : Nat) : (s.setRing r x).rd8 i = s.rd8 i := rfl
@[simp] theorem State.setRing_order (s : State) (r : Nat) (x : Ring) (i j : Nat) : (s.setRing r x).order? i j = s.order? i j := rfl
@[simp] theorem State.setRing_chan (s : State) (r : Nat) (x : Ring) (i : Nat) : (s.setRing r x).chan i = s.chan i := rfl
@[simp] theorem State.setRing_mod (s : State) (r : Nat) (x : Ring) (i : Nat) : (s.setRing r x).mod i = s.mod i := rfl
@[simp] theorem State.setRing_layer (s : State) (r : Nat) (x : Ring) (i : Nat) : (s.setRing r x).layer i = s.layer i := rfl
@[simp] theorem State.setRing_region (s : State) (r : Nat) (x : Ring) (i : Nat) : (s.setRing r x).region i = s.region i := rfl
@[simp] theorem State.setRing_queue (s : State) (r : Nat) (x : Ring) (i : Nat) : (s.setRing r x).queue i = s.queue i := rfl
@[simp] theorem State.setRing_entryRec (s : State) (r : Nat) (x : Ring) (i : Nat) : (s.setRing r x).entryRec i = s.entryRec i := rfl
@[simp] theorem State.setRing_mbx (s : State) (r : Nat) (x : Ring) (i : Nat) : (s.setRing r x).mbx i = s.mbx i := rfl
@[simp] theorem State.setRing_xfer (s : State) (r : Nat) (x : Ring) (i : Nat) : (s.setRing r x).xfer i = s.xfer i := rfl
@[simp] theorem State.setRing_clientOf (s : State) (r : Nat) (x : Ring) (i : Nat) : (s.setRing r x).clientOf i = s.clientOf i := rfl
@[simp] theorem State.setRing_qd (s : State) (r : Nat) (x : Ring) (i : Nat) : (s.setRing r x).qd i = s.qd i := rfl

@[simp] theorem State.setLayer_pending (s : State) (l : Nat) (x : Layer) : (s.setLayer l x).pending = s.pending := rfl
@[simp] theorem State.setLayer_out (s : State) (l : Nat) (x : Layer) : (s.setLayer l x).out = s.out := rfl
@[simp] theorem State.setLayer_timeUs (s : State) (l : Nat) (x : Layer) : (s.setLayer l x).timeUs = s.timeUs := rfl
@[simp] theorem State.setLayer_draws (s : State) (l : Nat) (x : Layer) : (s.setLayer l x).draws = s.draws := rfl
@[simp] theorem State.setLayer_mem (s : State) (l : Nat) (x : Layer) : (s.setLayer l x).mem = s.mem := rfl
@[simp] theorem State.setLayer_objs (s : State) (l : Nat) (x : Layer) : (s.setLayer l x).objs = s.objs := rfl
@[simp] theorem State.setLayer_fns (s : State) (l : Nat) (x : Layer) : (s.setLayer l x).fns = s.fns := rfl
@[simp] theorem State.setLayer_ctl (s : State) (l : Nat) (x : Layer) : (s.setLayer l x).ctl = s.ctl := rfl
@[simp] theorem State.setLayer_win (s : State) (l : Nat) (x : Layer) : (s.setLayer l x).win = s.win := rfl
@[simp] theorem State.setLayer_pans (s : State) (l : Nat) (x : Layer) : (s.setLayer l x).pans = s.pans := rfl
@[simp] theorem State.setLayer_hubs (s : State) (l : Nat) (x : Layer) : (s.setLayer l x).hubs = s.hubs := rfl
@[simp] theorem State.setLayer_strm (s : State) (l : Nat) (x : Layer) : (s.setLayer l x).strm = s.strm := rfl
@[simp] theorem State.setLayer_chans (s : State) (l : Nat) (x : Layer) : (s.setLayer l x).chans = s.chans := rfl
@[simp] theorem State.setLayer_stock (s : State) (l : Nat) (x : Layer) : (s.setLayer l x).stock = s.stock := rfl
@[simp] theorem State.setLayer_att (s : State) (l : Nat) (x : Layer) : (s.setLayer l x).att = s.att := rfl
@[simp] theorem State.setLayer_qds (s : State) (l : Nat) (x : Layer) : (s.setLayer l x).qds = s.qds := rfl
@[simp] theorem State.setLayer_weir (s : State) (l : Nat) (x : Layer) : (s.setLayer l x).weir = s.weir := rfl
@[simp] theorem State.setLayer_link (s : State) (l : Nat) (x : Layer) : (s.setLayer l x).link = s.link := rfl
@[simp] theorem State.setLayer_mgt (s : State) (l : Nat) (x : Layer) : (s.setLayer l x).mgt = s.mgt := rfl
@[simp] theorem State.setLayer_cfg (s : State) (l : Nat) (x : Layer) : (s.setLayer l x).cfg = s.cfg := rfl
@[simp] theorem State.setLayer_flt (s : State) (l : Nat) (x : Layer) : (s.setLayer l x).flt = s.flt := rfl
@[simp] theorem State.setLayer_seq_rings (s : State) (l : Nat) (x : Layer) : (s.setLayer l x).seq.rings = s.seq.rings := rfl
@[simp] theorem State.setLayer_seq_orders (s : State) (l : Nat) (x : Layer) : (s.setLayer l x).seq.orders = s.seq.orders := rfl
@[simp] theorem State.setLayer_seq_readCount (s : State) (l : Nat) (x : Layer) : (s.setLayer l x).seq.readCount = s.seq.readCount := rfl
@[simp] theorem State.setLayer_seq_lastRing (s : State) (l : Nat) (x : Layer) : (s.setLayer l x).seq.lastRing = s.seq.lastRing := rfl
@[simp] theorem State.setLayer_seq_records (s : State) (l : Nat) (x : Layer) : (s.setLayer l x).seq.records = s.seq.records := rfl
@[simp] theorem State.setLayer_obj (s : State) (l : Nat) (x : Layer) (i : Nat) : (s.setLayer l x).obj i = s.obj i := rfl
@[simp] theorem State.setLayer_fn (s : State) (l : Nat) (x : Layer) (i : Nat) : (s.setLayer l x).fn i = s.fn i := rfl
@[simp] theorem State.setLayer_ring (s : State) (l : Nat) (x : Layer) (i : Nat) : (s.setLayer l x).ring i = s.ring i := rfl
@[simp] theorem State.setLayer_pan (s : State) (l : Nat) (x : Layer) (i : Nat) : (s.setLayer l x).pan i = s.pan i := rfl
@[simp] theorem State.setLayer_hub (s : State) (l : Nat) (x : Layer) (i : Nat) : (s.setLayer l x).hub i = s.hub i := rfl
@[simp] theorem State.setLayer_rd8 (s : State) (l : Nat) (x : Layer) (i : Nat) : (s.setLayer l x).rd8 i = s.rd8 i := rfl
@[simp] theorem State.setLayer_order (s : State) (l : Nat) (x : Layer) (i j : Nat) : (s.setLayer l x).order? i j = s.order? i j := rfl
@[simp] theorem State.setLayer_chan (s : State) (l : Nat) (x : Layer) (i : Nat) : (s.setLayer l x).chan i = s.chan i := rfl
@[simp] theorem State.setLayer_mod (s : State) (l : Nat) (x : Layer) (i : Nat) : (s.setLayer l x).mod i = s.mod i := rfl
@[simp] theorem State.setLayer_region (s : State) (l : Nat) (x : Layer) (i : Nat) : (s.setLayer l x).region i = s.region i := rfl
@[simp] theorem State.setLayer_queue (s : State) (l : Nat) (x : Layer) (i : Nat) : (s.setLayer l x).queue i = s.queue i := rfl
@[simp] theorem State.setLayer_entryRec (s : State) (l : Nat) (x : Layer) (i : Nat) : (s.setLayer l x).entryRec i = s.entryRec i := rfl
@[simp] theorem State.setLayer_mbx (s : State) (l : Nat) (x : Layer) (i : Nat) : (s.setLayer l x).mbx i = s.mbx i := rfl
@[simp] theorem State.setLayer_xfer (s : State) (l : Nat) (x : Layer) (i : Nat) : (s.setLayer l x).xfer i = s.xfer i := rfl
@[simp] theorem State.setLayer_clientOf (s : State) (l : Nat) (x : Layer) (i : Nat) : (s.setLayer l x).clientOf i = s.clientOf i := rfl
@[simp] theorem State.setLayer_qd (s : State) (l : Nat) (x : Layer) (i : Nat) : (s.setLayer l x).qd i = s.qd i := rfl

@[simp] theorem State.setPan_pending (s : State) (p : Nat) (x : Pan) : (s.setPan p x).pending = s.pending := rfl
@[simp] theorem State.setPan_out (s : State) (p : Nat) (x : Pan) : (s.setPan p x).out = s.out := rfl
@[simp] theorem State.setPan_timeUs (s : State) (p : Nat) (x : Pan) : (s.setPan p x).timeUs = s.timeUs := rfl
@[simp] theorem State.setPan_draws (s : State) (p : Nat) (x : Pan) : (s.setPan p x).draws = s.draws := rfl
@[simp] theorem State.setPan_mem (s : State) (p : Nat) (x : Pan) : (s.setPan p x).mem = s.mem := rfl
@[simp] theorem State.setPan_objs (s : State) (p : Nat) (x : Pan) : (s.setPan p x).objs = s.objs := rfl
@[simp] theorem State.setPan_fns (s : State) (p : Nat) (x : Pan) : (s.setPan p x).fns = s.fns := rfl
@[simp] theorem State.setPan_ctl (s : State) (p : Nat) (x : Pan) : (s.setPan p x).ctl = s.ctl := rfl
@[simp] theorem State.setPan_seq (s : State) (p : Nat) (x : Pan) : (s.setPan p x).seq = s.seq := rfl
@[simp] theorem State.setPan_win (s : State) (p : Nat) (x : Pan) : (s.setPan p x).win = s.win := rfl
@[simp] theorem State.setPan_hubs (s : State) (p : Nat) (x : Pan) : (s.setPan p x).hubs = s.hubs := rfl
@[simp] theorem State.setPan_strm (s : State) (p : Nat) (x : Pan) : (s.setPan p x).strm = s.strm := rfl
@[simp] theorem State.setPan_chans (s : State) (p : Nat) (x : Pan) : (s.setPan p x).chans = s.chans := rfl
@[simp] theorem State.setPan_stock (s : State) (p : Nat) (x : Pan) : (s.setPan p x).stock = s.stock := rfl
@[simp] theorem State.setPan_att (s : State) (p : Nat) (x : Pan) : (s.setPan p x).att = s.att := rfl
@[simp] theorem State.setPan_qds (s : State) (p : Nat) (x : Pan) : (s.setPan p x).qds = s.qds := rfl
@[simp] theorem State.setPan_weir (s : State) (p : Nat) (x : Pan) : (s.setPan p x).weir = s.weir := rfl
@[simp] theorem State.setPan_link (s : State) (p : Nat) (x : Pan) : (s.setPan p x).link = s.link := rfl
@[simp] theorem State.setPan_mgt (s : State) (p : Nat) (x : Pan) : (s.setPan p x).mgt = s.mgt := rfl
@[simp] theorem State.setPan_cfg (s : State) (p : Nat) (x : Pan) : (s.setPan p x).cfg = s.cfg := rfl
@[simp] theorem State.setPan_flt (s : State) (p : Nat) (x : Pan) : (s.setPan p x).flt = s.flt := rfl
@[simp] theorem State.setPan_obj (s : State) (p : Nat) (x : Pan) (i : Nat) : (s.setPan p x).obj i = s.obj i := rfl
@[simp] theorem State.setPan_fn (s : State) (p : Nat) (x : Pan) (i : Nat) : (s.setPan p x).fn i = s.fn i := rfl
@[simp] theorem State.setPan_ring (s : State) (p : Nat) (x : Pan) (i : Nat) : (s.setPan p x).ring i = s.ring i := rfl
@[simp] theorem State.setPan_hub (s : State) (p : Nat) (x : Pan) (i : Nat) : (s.setPan p x).hub i = s.hub i := rfl
@[simp] theorem State.setPan_rd8 (s : State) (p : Nat) (x : Pan) (i : Nat) : (s.setPan p x).rd8 i = s.rd8 i := rfl
@[simp] theorem State.setPan_order (s : State) (p : Nat) (x : Pan) (i j : Nat) : (s.setPan p x).order? i j = s.order? i j := rfl
@[simp] theorem State.setPan_chan (s : State) (p : Nat) (x : Pan) (i : Nat) : (s.setPan p x).chan i = s.chan i := rfl
@[simp] theorem State.setPan_mod (s : State) (p : Nat) (x : Pan) (i : Nat) : (s.setPan p x).mod i = s.mod i := rfl
@[simp] theorem State.setPan_layer (s : State) (p : Nat) (x : Pan) (i : Nat) : (s.setPan p x).layer i = s.layer i := rfl
@[simp] theorem State.setPan_region (s : State) (p : Nat) (x : Pan) (i : Nat) : (s.setPan p x).region i = s.region i := rfl
@[simp] theorem State.setPan_queue (s : State) (p : Nat) (x : Pan) (i : Nat) : (s.setPan p x).queue i = s.queue i := rfl
@[simp] theorem State.setPan_entryRec (s : State) (p : Nat) (x : Pan) (i : Nat) : (s.setPan p x).entryRec i = s.entryRec i := rfl
@[simp] theorem State.setPan_mbx (s : State) (p : Nat) (x : Pan) (i : Nat) : (s.setPan p x).mbx i = s.mbx i := rfl
@[simp] theorem State.setPan_xfer (s : State) (p : Nat) (x : Pan) (i : Nat) : (s.setPan p x).xfer i = s.xfer i := rfl
@[simp] theorem State.setPan_clientOf (s : State) (p : Nat) (x : Pan) (i : Nat) : (s.setPan p x).clientOf i = s.clientOf i := rfl
@[simp] theorem State.setPan_qd (s : State) (p : Nat) (x : Pan) (i : Nat) : (s.setPan p x).qd i = s.qd i := rfl

@[simp] theorem State.setHub_pending (s : State) (h : Nat) (x : Hub) : (s.setHub h x).pending = s.pending := rfl
@[simp] theorem State.setHub_out (s : State) (h : Nat) (x : Hub) : (s.setHub h x).out = s.out := rfl
@[simp] theorem State.setHub_timeUs (s : State) (h : Nat) (x : Hub) : (s.setHub h x).timeUs = s.timeUs := rfl
@[simp] theorem State.setHub_draws (s : State) (h : Nat) (x : Hub) : (s.setHub h x).draws = s.draws := rfl
@[simp] theorem State.setHub_mem (s : State) (h : Nat) (x : Hub) : (s.setHub h x).mem = s.mem := rfl
@[simp] theorem State.setHub_objs (s : State) (h : Nat) (x : Hub) : (s.setHub h x).objs = s.objs := rfl
@[simp] theorem State.setHub_fns (s : State) (h : Nat) (x : Hub) : (s.setHub h x).fns = s.fns := rfl
@[simp] theorem State.setHub_ctl (s : State) (h : Nat) (x : Hub) : (s.setHub h x).ctl = s.ctl := rfl
@[simp] theorem State.setHub_seq (s : State) (h : Nat) (x : Hub) : (s.setHub h x).seq = s.seq := rfl
@[simp] theorem State.setHub_win (s : State) (h : Nat) (x : Hub) : (s.setHub h x).win = s.win := rfl
@[simp] theorem State.setHub_pans (s : State) (h : Nat) (x : Hub) : (s.setHub h x).pans = s.pans := rfl
@[simp] theorem State.setHub_strm (s : State) (h : Nat) (x : Hub) : (s.setHub h x).strm = s.strm := rfl
@[simp] theorem State.setHub_chans (s : State) (h : Nat) (x : Hub) : (s.setHub h x).chans = s.chans := rfl
@[simp] theorem State.setHub_stock (s : State) (h : Nat) (x : Hub) : (s.setHub h x).stock = s.stock := rfl
@[simp] theorem State.setHub_att (s : State) (h : Nat) (x : Hub) : (s.setHub h x).att = s.att := rfl
@[simp] theorem State.setHub_qds (s : State) (h : Nat) (x : Hub) : (s.setHub h x).qds = s.qds := rfl
@[simp] theorem State.setHub_weir (s : State) (h : Nat) (x : Hub) : (s.setHub h x).weir = s.weir := rfl
@[simp] theorem State.setHub_link (s : State) (h : Nat) (x : Hub) : (s.setHub h x).link = s.link := rfl
@[simp] theorem State.setHub_mgt (s : State) (h : Nat) (x : Hub) : (s.setHub h x).mgt = s.mgt := rfl
@[simp] theorem State.setHub_cfg (s : State) (h : Nat) (x : Hub) : (s.setHub h x).cfg = s.cfg := rfl
@[simp] theorem State.setHub_flt (s : State) (h : Nat) (x : Hub) : (s.setHub h x).flt = s.flt := rfl
@[simp] theorem State.setHub_obj (s : State) (h : Nat) (x : Hub) (i : Nat) : (s.setHub h x).obj i = s.obj i := rfl
@[simp] theorem State.setHub_fn (s : State) (h : Nat) (x : Hub) (i : Nat) : (s.setHub h x).fn i = s.fn i := rfl
@[simp] theorem State.setHub_ring (s : State) (h : Nat) (x : Hub) (i : Nat) : (s.setHub h x).ring i = s.ring i := rfl
@[simp] theorem State.setHub_pan (s : State) (h : Nat) (x : Hub) (i : Nat) : (s.setHub h x).pan i = s.pan i := rfl
@[simp] theorem State.setHub_rd8 (s : State) (h : Nat) (x : Hub) (i : Nat) : (s.setHub h x).rd8 i = s.rd8 i := rfl
@[simp] theorem State.setHub_order (s : State) (h : Nat) (x : Hub) (i j : Nat) : (s.setHub h x).order? i j = s.order? i j := rfl
@[simp] theorem State.setHub_chan (s : State) (h : Nat) (x : Hub) (i : Nat) : (s.setHub h x).chan i = s.chan i := rfl
@[simp] theorem State.setHub_mod (s : State) (h : Nat) (x : Hub) (i : Nat) : (s.setHub h x).mod i = s.mod i := rfl
@[simp] theorem State.setHub_layer (s : State) (h : Nat) (x : Hub) (i : Nat) : (s.setHub h x).layer i = s.layer i := rfl
@[simp] theorem State.setHub_region (s : State) (h : Nat) (x : Hub) (i : Nat) : (s.setHub h x).region i = s.region i := rfl
@[simp] theorem State.setHub_queue (s : State) (h : Nat) (x : Hub) (i : Nat) : (s.setHub h x).queue i = s.queue i := rfl
@[simp] theorem State.setHub_entryRec (s : State) (h : Nat) (x : Hub) (i : Nat) : (s.setHub h x).entryRec i = s.entryRec i := rfl
@[simp] theorem State.setHub_mbx (s : State) (h : Nat) (x : Hub) (i : Nat) : (s.setHub h x).mbx i = s.mbx i := rfl
@[simp] theorem State.setHub_xfer (s : State) (h : Nat) (x : Hub) (i : Nat) : (s.setHub h x).xfer i = s.xfer i := rfl
@[simp] theorem State.setHub_clientOf (s : State) (h : Nat) (x : Hub) (i : Nat) : (s.setHub h x).clientOf i = s.clientOf i := rfl
@[simp] theorem State.setHub_qd (s : State) (h : Nat) (x : Hub) (i : Nat) : (s.setHub h x).qd i = s.qd i := rfl

@[simp] theorem State.setStrm_pending (s : State) (x : Strm) : (s.setStrm x).pending = s.pending := rfl
@[simp] theorem State.setStrm_out (s : State) (x : Strm) : (s.setStrm x).out = s.out := rfl
@[simp] theorem State.setStrm_timeUs (s : State) (x : Strm) : (s.setStrm x).timeUs = s.timeUs := rfl
@[simp] theorem State.setStrm_draws (s : State) (x : Strm) : (s.setStrm x).draws = s.draws := rfl
@[simp] theorem State.setStrm_mem (s : State) (x : Strm) : (s.setStrm x).mem = s.mem := rfl
@[simp] theorem State.setStrm_objs (s : State) (x : Strm) : (s.setStrm x).objs = s.objs := rfl
@[simp] theorem State.setStrm_fns (s : State) (x : Strm) : (s.setStrm x).fns = s.fns := rfl
@[simp] theorem State.setStrm_ctl (s : State) (x : Strm) : (s.setStrm x).ctl = s.ctl := rfl
@[simp] theorem State.setStrm_seq (s : State) (x : Strm) : (s.setStrm x).seq = s.seq := rfl
@[simp] theorem State.setStrm_win (s : State) (x : Strm) : (s.setStrm x).win = s.win := rfl
@[simp] theorem State.setStrm_pans (s : State) (x : Strm) : (s.setStrm x).pans = s.pans := rfl
@[simp] theorem State.setStrm_hubs (s : State) (x : Strm) : (s.setStrm x).hubs = s.hubs := rfl
@[simp] theorem State.setStrm_chans (s : State) (x : Strm) : (s.setStrm x).chans = s.chans := rfl
@[simp] theorem State.setStrm_stock (s : State) (x : Strm) : (s.setStrm x).stock = s.stock := rfl
@[simp] theorem State.setStrm_att (s : State) (x : Strm) : (s.setStrm x).att = s.att := rfl
@[simp] theorem State.setStrm_qds (s : State) (x : Strm) : (s.setStrm x).qds = s.qds := rfl
@[simp] theorem State.setStrm_weir (s : State) (x : Strm) : (s.setStrm x).weir = s.weir := rfl
@[simp] theorem State.setStrm_link (s : State) (x : Strm) : (s.setStrm x).link = s.link := rfl
@[simp] theorem State.setStrm_mgt (s : State) (x : Strm) : (s.setStrm x).mgt = s.mgt := rfl
@[simp] theorem State.setStrm_cfg (s : State) (x : Strm) : (s.setStrm x).cfg = s.cfg := rfl
@[simp] theorem State.setStrm_flt (s : State) (x : Strm) : (s.setStrm x).flt = s.flt := rfl
@[simp] theorem State.setStrm_obj (s : State) (x : Strm) (i : Nat) : (s.setStrm x).obj i = s.obj i := rfl
@[simp] theorem State.setStrm_fn (s : State) (x : Strm) (i : Nat) : (s.setStrm x).fn i = s.fn i := rfl
@[simp] theorem State.setStrm_ring (s : State) (x : Strm) (i : Nat) : (s.setStrm x).ring i = s.ring i := rfl
@[simp] theorem State.setStrm_pan (s : State) (x : Strm) (i : Nat) : (s.setStrm x).pan i = s.pan i := rfl
@[simp] theorem State.setStrm_hub (s : State) (x : Strm) (i : Nat) : (s.setStrm x).hub i = s.hub i := rfl
@[simp] theorem State.setStrm_rd8 (s : State) (x : Strm) (i : Nat) : (s.setStrm x).rd8 i = s.rd8 i := rfl
@[simp] theorem State.setStrm_order (s : State) (x : Strm) (i j : Nat) : (s.setStrm x).order? i j = s.order? i j := rfl
@[simp] theorem State.setStrm_chan (s : State) (x : Strm) (i : Nat) : (s.setStrm x).chan i = s.chan i := rfl
@[simp] theorem State.setStrm_mod (s : State) (x : Strm) (i : Nat) : (s.setStrm x).mod i = s.mod i := rfl
@[simp] theorem State.setStrm_layer (s : State) (x : Strm) (i : Nat) : (s.setStrm x).layer i = s.layer i := rfl
@[simp] theorem State.setStrm_region (s : State) (x : Strm) (i : Nat) : (s.setStrm x).region i = s.region i := rfl
@[simp] theorem State.setStrm_entryRec (s : State) (x : Strm) (i : Nat) : (s.setStrm x).entryRec i = s.entryRec i := rfl
@[simp] theorem State.setStrm_mbx (s : State) (x : Strm) (i : Nat) : (s.setStrm x).mbx i = s.mbx i := rfl
@[simp] theorem State.setStrm_xfer (s : State) (x : Strm) (i : Nat) : (s.setStrm x).xfer i = s.xfer i := rfl
@[simp] theorem State.setStrm_clientOf (s : State) (x : Strm) (i : Nat) : (s.setStrm x).clientOf i = s.clientOf i := rfl
@[simp] theorem State.setStrm_qd (s : State) (x : Strm) (i : Nat) : (s.setStrm x).qd i = s.qd i := rfl

@[simp] theorem State.setQueue_pending (s : State) (l : Nat) (x : Queue) : (s.setQueue l x).pending = s.pending := rfl
@[simp] theorem State.setQueue_out (s : State) (l : Nat) (x : Queue) : (s.setQueue l x).out = s.out := rfl
@[simp] theorem State.setQueue_timeUs (s : State) (l : Nat) (x : Queue) : (s.setQueue l x).timeUs = s.timeUs := rfl
@[simp] theorem State.setQueue_draws (s : State) (l : Nat) (x : Queue) : (s.setQueue l x).draws = s.draws := rfl
@[simp] theorem State.setQueue_mem (s : State) (l : Nat) (x : Queue) : (s.setQueue l x).mem = s.mem := rfl
@[simp] theorem State.setQueue_objs (s : State) (l : Nat) (x : Queue) : (s.setQueue l x).objs = s.objs := rfl
@[simp] theorem State.setQueue_fns (s : State) (l : Nat) (x : Queue) : (s.setQueue l x).fns = s.fns := rfl
@[simp] theorem State.setQueue_ctl (s : State) (l : Nat) (x : Queue) : (s.setQueue l x).ctl = s.ctl := rfl
@[simp] theorem State.setQueue_seq (s : State) (l : Nat) (x : Queue) : (s.setQueue l x).seq = s.seq := rfl
@[simp] theorem State.setQueue_win (s : State) (l : Nat) (x : Queue) : (s.setQueue l x).win = s.win := rfl
@[simp] theorem State.setQueue_pans (s : State) (l : Nat) (x : Queue) : (s.setQueue l x).pans = s.pans := rfl
@[simp] theorem State.setQueue_hubs (s : State) (l : Nat) (x : Queue) : (s.setQueue l x).hubs = s.hubs := rfl
@[simp] theorem State.setQueue_chans (s : State) (l : Nat) (x : Queue) : (s.setQueue l x).chans = s.chans := rfl
@[simp] theorem State.setQueue_stock (s : State) (l : Nat) (x : Queue) : (s.setQueue l x).stock = s.stock := rfl
@[simp] theorem State.setQueue_att (s : State) (l : Nat) (x : Queue) : (s.setQueue l x).att = s.att := rfl
@[simp] theorem State.setQueue_qds (s : State) (l : Nat) (x : Queue) : (s.setQueue l x).qds = s.qds := rfl
@[simp] theorem State.setQueue_weir (s : State) (l : Nat) (x : Queue) : (s.setQueue l x).weir = s.weir := rfl
@[simp] theorem State.setQueue_link (s : State) (l : Nat) (x : Queue) : (s.setQueue l x).link = s.link := rfl
@[simp] theorem State.setQueue_mgt (s : State) (l : Nat) (x : Queue) : (s.setQueue l x).mgt = s.mgt := rfl
@[simp] theorem State.setQueue_cfg (s : State) (l : Nat) (x : Queue) : (s.setQueue l x).cfg = s.cfg := rfl
@[simp] theorem State.setQueue_flt (s : State) (l : Nat) (x : Queue) : (s.setQueue l x).flt = s.flt := rfl
@[simp] theorem State.setQueue_strm_lset (s : State) (l : Nat) (x : Queue) : (s.setQueue l x).strm.lset = s.strm.lset := rfl
@[simp] theorem State.setQueue_strm_bufs (s : State) (l : Nat) (x : Queue) : (s.setQueue l x).strm.bufs = s.strm.bufs := rfl
@[simp] theorem State.setQueue_strm_bufCount (s : State) (l : Nat) (x : Queue) : (s.setQueue l x).strm.bufCount = s.strm.bufCount := rfl
@[simp] theorem State.setQueue_strm_streams (s : State) (l : Nat) (x : Queue) : (s.setQueue l x).strm.streams = s.strm.streams := rfl
@[simp] theorem State.setQueue_strm_faultRecs (s : State) (l : Nat) (x : Queue) : (s.setQueue l x).strm.faultRecs = s.strm.faultRecs := rfl
@[simp] theorem State.setQueue_strm_reqs (s : State) (l : Nat) (x : Queue) : (s.setQueue l x).strm.reqs = s.strm.reqs := rfl
@[simp] theorem State.setQueue_strm_tags (s : State) (l : Nat) (x : Queue) : (s.setQueue l x).strm.tags = s.strm.tags := rfl
@[simp] theorem State.setQueue_strm_tlb (s : State) (l : Nat) (x : Queue) : (s.setQueue l x).strm.tlb = s.strm.tlb := rfl
@[simp] theorem State.setQueue_strm_misses (s : State) (l : Nat) (x : Queue) : (s.setQueue l x).strm.misses = s.strm.misses := rfl
@[simp] theorem State.setQueue_strm_writeTags (s : State) (l : Nat) (x : Queue) : (s.setQueue l x).strm.writeTags = s.strm.writeTags := rfl
@[simp] theorem State.setQueue_strm_invals (s : State) (l : Nat) (x : Queue) : (s.setQueue l x).strm.invals = s.strm.invals := rfl
@[simp] theorem State.setQueue_strm_served (s : State) (l : Nat) (x : Queue) : (s.setQueue l x).strm.served = s.strm.served := rfl
@[simp] theorem State.setQueue_strm_dmaNext (s : State) (l : Nat) (x : Queue) : (s.setQueue l x).strm.dmaNext = s.strm.dmaNext := rfl
@[simp] theorem State.setQueue_strm_dmaLast (s : State) (l : Nat) (x : Queue) : (s.setQueue l x).strm.dmaLast = s.strm.dmaLast := rfl
@[simp] theorem State.setQueue_obj (s : State) (l : Nat) (x : Queue) (i : Nat) : (s.setQueue l x).obj i = s.obj i := rfl
@[simp] theorem State.setQueue_fn (s : State) (l : Nat) (x : Queue) (i : Nat) : (s.setQueue l x).fn i = s.fn i := rfl
@[simp] theorem State.setQueue_ring (s : State) (l : Nat) (x : Queue) (i : Nat) : (s.setQueue l x).ring i = s.ring i := rfl
@[simp] theorem State.setQueue_pan (s : State) (l : Nat) (x : Queue) (i : Nat) : (s.setQueue l x).pan i = s.pan i := rfl
@[simp] theorem State.setQueue_hub (s : State) (l : Nat) (x : Queue) (i : Nat) : (s.setQueue l x).hub i = s.hub i := rfl
@[simp] theorem State.setQueue_rd8 (s : State) (l : Nat) (x : Queue) (i : Nat) : (s.setQueue l x).rd8 i = s.rd8 i := rfl
@[simp] theorem State.setQueue_order (s : State) (l : Nat) (x : Queue) (i j : Nat) : (s.setQueue l x).order? i j = s.order? i j := rfl
@[simp] theorem State.setQueue_chan (s : State) (l : Nat) (x : Queue) (i : Nat) : (s.setQueue l x).chan i = s.chan i := rfl
@[simp] theorem State.setQueue_mod (s : State) (l : Nat) (x : Queue) (i : Nat) : (s.setQueue l x).mod i = s.mod i := rfl
@[simp] theorem State.setQueue_layer (s : State) (l : Nat) (x : Queue) (i : Nat) : (s.setQueue l x).layer i = s.layer i := rfl
@[simp] theorem State.setQueue_region (s : State) (l : Nat) (x : Queue) (i : Nat) : (s.setQueue l x).region i = s.region i := rfl
@[simp] theorem State.setQueue_entryRec (s : State) (l : Nat) (x : Queue) (i : Nat) : (s.setQueue l x).entryRec i = s.entryRec i := rfl
@[simp] theorem State.setQueue_mbx (s : State) (l : Nat) (x : Queue) (i : Nat) : (s.setQueue l x).mbx i = s.mbx i := rfl
@[simp] theorem State.setQueue_xfer (s : State) (l : Nat) (x : Queue) (i : Nat) : (s.setQueue l x).xfer i = s.xfer i := rfl
@[simp] theorem State.setQueue_clientOf (s : State) (l : Nat) (x : Queue) (i : Nat) : (s.setQueue l x).clientOf i = s.clientOf i := rfl
@[simp] theorem State.setQueue_qd (s : State) (l : Nat) (x : Queue) (i : Nat) : (s.setQueue l x).qd i = s.qd i := rfl

@[simp] theorem State.setChan_pending (s : State) (c : Nat) (x : Chan) : (s.setChan c x).pending = s.pending := rfl
@[simp] theorem State.setChan_out (s : State) (c : Nat) (x : Chan) : (s.setChan c x).out = s.out := rfl
@[simp] theorem State.setChan_timeUs (s : State) (c : Nat) (x : Chan) : (s.setChan c x).timeUs = s.timeUs := rfl
@[simp] theorem State.setChan_draws (s : State) (c : Nat) (x : Chan) : (s.setChan c x).draws = s.draws := rfl
@[simp] theorem State.setChan_mem (s : State) (c : Nat) (x : Chan) : (s.setChan c x).mem = s.mem := rfl
@[simp] theorem State.setChan_objs (s : State) (c : Nat) (x : Chan) : (s.setChan c x).objs = s.objs := rfl
@[simp] theorem State.setChan_fns (s : State) (c : Nat) (x : Chan) : (s.setChan c x).fns = s.fns := rfl
@[simp] theorem State.setChan_ctl (s : State) (c : Nat) (x : Chan) : (s.setChan c x).ctl = s.ctl := rfl
@[simp] theorem State.setChan_seq (s : State) (c : Nat) (x : Chan) : (s.setChan c x).seq = s.seq := rfl
@[simp] theorem State.setChan_win (s : State) (c : Nat) (x : Chan) : (s.setChan c x).win = s.win := rfl
@[simp] theorem State.setChan_pans (s : State) (c : Nat) (x : Chan) : (s.setChan c x).pans = s.pans := rfl
@[simp] theorem State.setChan_hubs (s : State) (c : Nat) (x : Chan) : (s.setChan c x).hubs = s.hubs := rfl
@[simp] theorem State.setChan_strm (s : State) (c : Nat) (x : Chan) : (s.setChan c x).strm = s.strm := rfl
@[simp] theorem State.setChan_stock (s : State) (c : Nat) (x : Chan) : (s.setChan c x).stock = s.stock := rfl
@[simp] theorem State.setChan_att (s : State) (c : Nat) (x : Chan) : (s.setChan c x).att = s.att := rfl
@[simp] theorem State.setChan_qds (s : State) (c : Nat) (x : Chan) : (s.setChan c x).qds = s.qds := rfl
@[simp] theorem State.setChan_weir (s : State) (c : Nat) (x : Chan) : (s.setChan c x).weir = s.weir := rfl
@[simp] theorem State.setChan_link (s : State) (c : Nat) (x : Chan) : (s.setChan c x).link = s.link := rfl
@[simp] theorem State.setChan_mgt (s : State) (c : Nat) (x : Chan) : (s.setChan c x).mgt = s.mgt := rfl
@[simp] theorem State.setChan_cfg (s : State) (c : Nat) (x : Chan) : (s.setChan c x).cfg = s.cfg := rfl
@[simp] theorem State.setChan_flt (s : State) (c : Nat) (x : Chan) : (s.setChan c x).flt = s.flt := rfl
@[simp] theorem State.setChan_obj (s : State) (c : Nat) (x : Chan) (i : Nat) : (s.setChan c x).obj i = s.obj i := rfl
@[simp] theorem State.setChan_fn (s : State) (c : Nat) (x : Chan) (i : Nat) : (s.setChan c x).fn i = s.fn i := rfl
@[simp] theorem State.setChan_ring (s : State) (c : Nat) (x : Chan) (i : Nat) : (s.setChan c x).ring i = s.ring i := rfl
@[simp] theorem State.setChan_pan (s : State) (c : Nat) (x : Chan) (i : Nat) : (s.setChan c x).pan i = s.pan i := rfl
@[simp] theorem State.setChan_hub (s : State) (c : Nat) (x : Chan) (i : Nat) : (s.setChan c x).hub i = s.hub i := rfl
@[simp] theorem State.setChan_rd8 (s : State) (c : Nat) (x : Chan) (i : Nat) : (s.setChan c x).rd8 i = s.rd8 i := rfl
@[simp] theorem State.setChan_order (s : State) (c : Nat) (x : Chan) (i j : Nat) : (s.setChan c x).order? i j = s.order? i j := rfl
@[simp] theorem State.setChan_mod (s : State) (c : Nat) (x : Chan) (i : Nat) : (s.setChan c x).mod i = s.mod i := rfl
@[simp] theorem State.setChan_layer (s : State) (c : Nat) (x : Chan) (i : Nat) : (s.setChan c x).layer i = s.layer i := rfl
@[simp] theorem State.setChan_region (s : State) (c : Nat) (x : Chan) (i : Nat) : (s.setChan c x).region i = s.region i := rfl
@[simp] theorem State.setChan_queue (s : State) (c : Nat) (x : Chan) (i : Nat) : (s.setChan c x).queue i = s.queue i := rfl
@[simp] theorem State.setChan_entryRec (s : State) (c : Nat) (x : Chan) (i : Nat) : (s.setChan c x).entryRec i = s.entryRec i := rfl
@[simp] theorem State.setChan_mbx (s : State) (c : Nat) (x : Chan) (i : Nat) : (s.setChan c x).mbx i = s.mbx i := rfl
@[simp] theorem State.setChan_xfer (s : State) (c : Nat) (x : Chan) (i : Nat) : (s.setChan c x).xfer i = s.xfer i := rfl
@[simp] theorem State.setChan_clientOf (s : State) (c : Nat) (x : Chan) (i : Nat) : (s.setChan c x).clientOf i = s.clientOf i := rfl
@[simp] theorem State.setChan_qd (s : State) (c : Nat) (x : Chan) (i : Nat) : (s.setChan c x).qd i = s.qd i := rfl

@[simp] theorem State.setStock_pending (s : State) (x : Stock) : (s.setStock x).pending = s.pending := rfl
@[simp] theorem State.setStock_out (s : State) (x : Stock) : (s.setStock x).out = s.out := rfl
@[simp] theorem State.setStock_timeUs (s : State) (x : Stock) : (s.setStock x).timeUs = s.timeUs := rfl
@[simp] theorem State.setStock_draws (s : State) (x : Stock) : (s.setStock x).draws = s.draws := rfl
@[simp] theorem State.setStock_mem (s : State) (x : Stock) : (s.setStock x).mem = s.mem := rfl
@[simp] theorem State.setStock_objs (s : State) (x : Stock) : (s.setStock x).objs = s.objs := rfl
@[simp] theorem State.setStock_fns (s : State) (x : Stock) : (s.setStock x).fns = s.fns := rfl
@[simp] theorem State.setStock_ctl (s : State) (x : Stock) : (s.setStock x).ctl = s.ctl := rfl
@[simp] theorem State.setStock_seq (s : State) (x : Stock) : (s.setStock x).seq = s.seq := rfl
@[simp] theorem State.setStock_win (s : State) (x : Stock) : (s.setStock x).win = s.win := rfl
@[simp] theorem State.setStock_pans (s : State) (x : Stock) : (s.setStock x).pans = s.pans := rfl
@[simp] theorem State.setStock_hubs (s : State) (x : Stock) : (s.setStock x).hubs = s.hubs := rfl
@[simp] theorem State.setStock_strm (s : State) (x : Stock) : (s.setStock x).strm = s.strm := rfl
@[simp] theorem State.setStock_chans (s : State) (x : Stock) : (s.setStock x).chans = s.chans := rfl
@[simp] theorem State.setStock_att (s : State) (x : Stock) : (s.setStock x).att = s.att := rfl
@[simp] theorem State.setStock_qds (s : State) (x : Stock) : (s.setStock x).qds = s.qds := rfl
@[simp] theorem State.setStock_weir (s : State) (x : Stock) : (s.setStock x).weir = s.weir := rfl
@[simp] theorem State.setStock_link (s : State) (x : Stock) : (s.setStock x).link = s.link := rfl
@[simp] theorem State.setStock_mgt (s : State) (x : Stock) : (s.setStock x).mgt = s.mgt := rfl
@[simp] theorem State.setStock_cfg (s : State) (x : Stock) : (s.setStock x).cfg = s.cfg := rfl
@[simp] theorem State.setStock_flt (s : State) (x : Stock) : (s.setStock x).flt = s.flt := rfl
@[simp] theorem State.setStock_obj (s : State) (x : Stock) (i : Nat) : (s.setStock x).obj i = s.obj i := rfl
@[simp] theorem State.setStock_fn (s : State) (x : Stock) (i : Nat) : (s.setStock x).fn i = s.fn i := rfl
@[simp] theorem State.setStock_ring (s : State) (x : Stock) (i : Nat) : (s.setStock x).ring i = s.ring i := rfl
@[simp] theorem State.setStock_pan (s : State) (x : Stock) (i : Nat) : (s.setStock x).pan i = s.pan i := rfl
@[simp] theorem State.setStock_hub (s : State) (x : Stock) (i : Nat) : (s.setStock x).hub i = s.hub i := rfl
@[simp] theorem State.setStock_rd8 (s : State) (x : Stock) (i : Nat) : (s.setStock x).rd8 i = s.rd8 i := rfl
@[simp] theorem State.setStock_order (s : State) (x : Stock) (i j : Nat) : (s.setStock x).order? i j = s.order? i j := rfl
@[simp] theorem State.setStock_chan (s : State) (x : Stock) (i : Nat) : (s.setStock x).chan i = s.chan i := rfl
@[simp] theorem State.setStock_mod (s : State) (x : Stock) (i : Nat) : (s.setStock x).mod i = s.mod i := rfl
@[simp] theorem State.setStock_layer (s : State) (x : Stock) (i : Nat) : (s.setStock x).layer i = s.layer i := rfl
@[simp] theorem State.setStock_region (s : State) (x : Stock) (i : Nat) : (s.setStock x).region i = s.region i := rfl
@[simp] theorem State.setStock_queue (s : State) (x : Stock) (i : Nat) : (s.setStock x).queue i = s.queue i := rfl
@[simp] theorem State.setStock_mbx (s : State) (x : Stock) (i : Nat) : (s.setStock x).mbx i = s.mbx i := rfl
@[simp] theorem State.setStock_xfer (s : State) (x : Stock) (i : Nat) : (s.setStock x).xfer i = s.xfer i := rfl
@[simp] theorem State.setStock_clientOf (s : State) (x : Stock) (i : Nat) : (s.setStock x).clientOf i = s.clientOf i := rfl
@[simp] theorem State.setStock_qd (s : State) (x : Stock) (i : Nat) : (s.setStock x).qd i = s.qd i := rfl

@[simp] theorem State.setAtt_pending (s : State) (a : Att) : (s.setAtt a).pending = s.pending := rfl
@[simp] theorem State.setAtt_out (s : State) (a : Att) : (s.setAtt a).out = s.out := rfl
@[simp] theorem State.setAtt_timeUs (s : State) (a : Att) : (s.setAtt a).timeUs = s.timeUs := rfl
@[simp] theorem State.setAtt_draws (s : State) (a : Att) : (s.setAtt a).draws = s.draws := rfl
@[simp] theorem State.setAtt_mem (s : State) (a : Att) : (s.setAtt a).mem = s.mem := rfl
@[simp] theorem State.setAtt_objs (s : State) (a : Att) : (s.setAtt a).objs = s.objs := rfl
@[simp] theorem State.setAtt_fns (s : State) (a : Att) : (s.setAtt a).fns = s.fns := rfl
@[simp] theorem State.setAtt_ctl (s : State) (a : Att) : (s.setAtt a).ctl = s.ctl := rfl
@[simp] theorem State.setAtt_seq (s : State) (a : Att) : (s.setAtt a).seq = s.seq := rfl
@[simp] theorem State.setAtt_win (s : State) (a : Att) : (s.setAtt a).win = s.win := rfl
@[simp] theorem State.setAtt_pans (s : State) (a : Att) : (s.setAtt a).pans = s.pans := rfl
@[simp] theorem State.setAtt_hubs (s : State) (a : Att) : (s.setAtt a).hubs = s.hubs := rfl
@[simp] theorem State.setAtt_strm (s : State) (a : Att) : (s.setAtt a).strm = s.strm := rfl
@[simp] theorem State.setAtt_chans (s : State) (a : Att) : (s.setAtt a).chans = s.chans := rfl
@[simp] theorem State.setAtt_stock (s : State) (a : Att) : (s.setAtt a).stock = s.stock := rfl
@[simp] theorem State.setAtt_qds (s : State) (a : Att) : (s.setAtt a).qds = s.qds := rfl
@[simp] theorem State.setAtt_weir (s : State) (a : Att) : (s.setAtt a).weir = s.weir := rfl
@[simp] theorem State.setAtt_link (s : State) (a : Att) : (s.setAtt a).link = s.link := rfl
@[simp] theorem State.setAtt_mgt (s : State) (a : Att) : (s.setAtt a).mgt = s.mgt := rfl
@[simp] theorem State.setAtt_cfg (s : State) (a : Att) : (s.setAtt a).cfg = s.cfg := rfl
@[simp] theorem State.setAtt_flt (s : State) (a : Att) : (s.setAtt a).flt = s.flt := rfl
@[simp] theorem State.setAtt_obj (s : State) (a : Att) (i : Nat) : (s.setAtt a).obj i = s.obj i := rfl
@[simp] theorem State.setAtt_fn (s : State) (a : Att) (i : Nat) : (s.setAtt a).fn i = s.fn i := rfl
@[simp] theorem State.setAtt_ring (s : State) (a : Att) (i : Nat) : (s.setAtt a).ring i = s.ring i := rfl
@[simp] theorem State.setAtt_pan (s : State) (a : Att) (i : Nat) : (s.setAtt a).pan i = s.pan i := rfl
@[simp] theorem State.setAtt_hub (s : State) (a : Att) (i : Nat) : (s.setAtt a).hub i = s.hub i := rfl
@[simp] theorem State.setAtt_rd8 (s : State) (a : Att) (i : Nat) : (s.setAtt a).rd8 i = s.rd8 i := rfl
@[simp] theorem State.setAtt_order (s : State) (a : Att) (i j : Nat) : (s.setAtt a).order? i j = s.order? i j := rfl
@[simp] theorem State.setAtt_chan (s : State) (a : Att) (i : Nat) : (s.setAtt a).chan i = s.chan i := rfl
@[simp] theorem State.setAtt_mod (s : State) (a : Att) (i : Nat) : (s.setAtt a).mod i = s.mod i := rfl
@[simp] theorem State.setAtt_layer (s : State) (a : Att) (i : Nat) : (s.setAtt a).layer i = s.layer i := rfl
@[simp] theorem State.setAtt_region (s : State) (a : Att) (i : Nat) : (s.setAtt a).region i = s.region i := rfl
@[simp] theorem State.setAtt_queue (s : State) (a : Att) (i : Nat) : (s.setAtt a).queue i = s.queue i := rfl
@[simp] theorem State.setAtt_entryRec (s : State) (a : Att) (i : Nat) : (s.setAtt a).entryRec i = s.entryRec i := rfl
@[simp] theorem State.setAtt_mbx (s : State) (a : Att) (i : Nat) : (s.setAtt a).mbx i = s.mbx i := rfl
@[simp] theorem State.setAtt_xfer (s : State) (a : Att) (i : Nat) : (s.setAtt a).xfer i = s.xfer i := rfl
@[simp] theorem State.setAtt_clientOf (s : State) (a : Att) (i : Nat) : (s.setAtt a).clientOf i = s.clientOf i := rfl
@[simp] theorem State.setAtt_qd (s : State) (a : Att) (i : Nat) : (s.setAtt a).qd i = s.qd i := rfl

@[simp] theorem State.setMgt_pending (s : State) (m : Mgt) : (s.setMgt m).pending = s.pending := rfl
@[simp] theorem State.setMgt_out (s : State) (m : Mgt) : (s.setMgt m).out = s.out := rfl
@[simp] theorem State.setMgt_timeUs (s : State) (m : Mgt) : (s.setMgt m).timeUs = s.timeUs := rfl
@[simp] theorem State.setMgt_draws (s : State) (m : Mgt) : (s.setMgt m).draws = s.draws := rfl
@[simp] theorem State.setMgt_mem (s : State) (m : Mgt) : (s.setMgt m).mem = s.mem := rfl
@[simp] theorem State.setMgt_objs (s : State) (m : Mgt) : (s.setMgt m).objs = s.objs := rfl
@[simp] theorem State.setMgt_fns (s : State) (m : Mgt) : (s.setMgt m).fns = s.fns := rfl
@[simp] theorem State.setMgt_ctl (s : State) (m : Mgt) : (s.setMgt m).ctl = s.ctl := rfl
@[simp] theorem State.setMgt_seq (s : State) (m : Mgt) : (s.setMgt m).seq = s.seq := rfl
@[simp] theorem State.setMgt_win (s : State) (m : Mgt) : (s.setMgt m).win = s.win := rfl
@[simp] theorem State.setMgt_pans (s : State) (m : Mgt) : (s.setMgt m).pans = s.pans := rfl
@[simp] theorem State.setMgt_hubs (s : State) (m : Mgt) : (s.setMgt m).hubs = s.hubs := rfl
@[simp] theorem State.setMgt_strm (s : State) (m : Mgt) : (s.setMgt m).strm = s.strm := rfl
@[simp] theorem State.setMgt_chans (s : State) (m : Mgt) : (s.setMgt m).chans = s.chans := rfl
@[simp] theorem State.setMgt_stock (s : State) (m : Mgt) : (s.setMgt m).stock = s.stock := rfl
@[simp] theorem State.setMgt_att (s : State) (m : Mgt) : (s.setMgt m).att = s.att := rfl
@[simp] theorem State.setMgt_qds (s : State) (m : Mgt) : (s.setMgt m).qds = s.qds := rfl
@[simp] theorem State.setMgt_weir (s : State) (m : Mgt) : (s.setMgt m).weir = s.weir := rfl
@[simp] theorem State.setMgt_link (s : State) (m : Mgt) : (s.setMgt m).link = s.link := rfl
@[simp] theorem State.setMgt_cfg (s : State) (m : Mgt) : (s.setMgt m).cfg = s.cfg := rfl
@[simp] theorem State.setMgt_flt (s : State) (m : Mgt) : (s.setMgt m).flt = s.flt := rfl
@[simp] theorem State.setMgt_obj (s : State) (m : Mgt) (i : Nat) : (s.setMgt m).obj i = s.obj i := rfl
@[simp] theorem State.setMgt_fn (s : State) (m : Mgt) (i : Nat) : (s.setMgt m).fn i = s.fn i := rfl
@[simp] theorem State.setMgt_ring (s : State) (m : Mgt) (i : Nat) : (s.setMgt m).ring i = s.ring i := rfl
@[simp] theorem State.setMgt_pan (s : State) (m : Mgt) (i : Nat) : (s.setMgt m).pan i = s.pan i := rfl
@[simp] theorem State.setMgt_hub (s : State) (m : Mgt) (i : Nat) : (s.setMgt m).hub i = s.hub i := rfl
@[simp] theorem State.setMgt_rd8 (s : State) (m : Mgt) (i : Nat) : (s.setMgt m).rd8 i = s.rd8 i := rfl
@[simp] theorem State.setMgt_order (s : State) (m : Mgt) (i j : Nat) : (s.setMgt m).order? i j = s.order? i j := rfl
@[simp] theorem State.setMgt_chan (s : State) (m : Mgt) (i : Nat) : (s.setMgt m).chan i = s.chan i := rfl
@[simp] theorem State.setMgt_mod (s : State) (m : Mgt) (i : Nat) : (s.setMgt m).mod i = s.mod i := rfl
@[simp] theorem State.setMgt_layer (s : State) (m : Mgt) (i : Nat) : (s.setMgt m).layer i = s.layer i := rfl
@[simp] theorem State.setMgt_region (s : State) (m : Mgt) (i : Nat) : (s.setMgt m).region i = s.region i := rfl
@[simp] theorem State.setMgt_queue (s : State) (m : Mgt) (i : Nat) : (s.setMgt m).queue i = s.queue i := rfl
@[simp] theorem State.setMgt_entryRec (s : State) (m : Mgt) (i : Nat) : (s.setMgt m).entryRec i = s.entryRec i := rfl
@[simp] theorem State.setMgt_qd (s : State) (m : Mgt) (i : Nat) : (s.setMgt m).qd i = s.qd i := rfl

@[simp] theorem State.setMbx_pending (s : State) (c : Nat) (x : Mbx) : (s.setMbx c x).pending = s.pending := rfl
@[simp] theorem State.setMbx_out (s : State) (c : Nat) (x : Mbx) : (s.setMbx c x).out = s.out := rfl
@[simp] theorem State.setMbx_timeUs (s : State) (c : Nat) (x : Mbx) : (s.setMbx c x).timeUs = s.timeUs := rfl
@[simp] theorem State.setMbx_draws (s : State) (c : Nat) (x : Mbx) : (s.setMbx c x).draws = s.draws := rfl
@[simp] theorem State.setMbx_mem (s : State) (c : Nat) (x : Mbx) : (s.setMbx c x).mem = s.mem := rfl
@[simp] theorem State.setMbx_objs (s : State) (c : Nat) (x : Mbx) : (s.setMbx c x).objs = s.objs := rfl
@[simp] theorem State.setMbx_fns (s : State) (c : Nat) (x : Mbx) : (s.setMbx c x).fns = s.fns := rfl
@[simp] theorem State.setMbx_ctl (s : State) (c : Nat) (x : Mbx) : (s.setMbx c x).ctl = s.ctl := rfl
@[simp] theorem State.setMbx_seq (s : State) (c : Nat) (x : Mbx) : (s.setMbx c x).seq = s.seq := rfl
@[simp] theorem State.setMbx_win (s : State) (c : Nat) (x : Mbx) : (s.setMbx c x).win = s.win := rfl
@[simp] theorem State.setMbx_pans (s : State) (c : Nat) (x : Mbx) : (s.setMbx c x).pans = s.pans := rfl
@[simp] theorem State.setMbx_hubs (s : State) (c : Nat) (x : Mbx) : (s.setMbx c x).hubs = s.hubs := rfl
@[simp] theorem State.setMbx_strm (s : State) (c : Nat) (x : Mbx) : (s.setMbx c x).strm = s.strm := rfl
@[simp] theorem State.setMbx_chans (s : State) (c : Nat) (x : Mbx) : (s.setMbx c x).chans = s.chans := rfl
@[simp] theorem State.setMbx_stock (s : State) (c : Nat) (x : Mbx) : (s.setMbx c x).stock = s.stock := rfl
@[simp] theorem State.setMbx_att (s : State) (c : Nat) (x : Mbx) : (s.setMbx c x).att = s.att := rfl
@[simp] theorem State.setMbx_qds (s : State) (c : Nat) (x : Mbx) : (s.setMbx c x).qds = s.qds := rfl
@[simp] theorem State.setMbx_weir (s : State) (c : Nat) (x : Mbx) : (s.setMbx c x).weir = s.weir := rfl
@[simp] theorem State.setMbx_link (s : State) (c : Nat) (x : Mbx) : (s.setMbx c x).link = s.link := rfl
@[simp] theorem State.setMbx_cfg (s : State) (c : Nat) (x : Mbx) : (s.setMbx c x).cfg = s.cfg := rfl
@[simp] theorem State.setMbx_flt (s : State) (c : Nat) (x : Mbx) : (s.setMbx c x).flt = s.flt := rfl
@[simp] theorem State.setMbx_mgt_xfers (s : State) (c : Nat) (x : Mbx) : (s.setMbx c x).mgt.xfers = s.mgt.xfers := rfl
@[simp] theorem State.setMbx_mgt_sessions (s : State) (c : Nat) (x : Mbx) : (s.setMbx c x).mgt.sessions = s.mgt.sessions := rfl
@[simp] theorem State.setMbx_mgt_clients (s : State) (c : Nat) (x : Mbx) : (s.setMbx c x).mgt.clients = s.mgt.clients := rfl
@[simp] theorem State.setMbx_mgt_keys (s : State) (c : Nat) (x : Mbx) : (s.setMbx c x).mgt.keys = s.mgt.keys := rfl
@[simp] theorem State.setMbx_obj (s : State) (c : Nat) (x : Mbx) (i : Nat) : (s.setMbx c x).obj i = s.obj i := rfl
@[simp] theorem State.setMbx_fn (s : State) (c : Nat) (x : Mbx) (i : Nat) : (s.setMbx c x).fn i = s.fn i := rfl
@[simp] theorem State.setMbx_ring (s : State) (c : Nat) (x : Mbx) (i : Nat) : (s.setMbx c x).ring i = s.ring i := rfl
@[simp] theorem State.setMbx_pan (s : State) (c : Nat) (x : Mbx) (i : Nat) : (s.setMbx c x).pan i = s.pan i := rfl
@[simp] theorem State.setMbx_hub (s : State) (c : Nat) (x : Mbx) (i : Nat) : (s.setMbx c x).hub i = s.hub i := rfl
@[simp] theorem State.setMbx_rd8 (s : State) (c : Nat) (x : Mbx) (i : Nat) : (s.setMbx c x).rd8 i = s.rd8 i := rfl
@[simp] theorem State.setMbx_order (s : State) (c : Nat) (x : Mbx) (i j : Nat) : (s.setMbx c x).order? i j = s.order? i j := rfl
@[simp] theorem State.setMbx_chan (s : State) (c : Nat) (x : Mbx) (i : Nat) : (s.setMbx c x).chan i = s.chan i := rfl
@[simp] theorem State.setMbx_mod (s : State) (c : Nat) (x : Mbx) (i : Nat) : (s.setMbx c x).mod i = s.mod i := rfl
@[simp] theorem State.setMbx_layer (s : State) (c : Nat) (x : Mbx) (i : Nat) : (s.setMbx c x).layer i = s.layer i := rfl
@[simp] theorem State.setMbx_region (s : State) (c : Nat) (x : Mbx) (i : Nat) : (s.setMbx c x).region i = s.region i := rfl
@[simp] theorem State.setMbx_queue (s : State) (c : Nat) (x : Mbx) (i : Nat) : (s.setMbx c x).queue i = s.queue i := rfl
@[simp] theorem State.setMbx_entryRec (s : State) (c : Nat) (x : Mbx) (i : Nat) : (s.setMbx c x).entryRec i = s.entryRec i := rfl
@[simp] theorem State.setMbx_xfer (s : State) (c : Nat) (x : Mbx) (i : Nat) : (s.setMbx c x).xfer i = s.xfer i := rfl
@[simp] theorem State.setMbx_clientOf (s : State) (c : Nat) (x : Mbx) (i : Nat) : (s.setMbx c x).clientOf i = s.clientOf i := rfl
@[simp] theorem State.setMbx_qd (s : State) (c : Nat) (x : Mbx) (i : Nat) : (s.setMbx c x).qd i = s.qd i := rfl

@[simp] theorem State.setXfer_pending (s : State) (c : Nat) (x : Option Xfer) : (s.setXfer c x).pending = s.pending := rfl
@[simp] theorem State.setXfer_out (s : State) (c : Nat) (x : Option Xfer) : (s.setXfer c x).out = s.out := rfl
@[simp] theorem State.setXfer_timeUs (s : State) (c : Nat) (x : Option Xfer) : (s.setXfer c x).timeUs = s.timeUs := rfl
@[simp] theorem State.setXfer_draws (s : State) (c : Nat) (x : Option Xfer) : (s.setXfer c x).draws = s.draws := rfl
@[simp] theorem State.setXfer_mem (s : State) (c : Nat) (x : Option Xfer) : (s.setXfer c x).mem = s.mem := rfl
@[simp] theorem State.setXfer_objs (s : State) (c : Nat) (x : Option Xfer) : (s.setXfer c x).objs = s.objs := rfl
@[simp] theorem State.setXfer_fns (s : State) (c : Nat) (x : Option Xfer) : (s.setXfer c x).fns = s.fns := rfl
@[simp] theorem State.setXfer_ctl (s : State) (c : Nat) (x : Option Xfer) : (s.setXfer c x).ctl = s.ctl := rfl
@[simp] theorem State.setXfer_seq (s : State) (c : Nat) (x : Option Xfer) : (s.setXfer c x).seq = s.seq := rfl
@[simp] theorem State.setXfer_win (s : State) (c : Nat) (x : Option Xfer) : (s.setXfer c x).win = s.win := rfl
@[simp] theorem State.setXfer_pans (s : State) (c : Nat) (x : Option Xfer) : (s.setXfer c x).pans = s.pans := rfl
@[simp] theorem State.setXfer_hubs (s : State) (c : Nat) (x : Option Xfer) : (s.setXfer c x).hubs = s.hubs := rfl
@[simp] theorem State.setXfer_strm (s : State) (c : Nat) (x : Option Xfer) : (s.setXfer c x).strm = s.strm := rfl
@[simp] theorem State.setXfer_chans (s : State) (c : Nat) (x : Option Xfer) : (s.setXfer c x).chans = s.chans := rfl
@[simp] theorem State.setXfer_stock (s : State) (c : Nat) (x : Option Xfer) : (s.setXfer c x).stock = s.stock := rfl
@[simp] theorem State.setXfer_att (s : State) (c : Nat) (x : Option Xfer) : (s.setXfer c x).att = s.att := rfl
@[simp] theorem State.setXfer_qds (s : State) (c : Nat) (x : Option Xfer) : (s.setXfer c x).qds = s.qds := rfl
@[simp] theorem State.setXfer_weir (s : State) (c : Nat) (x : Option Xfer) : (s.setXfer c x).weir = s.weir := rfl
@[simp] theorem State.setXfer_link (s : State) (c : Nat) (x : Option Xfer) : (s.setXfer c x).link = s.link := rfl
@[simp] theorem State.setXfer_cfg (s : State) (c : Nat) (x : Option Xfer) : (s.setXfer c x).cfg = s.cfg := rfl
@[simp] theorem State.setXfer_flt (s : State) (c : Nat) (x : Option Xfer) : (s.setXfer c x).flt = s.flt := rfl
@[simp] theorem State.setXfer_mgt_mbx (s : State) (c : Nat) (x : Option Xfer) : (s.setXfer c x).mgt.mbx = s.mgt.mbx := rfl
@[simp] theorem State.setXfer_mgt_sessions (s : State) (c : Nat) (x : Option Xfer) : (s.setXfer c x).mgt.sessions = s.mgt.sessions := rfl
@[simp] theorem State.setXfer_mgt_clients (s : State) (c : Nat) (x : Option Xfer) : (s.setXfer c x).mgt.clients = s.mgt.clients := rfl
@[simp] theorem State.setXfer_mgt_keys (s : State) (c : Nat) (x : Option Xfer) : (s.setXfer c x).mgt.keys = s.mgt.keys := rfl
@[simp] theorem State.setXfer_obj (s : State) (c : Nat) (x : Option Xfer) (i : Nat) : (s.setXfer c x).obj i = s.obj i := rfl
@[simp] theorem State.setXfer_fn (s : State) (c : Nat) (x : Option Xfer) (i : Nat) : (s.setXfer c x).fn i = s.fn i := rfl
@[simp] theorem State.setXfer_ring (s : State) (c : Nat) (x : Option Xfer) (i : Nat) : (s.setXfer c x).ring i = s.ring i := rfl
@[simp] theorem State.setXfer_pan (s : State) (c : Nat) (x : Option Xfer) (i : Nat) : (s.setXfer c x).pan i = s.pan i := rfl
@[simp] theorem State.setXfer_hub (s : State) (c : Nat) (x : Option Xfer) (i : Nat) : (s.setXfer c x).hub i = s.hub i := rfl
@[simp] theorem State.setXfer_rd8 (s : State) (c : Nat) (x : Option Xfer) (i : Nat) : (s.setXfer c x).rd8 i = s.rd8 i := rfl
@[simp] theorem State.setXfer_order (s : State) (c : Nat) (x : Option Xfer) (i j : Nat) : (s.setXfer c x).order? i j = s.order? i j := rfl
@[simp] theorem State.setXfer_chan (s : State) (c : Nat) (x : Option Xfer) (i : Nat) : (s.setXfer c x).chan i = s.chan i := rfl
@[simp] theorem State.setXfer_mod (s : State) (c : Nat) (x : Option Xfer) (i : Nat) : (s.setXfer c x).mod i = s.mod i := rfl
@[simp] theorem State.setXfer_layer (s : State) (c : Nat) (x : Option Xfer) (i : Nat) : (s.setXfer c x).layer i = s.layer i := rfl
@[simp] theorem State.setXfer_region (s : State) (c : Nat) (x : Option Xfer) (i : Nat) : (s.setXfer c x).region i = s.region i := rfl
@[simp] theorem State.setXfer_queue (s : State) (c : Nat) (x : Option Xfer) (i : Nat) : (s.setXfer c x).queue i = s.queue i := rfl
@[simp] theorem State.setXfer_entryRec (s : State) (c : Nat) (x : Option Xfer) (i : Nat) : (s.setXfer c x).entryRec i = s.entryRec i := rfl
@[simp] theorem State.setXfer_mbx (s : State) (c : Nat) (x : Option Xfer) (i : Nat) : (s.setXfer c x).mbx i = s.mbx i := rfl
@[simp] theorem State.setXfer_clientOf (s : State) (c : Nat) (x : Option Xfer) (i : Nat) : (s.setXfer c x).clientOf i = s.clientOf i := rfl
@[simp] theorem State.setXfer_qd (s : State) (c : Nat) (x : Option Xfer) (i : Nat) : (s.setXfer c x).qd i = s.qd i := rfl

@[simp] theorem State.setClient_pending (s : State) (c : Nat) (x : Client) : (s.setClient c x).pending = s.pending := rfl
@[simp] theorem State.setClient_out (s : State) (c : Nat) (x : Client) : (s.setClient c x).out = s.out := rfl
@[simp] theorem State.setClient_timeUs (s : State) (c : Nat) (x : Client) : (s.setClient c x).timeUs = s.timeUs := rfl
@[simp] theorem State.setClient_draws (s : State) (c : Nat) (x : Client) : (s.setClient c x).draws = s.draws := rfl
@[simp] theorem State.setClient_mem (s : State) (c : Nat) (x : Client) : (s.setClient c x).mem = s.mem := rfl
@[simp] theorem State.setClient_objs (s : State) (c : Nat) (x : Client) : (s.setClient c x).objs = s.objs := rfl
@[simp] theorem State.setClient_fns (s : State) (c : Nat) (x : Client) : (s.setClient c x).fns = s.fns := rfl
@[simp] theorem State.setClient_ctl (s : State) (c : Nat) (x : Client) : (s.setClient c x).ctl = s.ctl := rfl
@[simp] theorem State.setClient_seq (s : State) (c : Nat) (x : Client) : (s.setClient c x).seq = s.seq := rfl
@[simp] theorem State.setClient_win (s : State) (c : Nat) (x : Client) : (s.setClient c x).win = s.win := rfl
@[simp] theorem State.setClient_pans (s : State) (c : Nat) (x : Client) : (s.setClient c x).pans = s.pans := rfl
@[simp] theorem State.setClient_hubs (s : State) (c : Nat) (x : Client) : (s.setClient c x).hubs = s.hubs := rfl
@[simp] theorem State.setClient_strm (s : State) (c : Nat) (x : Client) : (s.setClient c x).strm = s.strm := rfl
@[simp] theorem State.setClient_chans (s : State) (c : Nat) (x : Client) : (s.setClient c x).chans = s.chans := rfl
@[simp] theorem State.setClient_stock (s : State) (c : Nat) (x : Client) : (s.setClient c x).stock = s.stock := rfl
@[simp] theorem State.setClient_att (s : State) (c : Nat) (x : Client) : (s.setClient c x).att = s.att := rfl
@[simp] theorem State.setClient_qds (s : State) (c : Nat) (x : Client) : (s.setClient c x).qds = s.qds := rfl
@[simp] theorem State.setClient_weir (s : State) (c : Nat) (x : Client) : (s.setClient c x).weir = s.weir := rfl
@[simp] theorem State.setClient_link (s : State) (c : Nat) (x : Client) : (s.setClient c x).link = s.link := rfl
@[simp] theorem State.setClient_cfg (s : State) (c : Nat) (x : Client) : (s.setClient c x).cfg = s.cfg := rfl
@[simp] theorem State.setClient_flt (s : State) (c : Nat) (x : Client) : (s.setClient c x).flt = s.flt := rfl
@[simp] theorem State.setClient_mgt_mbx (s : State) (c : Nat) (x : Client) : (s.setClient c x).mgt.mbx = s.mgt.mbx := rfl
@[simp] theorem State.setClient_mgt_xfers (s : State) (c : Nat) (x : Client) : (s.setClient c x).mgt.xfers = s.mgt.xfers := rfl
@[simp] theorem State.setClient_mgt_sessions (s : State) (c : Nat) (x : Client) : (s.setClient c x).mgt.sessions = s.mgt.sessions := rfl
@[simp] theorem State.setClient_mgt_keys (s : State) (c : Nat) (x : Client) : (s.setClient c x).mgt.keys = s.mgt.keys := rfl
@[simp] theorem State.setClient_obj (s : State) (c : Nat) (x : Client) (i : Nat) : (s.setClient c x).obj i = s.obj i := rfl
@[simp] theorem State.setClient_fn (s : State) (c : Nat) (x : Client) (i : Nat) : (s.setClient c x).fn i = s.fn i := rfl
@[simp] theorem State.setClient_ring (s : State) (c : Nat) (x : Client) (i : Nat) : (s.setClient c x).ring i = s.ring i := rfl
@[simp] theorem State.setClient_pan (s : State) (c : Nat) (x : Client) (i : Nat) : (s.setClient c x).pan i = s.pan i := rfl
@[simp] theorem State.setClient_hub (s : State) (c : Nat) (x : Client) (i : Nat) : (s.setClient c x).hub i = s.hub i := rfl
@[simp] theorem State.setClient_rd8 (s : State) (c : Nat) (x : Client) (i : Nat) : (s.setClient c x).rd8 i = s.rd8 i := rfl
@[simp] theorem State.setClient_order (s : State) (c : Nat) (x : Client) (i j : Nat) : (s.setClient c x).order? i j = s.order? i j := rfl
@[simp] theorem State.setClient_chan (s : State) (c : Nat) (x : Client) (i : Nat) : (s.setClient c x).chan i = s.chan i := rfl
@[simp] theorem State.setClient_mod (s : State) (c : Nat) (x : Client) (i : Nat) : (s.setClient c x).mod i = s.mod i := rfl
@[simp] theorem State.setClient_layer (s : State) (c : Nat) (x : Client) (i : Nat) : (s.setClient c x).layer i = s.layer i := rfl
@[simp] theorem State.setClient_region (s : State) (c : Nat) (x : Client) (i : Nat) : (s.setClient c x).region i = s.region i := rfl
@[simp] theorem State.setClient_queue (s : State) (c : Nat) (x : Client) (i : Nat) : (s.setClient c x).queue i = s.queue i := rfl
@[simp] theorem State.setClient_entryRec (s : State) (c : Nat) (x : Client) (i : Nat) : (s.setClient c x).entryRec i = s.entryRec i := rfl
@[simp] theorem State.setClient_mbx (s : State) (c : Nat) (x : Client) (i : Nat) : (s.setClient c x).mbx i = s.mbx i := rfl
@[simp] theorem State.setClient_xfer (s : State) (c : Nat) (x : Client) (i : Nat) : (s.setClient c x).xfer i = s.xfer i := rfl
@[simp] theorem State.setClient_qd (s : State) (c : Nat) (x : Client) (i : Nat) : (s.setClient c x).qd i = s.qd i := rfl

@[simp] theorem State.setSession_pending (s : State) (n : Nat) (x : Option Session) : (s.setSession n x).pending = s.pending := rfl
@[simp] theorem State.setSession_out (s : State) (n : Nat) (x : Option Session) : (s.setSession n x).out = s.out := rfl
@[simp] theorem State.setSession_timeUs (s : State) (n : Nat) (x : Option Session) : (s.setSession n x).timeUs = s.timeUs := rfl
@[simp] theorem State.setSession_draws (s : State) (n : Nat) (x : Option Session) : (s.setSession n x).draws = s.draws := rfl
@[simp] theorem State.setSession_mem (s : State) (n : Nat) (x : Option Session) : (s.setSession n x).mem = s.mem := rfl
@[simp] theorem State.setSession_objs (s : State) (n : Nat) (x : Option Session) : (s.setSession n x).objs = s.objs := rfl
@[simp] theorem State.setSession_fns (s : State) (n : Nat) (x : Option Session) : (s.setSession n x).fns = s.fns := rfl
@[simp] theorem State.setSession_ctl (s : State) (n : Nat) (x : Option Session) : (s.setSession n x).ctl = s.ctl := rfl
@[simp] theorem State.setSession_seq (s : State) (n : Nat) (x : Option Session) : (s.setSession n x).seq = s.seq := rfl
@[simp] theorem State.setSession_win (s : State) (n : Nat) (x : Option Session) : (s.setSession n x).win = s.win := rfl
@[simp] theorem State.setSession_pans (s : State) (n : Nat) (x : Option Session) : (s.setSession n x).pans = s.pans := rfl
@[simp] theorem State.setSession_hubs (s : State) (n : Nat) (x : Option Session) : (s.setSession n x).hubs = s.hubs := rfl
@[simp] theorem State.setSession_strm (s : State) (n : Nat) (x : Option Session) : (s.setSession n x).strm = s.strm := rfl
@[simp] theorem State.setSession_chans (s : State) (n : Nat) (x : Option Session) : (s.setSession n x).chans = s.chans := rfl
@[simp] theorem State.setSession_stock (s : State) (n : Nat) (x : Option Session) : (s.setSession n x).stock = s.stock := rfl
@[simp] theorem State.setSession_att (s : State) (n : Nat) (x : Option Session) : (s.setSession n x).att = s.att := rfl
@[simp] theorem State.setSession_qds (s : State) (n : Nat) (x : Option Session) : (s.setSession n x).qds = s.qds := rfl
@[simp] theorem State.setSession_weir (s : State) (n : Nat) (x : Option Session) : (s.setSession n x).weir = s.weir := rfl
@[simp] theorem State.setSession_link (s : State) (n : Nat) (x : Option Session) : (s.setSession n x).link = s.link := rfl
@[simp] theorem State.setSession_cfg (s : State) (n : Nat) (x : Option Session) : (s.setSession n x).cfg = s.cfg := rfl
@[simp] theorem State.setSession_flt (s : State) (n : Nat) (x : Option Session) : (s.setSession n x).flt = s.flt := rfl
@[simp] theorem State.setSession_mgt_mbx (s : State) (n : Nat) (x : Option Session) : (s.setSession n x).mgt.mbx = s.mgt.mbx := rfl
@[simp] theorem State.setSession_mgt_xfers (s : State) (n : Nat) (x : Option Session) : (s.setSession n x).mgt.xfers = s.mgt.xfers := rfl
@[simp] theorem State.setSession_mgt_clients (s : State) (n : Nat) (x : Option Session) : (s.setSession n x).mgt.clients = s.mgt.clients := rfl
@[simp] theorem State.setSession_mgt_keys (s : State) (n : Nat) (x : Option Session) : (s.setSession n x).mgt.keys = s.mgt.keys := rfl
@[simp] theorem State.setSession_obj (s : State) (n : Nat) (x : Option Session) (i : Nat) : (s.setSession n x).obj i = s.obj i := rfl
@[simp] theorem State.setSession_fn (s : State) (n : Nat) (x : Option Session) (i : Nat) : (s.setSession n x).fn i = s.fn i := rfl
@[simp] theorem State.setSession_ring (s : State) (n : Nat) (x : Option Session) (i : Nat) : (s.setSession n x).ring i = s.ring i := rfl
@[simp] theorem State.setSession_pan (s : State) (n : Nat) (x : Option Session) (i : Nat) : (s.setSession n x).pan i = s.pan i := rfl
@[simp] theorem State.setSession_hub (s : State) (n : Nat) (x : Option Session) (i : Nat) : (s.setSession n x).hub i = s.hub i := rfl
@[simp] theorem State.setSession_rd8 (s : State) (n : Nat) (x : Option Session) (i : Nat) : (s.setSession n x).rd8 i = s.rd8 i := rfl
@[simp] theorem State.setSession_order (s : State) (n : Nat) (x : Option Session) (i j : Nat) : (s.setSession n x).order? i j = s.order? i j := rfl
@[simp] theorem State.setSession_chan (s : State) (n : Nat) (x : Option Session) (i : Nat) : (s.setSession n x).chan i = s.chan i := rfl
@[simp] theorem State.setSession_mod (s : State) (n : Nat) (x : Option Session) (i : Nat) : (s.setSession n x).mod i = s.mod i := rfl
@[simp] theorem State.setSession_layer (s : State) (n : Nat) (x : Option Session) (i : Nat) : (s.setSession n x).layer i = s.layer i := rfl
@[simp] theorem State.setSession_region (s : State) (n : Nat) (x : Option Session) (i : Nat) : (s.setSession n x).region i = s.region i := rfl
@[simp] theorem State.setSession_queue (s : State) (n : Nat) (x : Option Session) (i : Nat) : (s.setSession n x).queue i = s.queue i := rfl
@[simp] theorem State.setSession_entryRec (s : State) (n : Nat) (x : Option Session) (i : Nat) : (s.setSession n x).entryRec i = s.entryRec i := rfl
@[simp] theorem State.setSession_mbx (s : State) (n : Nat) (x : Option Session) (i : Nat) : (s.setSession n x).mbx i = s.mbx i := rfl
@[simp] theorem State.setSession_xfer (s : State) (n : Nat) (x : Option Session) (i : Nat) : (s.setSession n x).xfer i = s.xfer i := rfl
@[simp] theorem State.setSession_clientOf (s : State) (n : Nat) (x : Option Session) (i : Nat) : (s.setSession n x).clientOf i = s.clientOf i := rfl
@[simp] theorem State.setSession_qd (s : State) (n : Nat) (x : Option Session) (i : Nat) : (s.setSession n x).qd i = s.qd i := rfl

@[simp] theorem State.setMod_pending (s : State) (m : Nat) (x : Mod) : (s.setMod m x).pending = s.pending := rfl
@[simp] theorem State.setMod_out (s : State) (m : Nat) (x : Mod) : (s.setMod m x).out = s.out := rfl
@[simp] theorem State.setMod_timeUs (s : State) (m : Nat) (x : Mod) : (s.setMod m x).timeUs = s.timeUs := rfl
@[simp] theorem State.setMod_draws (s : State) (m : Nat) (x : Mod) : (s.setMod m x).draws = s.draws := rfl
@[simp] theorem State.setMod_mem (s : State) (m : Nat) (x : Mod) : (s.setMod m x).mem = s.mem := rfl
@[simp] theorem State.setMod_objs (s : State) (m : Nat) (x : Mod) : (s.setMod m x).objs = s.objs := rfl
@[simp] theorem State.setMod_fns (s : State) (m : Nat) (x : Mod) : (s.setMod m x).fns = s.fns := rfl
@[simp] theorem State.setMod_ctl (s : State) (m : Nat) (x : Mod) : (s.setMod m x).ctl = s.ctl := rfl
@[simp] theorem State.setMod_seq (s : State) (m : Nat) (x : Mod) : (s.setMod m x).seq = s.seq := rfl
@[simp] theorem State.setMod_win (s : State) (m : Nat) (x : Mod) : (s.setMod m x).win = s.win := rfl
@[simp] theorem State.setMod_pans (s : State) (m : Nat) (x : Mod) : (s.setMod m x).pans = s.pans := rfl
@[simp] theorem State.setMod_hubs (s : State) (m : Nat) (x : Mod) : (s.setMod m x).hubs = s.hubs := rfl
@[simp] theorem State.setMod_strm (s : State) (m : Nat) (x : Mod) : (s.setMod m x).strm = s.strm := rfl
@[simp] theorem State.setMod_chans (s : State) (m : Nat) (x : Mod) : (s.setMod m x).chans = s.chans := rfl
@[simp] theorem State.setMod_stock (s : State) (m : Nat) (x : Mod) : (s.setMod m x).stock = s.stock := rfl
@[simp] theorem State.setMod_att (s : State) (m : Nat) (x : Mod) : (s.setMod m x).att = s.att := rfl
@[simp] theorem State.setMod_qds (s : State) (m : Nat) (x : Mod) : (s.setMod m x).qds = s.qds := rfl
@[simp] theorem State.setMod_weir (s : State) (m : Nat) (x : Mod) : (s.setMod m x).weir = s.weir := rfl
@[simp] theorem State.setMod_mgt (s : State) (m : Nat) (x : Mod) : (s.setMod m x).mgt = s.mgt := rfl
@[simp] theorem State.setMod_cfg (s : State) (m : Nat) (x : Mod) : (s.setMod m x).cfg = s.cfg := rfl
@[simp] theorem State.setMod_flt (s : State) (m : Nat) (x : Mod) : (s.setMod m x).flt = s.flt := rfl
@[simp] theorem State.setMod_link_links (s : State) (m : Nat) (x : Mod) : (s.setMod m x).link.links = s.link.links := rfl
@[simp] theorem State.setMod_obj (s : State) (m : Nat) (x : Mod) (i : Nat) : (s.setMod m x).obj i = s.obj i := rfl
@[simp] theorem State.setMod_fn (s : State) (m : Nat) (x : Mod) (i : Nat) : (s.setMod m x).fn i = s.fn i := rfl
@[simp] theorem State.setMod_ring (s : State) (m : Nat) (x : Mod) (i : Nat) : (s.setMod m x).ring i = s.ring i := rfl
@[simp] theorem State.setMod_pan (s : State) (m : Nat) (x : Mod) (i : Nat) : (s.setMod m x).pan i = s.pan i := rfl
@[simp] theorem State.setMod_hub (s : State) (m : Nat) (x : Mod) (i : Nat) : (s.setMod m x).hub i = s.hub i := rfl
@[simp] theorem State.setMod_rd8 (s : State) (m : Nat) (x : Mod) (i : Nat) : (s.setMod m x).rd8 i = s.rd8 i := rfl
@[simp] theorem State.setMod_order (s : State) (m : Nat) (x : Mod) (i j : Nat) : (s.setMod m x).order? i j = s.order? i j := rfl
@[simp] theorem State.setMod_chan (s : State) (m : Nat) (x : Mod) (i : Nat) : (s.setMod m x).chan i = s.chan i := rfl
@[simp] theorem State.setMod_layer (s : State) (m : Nat) (x : Mod) (i : Nat) : (s.setMod m x).layer i = s.layer i := rfl
@[simp] theorem State.setMod_region (s : State) (m : Nat) (x : Mod) (i : Nat) : (s.setMod m x).region i = s.region i := rfl
@[simp] theorem State.setMod_queue (s : State) (m : Nat) (x : Mod) (i : Nat) : (s.setMod m x).queue i = s.queue i := rfl
@[simp] theorem State.setMod_entryRec (s : State) (m : Nat) (x : Mod) (i : Nat) : (s.setMod m x).entryRec i = s.entryRec i := rfl
@[simp] theorem State.setMod_mbx (s : State) (m : Nat) (x : Mod) (i : Nat) : (s.setMod m x).mbx i = s.mbx i := rfl
@[simp] theorem State.setMod_xfer (s : State) (m : Nat) (x : Mod) (i : Nat) : (s.setMod m x).xfer i = s.xfer i := rfl
@[simp] theorem State.setMod_clientOf (s : State) (m : Nat) (x : Mod) (i : Nat) : (s.setMod m x).clientOf i = s.clientOf i := rfl
@[simp] theorem State.setMod_qd (s : State) (m : Nat) (x : Mod) (i : Nat) : (s.setMod m x).qd i = s.qd i := rfl

@[simp] theorem State.setLink_pending (s : State) (k n : Nat) : (s.setLink k n).pending = s.pending := rfl
@[simp] theorem State.setLink_out (s : State) (k n : Nat) : (s.setLink k n).out = s.out := rfl
@[simp] theorem State.setLink_timeUs (s : State) (k n : Nat) : (s.setLink k n).timeUs = s.timeUs := rfl
@[simp] theorem State.setLink_draws (s : State) (k n : Nat) : (s.setLink k n).draws = s.draws := rfl
@[simp] theorem State.setLink_mem (s : State) (k n : Nat) : (s.setLink k n).mem = s.mem := rfl
@[simp] theorem State.setLink_objs (s : State) (k n : Nat) : (s.setLink k n).objs = s.objs := rfl
@[simp] theorem State.setLink_fns (s : State) (k n : Nat) : (s.setLink k n).fns = s.fns := rfl
@[simp] theorem State.setLink_ctl (s : State) (k n : Nat) : (s.setLink k n).ctl = s.ctl := rfl
@[simp] theorem State.setLink_seq (s : State) (k n : Nat) : (s.setLink k n).seq = s.seq := rfl
@[simp] theorem State.setLink_win (s : State) (k n : Nat) : (s.setLink k n).win = s.win := rfl
@[simp] theorem State.setLink_pans (s : State) (k n : Nat) : (s.setLink k n).pans = s.pans := rfl
@[simp] theorem State.setLink_hubs (s : State) (k n : Nat) : (s.setLink k n).hubs = s.hubs := rfl
@[simp] theorem State.setLink_strm (s : State) (k n : Nat) : (s.setLink k n).strm = s.strm := rfl
@[simp] theorem State.setLink_chans (s : State) (k n : Nat) : (s.setLink k n).chans = s.chans := rfl
@[simp] theorem State.setLink_stock (s : State) (k n : Nat) : (s.setLink k n).stock = s.stock := rfl
@[simp] theorem State.setLink_att (s : State) (k n : Nat) : (s.setLink k n).att = s.att := rfl
@[simp] theorem State.setLink_qds (s : State) (k n : Nat) : (s.setLink k n).qds = s.qds := rfl
@[simp] theorem State.setLink_weir (s : State) (k n : Nat) : (s.setLink k n).weir = s.weir := rfl
@[simp] theorem State.setLink_mgt (s : State) (k n : Nat) : (s.setLink k n).mgt = s.mgt := rfl
@[simp] theorem State.setLink_cfg (s : State) (k n : Nat) : (s.setLink k n).cfg = s.cfg := rfl
@[simp] theorem State.setLink_flt (s : State) (k n : Nat) : (s.setLink k n).flt = s.flt := rfl
@[simp] theorem State.setLink_link_mods (s : State) (k n : Nat) : (s.setLink k n).link.mods = s.link.mods := rfl
@[simp] theorem State.setLink_obj (s : State) (k n : Nat) (i : Nat) : (s.setLink k n).obj i = s.obj i := rfl
@[simp] theorem State.setLink_fn (s : State) (k n : Nat) (i : Nat) : (s.setLink k n).fn i = s.fn i := rfl
@[simp] theorem State.setLink_ring (s : State) (k n : Nat) (i : Nat) : (s.setLink k n).ring i = s.ring i := rfl
@[simp] theorem State.setLink_pan (s : State) (k n : Nat) (i : Nat) : (s.setLink k n).pan i = s.pan i := rfl
@[simp] theorem State.setLink_hub (s : State) (k n : Nat) (i : Nat) : (s.setLink k n).hub i = s.hub i := rfl
@[simp] theorem State.setLink_rd8 (s : State) (k n : Nat) (i : Nat) : (s.setLink k n).rd8 i = s.rd8 i := rfl
@[simp] theorem State.setLink_order (s : State) (k n : Nat) (i j : Nat) : (s.setLink k n).order? i j = s.order? i j := rfl
@[simp] theorem State.setLink_chan (s : State) (k n : Nat) (i : Nat) : (s.setLink k n).chan i = s.chan i := rfl
@[simp] theorem State.setLink_mod (s : State) (k n : Nat) (i : Nat) : (s.setLink k n).mod i = s.mod i := rfl
@[simp] theorem State.setLink_layer (s : State) (k n : Nat) (i : Nat) : (s.setLink k n).layer i = s.layer i := rfl
@[simp] theorem State.setLink_region (s : State) (k n : Nat) (i : Nat) : (s.setLink k n).region i = s.region i := rfl
@[simp] theorem State.setLink_queue (s : State) (k n : Nat) (i : Nat) : (s.setLink k n).queue i = s.queue i := rfl
@[simp] theorem State.setLink_entryRec (s : State) (k n : Nat) (i : Nat) : (s.setLink k n).entryRec i = s.entryRec i := rfl
@[simp] theorem State.setLink_mbx (s : State) (k n : Nat) (i : Nat) : (s.setLink k n).mbx i = s.mbx i := rfl
@[simp] theorem State.setLink_xfer (s : State) (k n : Nat) (i : Nat) : (s.setLink k n).xfer i = s.xfer i := rfl
@[simp] theorem State.setLink_clientOf (s : State) (k n : Nat) (i : Nat) : (s.setLink k n).clientOf i = s.clientOf i := rfl
@[simp] theorem State.setLink_qd (s : State) (k n : Nat) (i : Nat) : (s.setLink k n).qd i = s.qd i := rfl

@[simp] theorem State.setRegion_pending (s : State) (n : Nat) (x : Region) : (s.setRegion n x).pending = s.pending := rfl
@[simp] theorem State.setRegion_out (s : State) (n : Nat) (x : Region) : (s.setRegion n x).out = s.out := rfl
@[simp] theorem State.setRegion_timeUs (s : State) (n : Nat) (x : Region) : (s.setRegion n x).timeUs = s.timeUs := rfl
@[simp] theorem State.setRegion_draws (s : State) (n : Nat) (x : Region) : (s.setRegion n x).draws = s.draws := rfl
@[simp] theorem State.setRegion_mem (s : State) (n : Nat) (x : Region) : (s.setRegion n x).mem = s.mem := rfl
@[simp] theorem State.setRegion_objs (s : State) (n : Nat) (x : Region) : (s.setRegion n x).objs = s.objs := rfl
@[simp] theorem State.setRegion_fns (s : State) (n : Nat) (x : Region) : (s.setRegion n x).fns = s.fns := rfl
@[simp] theorem State.setRegion_ctl (s : State) (n : Nat) (x : Region) : (s.setRegion n x).ctl = s.ctl := rfl
@[simp] theorem State.setRegion_seq (s : State) (n : Nat) (x : Region) : (s.setRegion n x).seq = s.seq := rfl
@[simp] theorem State.setRegion_pans (s : State) (n : Nat) (x : Region) : (s.setRegion n x).pans = s.pans := rfl
@[simp] theorem State.setRegion_hubs (s : State) (n : Nat) (x : Region) : (s.setRegion n x).hubs = s.hubs := rfl
@[simp] theorem State.setRegion_strm (s : State) (n : Nat) (x : Region) : (s.setRegion n x).strm = s.strm := rfl
@[simp] theorem State.setRegion_chans (s : State) (n : Nat) (x : Region) : (s.setRegion n x).chans = s.chans := rfl
@[simp] theorem State.setRegion_stock (s : State) (n : Nat) (x : Region) : (s.setRegion n x).stock = s.stock := rfl
@[simp] theorem State.setRegion_att (s : State) (n : Nat) (x : Region) : (s.setRegion n x).att = s.att := rfl
@[simp] theorem State.setRegion_qds (s : State) (n : Nat) (x : Region) : (s.setRegion n x).qds = s.qds := rfl
@[simp] theorem State.setRegion_weir (s : State) (n : Nat) (x : Region) : (s.setRegion n x).weir = s.weir := rfl
@[simp] theorem State.setRegion_link (s : State) (n : Nat) (x : Region) : (s.setRegion n x).link = s.link := rfl
@[simp] theorem State.setRegion_mgt (s : State) (n : Nat) (x : Region) : (s.setRegion n x).mgt = s.mgt := rfl
@[simp] theorem State.setRegion_cfg (s : State) (n : Nat) (x : Region) : (s.setRegion n x).cfg = s.cfg := rfl
@[simp] theorem State.setRegion_flt (s : State) (n : Nat) (x : Region) : (s.setRegion n x).flt = s.flt := rfl
@[simp] theorem State.setRegion_win_frames (s : State) (n : Nat) (x : Region) : (s.setRegion n x).win.frames = s.win.frames := rfl
@[simp] theorem State.setRegion_win_stamp (s : State) (n : Nat) (x : Region) : (s.setRegion n x).win.stamp = s.win.stamp := rfl
@[simp] theorem State.setRegion_win_promos (s : State) (n : Nat) (x : Region) : (s.setRegion n x).win.promos = s.win.promos := rfl
@[simp] theorem State.setRegion_obj (s : State) (n : Nat) (x : Region) (i : Nat) : (s.setRegion n x).obj i = s.obj i := rfl
@[simp] theorem State.setRegion_fn (s : State) (n : Nat) (x : Region) (i : Nat) : (s.setRegion n x).fn i = s.fn i := rfl
@[simp] theorem State.setRegion_ring (s : State) (n : Nat) (x : Region) (i : Nat) : (s.setRegion n x).ring i = s.ring i := rfl
@[simp] theorem State.setRegion_pan (s : State) (n : Nat) (x : Region) (i : Nat) : (s.setRegion n x).pan i = s.pan i := rfl
@[simp] theorem State.setRegion_hub (s : State) (n : Nat) (x : Region) (i : Nat) : (s.setRegion n x).hub i = s.hub i := rfl
@[simp] theorem State.setRegion_rd8 (s : State) (n : Nat) (x : Region) (i : Nat) : (s.setRegion n x).rd8 i = s.rd8 i := rfl
@[simp] theorem State.setRegion_order (s : State) (n : Nat) (x : Region) (i j : Nat) : (s.setRegion n x).order? i j = s.order? i j := rfl
@[simp] theorem State.setRegion_chan (s : State) (n : Nat) (x : Region) (i : Nat) : (s.setRegion n x).chan i = s.chan i := rfl
@[simp] theorem State.setRegion_mod (s : State) (n : Nat) (x : Region) (i : Nat) : (s.setRegion n x).mod i = s.mod i := rfl
@[simp] theorem State.setRegion_layer (s : State) (n : Nat) (x : Region) (i : Nat) : (s.setRegion n x).layer i = s.layer i := rfl
@[simp] theorem State.setRegion_queue (s : State) (n : Nat) (x : Region) (i : Nat) : (s.setRegion n x).queue i = s.queue i := rfl
@[simp] theorem State.setRegion_entryRec (s : State) (n : Nat) (x : Region) (i : Nat) : (s.setRegion n x).entryRec i = s.entryRec i := rfl
@[simp] theorem State.setRegion_mbx (s : State) (n : Nat) (x : Region) (i : Nat) : (s.setRegion n x).mbx i = s.mbx i := rfl
@[simp] theorem State.setRegion_xfer (s : State) (n : Nat) (x : Region) (i : Nat) : (s.setRegion n x).xfer i = s.xfer i := rfl
@[simp] theorem State.setRegion_clientOf (s : State) (n : Nat) (x : Region) (i : Nat) : (s.setRegion n x).clientOf i = s.clientOf i := rfl
@[simp] theorem State.setRegion_qd (s : State) (n : Nat) (x : Region) (i : Nat) : (s.setRegion n x).qd i = s.qd i := rfl

@[simp] theorem State.setFrames_pending (s : State) (f : FMap Frame) : (s.setFrames f).pending = s.pending := rfl
@[simp] theorem State.setFrames_out (s : State) (f : FMap Frame) : (s.setFrames f).out = s.out := rfl
@[simp] theorem State.setFrames_timeUs (s : State) (f : FMap Frame) : (s.setFrames f).timeUs = s.timeUs := rfl
@[simp] theorem State.setFrames_draws (s : State) (f : FMap Frame) : (s.setFrames f).draws = s.draws := rfl
@[simp] theorem State.setFrames_mem (s : State) (f : FMap Frame) : (s.setFrames f).mem = s.mem := rfl
@[simp] theorem State.setFrames_objs (s : State) (f : FMap Frame) : (s.setFrames f).objs = s.objs := rfl
@[simp] theorem State.setFrames_fns (s : State) (f : FMap Frame) : (s.setFrames f).fns = s.fns := rfl
@[simp] theorem State.setFrames_ctl (s : State) (f : FMap Frame) : (s.setFrames f).ctl = s.ctl := rfl
@[simp] theorem State.setFrames_seq (s : State) (f : FMap Frame) : (s.setFrames f).seq = s.seq := rfl
@[simp] theorem State.setFrames_pans (s : State) (f : FMap Frame) : (s.setFrames f).pans = s.pans := rfl
@[simp] theorem State.setFrames_hubs (s : State) (f : FMap Frame) : (s.setFrames f).hubs = s.hubs := rfl
@[simp] theorem State.setFrames_strm (s : State) (f : FMap Frame) : (s.setFrames f).strm = s.strm := rfl
@[simp] theorem State.setFrames_chans (s : State) (f : FMap Frame) : (s.setFrames f).chans = s.chans := rfl
@[simp] theorem State.setFrames_stock (s : State) (f : FMap Frame) : (s.setFrames f).stock = s.stock := rfl
@[simp] theorem State.setFrames_att (s : State) (f : FMap Frame) : (s.setFrames f).att = s.att := rfl
@[simp] theorem State.setFrames_qds (s : State) (f : FMap Frame) : (s.setFrames f).qds = s.qds := rfl
@[simp] theorem State.setFrames_weir (s : State) (f : FMap Frame) : (s.setFrames f).weir = s.weir := rfl
@[simp] theorem State.setFrames_link (s : State) (f : FMap Frame) : (s.setFrames f).link = s.link := rfl
@[simp] theorem State.setFrames_mgt (s : State) (f : FMap Frame) : (s.setFrames f).mgt = s.mgt := rfl
@[simp] theorem State.setFrames_cfg (s : State) (f : FMap Frame) : (s.setFrames f).cfg = s.cfg := rfl
@[simp] theorem State.setFrames_flt (s : State) (f : FMap Frame) : (s.setFrames f).flt = s.flt := rfl
@[simp] theorem State.setFrames_win_regions (s : State) (f : FMap Frame) : (s.setFrames f).win.regions = s.win.regions := rfl
@[simp] theorem State.setFrames_win_stamp (s : State) (f : FMap Frame) : (s.setFrames f).win.stamp = s.win.stamp := rfl
@[simp] theorem State.setFrames_win_promos (s : State) (f : FMap Frame) : (s.setFrames f).win.promos = s.win.promos := rfl
@[simp] theorem State.setFrames_obj (s : State) (f : FMap Frame) (i : Nat) : (s.setFrames f).obj i = s.obj i := rfl
@[simp] theorem State.setFrames_fn (s : State) (f : FMap Frame) (i : Nat) : (s.setFrames f).fn i = s.fn i := rfl
@[simp] theorem State.setFrames_ring (s : State) (f : FMap Frame) (i : Nat) : (s.setFrames f).ring i = s.ring i := rfl
@[simp] theorem State.setFrames_pan (s : State) (f : FMap Frame) (i : Nat) : (s.setFrames f).pan i = s.pan i := rfl
@[simp] theorem State.setFrames_hub (s : State) (f : FMap Frame) (i : Nat) : (s.setFrames f).hub i = s.hub i := rfl
@[simp] theorem State.setFrames_rd8 (s : State) (f : FMap Frame) (i : Nat) : (s.setFrames f).rd8 i = s.rd8 i := rfl
@[simp] theorem State.setFrames_order (s : State) (f : FMap Frame) (i j : Nat) : (s.setFrames f).order? i j = s.order? i j := rfl
@[simp] theorem State.setFrames_chan (s : State) (f : FMap Frame) (i : Nat) : (s.setFrames f).chan i = s.chan i := rfl
@[simp] theorem State.setFrames_mod (s : State) (f : FMap Frame) (i : Nat) : (s.setFrames f).mod i = s.mod i := rfl
@[simp] theorem State.setFrames_layer (s : State) (f : FMap Frame) (i : Nat) : (s.setFrames f).layer i = s.layer i := rfl
@[simp] theorem State.setFrames_region (s : State) (f : FMap Frame) (i : Nat) : (s.setFrames f).region i = s.region i := rfl
@[simp] theorem State.setFrames_queue (s : State) (f : FMap Frame) (i : Nat) : (s.setFrames f).queue i = s.queue i := rfl
@[simp] theorem State.setFrames_entryRec (s : State) (f : FMap Frame) (i : Nat) : (s.setFrames f).entryRec i = s.entryRec i := rfl
@[simp] theorem State.setFrames_mbx (s : State) (f : FMap Frame) (i : Nat) : (s.setFrames f).mbx i = s.mbx i := rfl
@[simp] theorem State.setFrames_xfer (s : State) (f : FMap Frame) (i : Nat) : (s.setFrames f).xfer i = s.xfer i := rfl
@[simp] theorem State.setFrames_clientOf (s : State) (f : FMap Frame) (i : Nat) : (s.setFrames f).clientOf i = s.clientOf i := rfl
@[simp] theorem State.setFrames_qd (s : State) (f : FMap Frame) (i : Nat) : (s.setFrames f).qd i = s.qd i := rfl

@[simp] theorem State.setSnap_pending (s : State) (x : Snap) : (s.setSnap x).pending = s.pending := rfl
@[simp] theorem State.setSnap_out (s : State) (x : Snap) : (s.setSnap x).out = s.out := rfl
@[simp] theorem State.setSnap_timeUs (s : State) (x : Snap) : (s.setSnap x).timeUs = s.timeUs := rfl
@[simp] theorem State.setSnap_draws (s : State) (x : Snap) : (s.setSnap x).draws = s.draws := rfl
@[simp] theorem State.setSnap_mem (s : State) (x : Snap) : (s.setSnap x).mem = s.mem := rfl
@[simp] theorem State.setSnap_objs (s : State) (x : Snap) : (s.setSnap x).objs = s.objs := rfl
@[simp] theorem State.setSnap_fns (s : State) (x : Snap) : (s.setSnap x).fns = s.fns := rfl
@[simp] theorem State.setSnap_ctl (s : State) (x : Snap) : (s.setSnap x).ctl = s.ctl := rfl
@[simp] theorem State.setSnap_seq (s : State) (x : Snap) : (s.setSnap x).seq = s.seq := rfl
@[simp] theorem State.setSnap_win (s : State) (x : Snap) : (s.setSnap x).win = s.win := rfl
@[simp] theorem State.setSnap_pans (s : State) (x : Snap) : (s.setSnap x).pans = s.pans := rfl
@[simp] theorem State.setSnap_hubs (s : State) (x : Snap) : (s.setSnap x).hubs = s.hubs := rfl
@[simp] theorem State.setSnap_strm (s : State) (x : Snap) : (s.setSnap x).strm = s.strm := rfl
@[simp] theorem State.setSnap_chans (s : State) (x : Snap) : (s.setSnap x).chans = s.chans := rfl
@[simp] theorem State.setSnap_stock (s : State) (x : Snap) : (s.setSnap x).stock = s.stock := rfl
@[simp] theorem State.setSnap_att (s : State) (x : Snap) : (s.setSnap x).att = s.att := rfl
@[simp] theorem State.setSnap_qds (s : State) (x : Snap) : (s.setSnap x).qds = s.qds := rfl
@[simp] theorem State.setSnap_weir (s : State) (x : Snap) : (s.setSnap x).weir = s.weir := rfl
@[simp] theorem State.setSnap_link (s : State) (x : Snap) : (s.setSnap x).link = s.link := rfl
@[simp] theorem State.setSnap_mgt (s : State) (x : Snap) : (s.setSnap x).mgt = s.mgt := rfl
@[simp] theorem State.setSnap_flt (s : State) (x : Snap) : (s.setSnap x).flt = s.flt := rfl
@[simp] theorem State.setSnap_cfg_flash (s : State) (x : Snap) : (s.setSnap x).cfg.flash = s.cfg.flash := rfl
@[simp] theorem State.setSnap_cfg_commit (s : State) (x : Snap) : (s.setSnap x).cfg.commit = s.cfg.commit := rfl
@[simp] theorem State.setSnap_obj (s : State) (x : Snap) (i : Nat) : (s.setSnap x).obj i = s.obj i := rfl
@[simp] theorem State.setSnap_fn (s : State) (x : Snap) (i : Nat) : (s.setSnap x).fn i = s.fn i := rfl
@[simp] theorem State.setSnap_ring (s : State) (x : Snap) (i : Nat) : (s.setSnap x).ring i = s.ring i := rfl
@[simp] theorem State.setSnap_pan (s : State) (x : Snap) (i : Nat) : (s.setSnap x).pan i = s.pan i := rfl
@[simp] theorem State.setSnap_hub (s : State) (x : Snap) (i : Nat) : (s.setSnap x).hub i = s.hub i := rfl
@[simp] theorem State.setSnap_rd8 (s : State) (x : Snap) (i : Nat) : (s.setSnap x).rd8 i = s.rd8 i := rfl
@[simp] theorem State.setSnap_order (s : State) (x : Snap) (i j : Nat) : (s.setSnap x).order? i j = s.order? i j := rfl
@[simp] theorem State.setSnap_chan (s : State) (x : Snap) (i : Nat) : (s.setSnap x).chan i = s.chan i := rfl
@[simp] theorem State.setSnap_mod (s : State) (x : Snap) (i : Nat) : (s.setSnap x).mod i = s.mod i := rfl
@[simp] theorem State.setSnap_layer (s : State) (x : Snap) (i : Nat) : (s.setSnap x).layer i = s.layer i := rfl
@[simp] theorem State.setSnap_region (s : State) (x : Snap) (i : Nat) : (s.setSnap x).region i = s.region i := rfl
@[simp] theorem State.setSnap_queue (s : State) (x : Snap) (i : Nat) : (s.setSnap x).queue i = s.queue i := rfl
@[simp] theorem State.setSnap_entryRec (s : State) (x : Snap) (i : Nat) : (s.setSnap x).entryRec i = s.entryRec i := rfl
@[simp] theorem State.setSnap_mbx (s : State) (x : Snap) (i : Nat) : (s.setSnap x).mbx i = s.mbx i := rfl
@[simp] theorem State.setSnap_xfer (s : State) (x : Snap) (i : Nat) : (s.setSnap x).xfer i = s.xfer i := rfl
@[simp] theorem State.setSnap_clientOf (s : State) (x : Snap) (i : Nat) : (s.setSnap x).clientOf i = s.clientOf i := rfl
@[simp] theorem State.setSnap_qd (s : State) (x : Snap) (i : Nat) : (s.setSnap x).qd i = s.qd i := rfl

@[simp] theorem State.setCommit_pending (s : State) (c : Commit) : (s.setCommit c).pending = s.pending := rfl
@[simp] theorem State.setCommit_out (s : State) (c : Commit) : (s.setCommit c).out = s.out := rfl
@[simp] theorem State.setCommit_timeUs (s : State) (c : Commit) : (s.setCommit c).timeUs = s.timeUs := rfl
@[simp] theorem State.setCommit_draws (s : State) (c : Commit) : (s.setCommit c).draws = s.draws := rfl
@[simp] theorem State.setCommit_mem (s : State) (c : Commit) : (s.setCommit c).mem = s.mem := rfl
@[simp] theorem State.setCommit_objs (s : State) (c : Commit) : (s.setCommit c).objs = s.objs := rfl
@[simp] theorem State.setCommit_fns (s : State) (c : Commit) : (s.setCommit c).fns = s.fns := rfl
@[simp] theorem State.setCommit_ctl (s : State) (c : Commit) : (s.setCommit c).ctl = s.ctl := rfl
@[simp] theorem State.setCommit_seq (s : State) (c : Commit) : (s.setCommit c).seq = s.seq := rfl
@[simp] theorem State.setCommit_win (s : State) (c : Commit) : (s.setCommit c).win = s.win := rfl
@[simp] theorem State.setCommit_pans (s : State) (c : Commit) : (s.setCommit c).pans = s.pans := rfl
@[simp] theorem State.setCommit_hubs (s : State) (c : Commit) : (s.setCommit c).hubs = s.hubs := rfl
@[simp] theorem State.setCommit_strm (s : State) (c : Commit) : (s.setCommit c).strm = s.strm := rfl
@[simp] theorem State.setCommit_chans (s : State) (c : Commit) : (s.setCommit c).chans = s.chans := rfl
@[simp] theorem State.setCommit_stock (s : State) (c : Commit) : (s.setCommit c).stock = s.stock := rfl
@[simp] theorem State.setCommit_att (s : State) (c : Commit) : (s.setCommit c).att = s.att := rfl
@[simp] theorem State.setCommit_qds (s : State) (c : Commit) : (s.setCommit c).qds = s.qds := rfl
@[simp] theorem State.setCommit_weir (s : State) (c : Commit) : (s.setCommit c).weir = s.weir := rfl
@[simp] theorem State.setCommit_link (s : State) (c : Commit) : (s.setCommit c).link = s.link := rfl
@[simp] theorem State.setCommit_mgt (s : State) (c : Commit) : (s.setCommit c).mgt = s.mgt := rfl
@[simp] theorem State.setCommit_flt (s : State) (c : Commit) : (s.setCommit c).flt = s.flt := rfl
@[simp] theorem State.setCommit_cfg_flash (s : State) (c : Commit) : (s.setCommit c).cfg.flash = s.cfg.flash := rfl
@[simp] theorem State.setCommit_cfg_snap (s : State) (c : Commit) : (s.setCommit c).cfg.snap = s.cfg.snap := rfl
@[simp] theorem State.setCommit_obj (s : State) (c : Commit) (i : Nat) : (s.setCommit c).obj i = s.obj i := rfl
@[simp] theorem State.setCommit_fn (s : State) (c : Commit) (i : Nat) : (s.setCommit c).fn i = s.fn i := rfl
@[simp] theorem State.setCommit_ring (s : State) (c : Commit) (i : Nat) : (s.setCommit c).ring i = s.ring i := rfl
@[simp] theorem State.setCommit_pan (s : State) (c : Commit) (i : Nat) : (s.setCommit c).pan i = s.pan i := rfl
@[simp] theorem State.setCommit_hub (s : State) (c : Commit) (i : Nat) : (s.setCommit c).hub i = s.hub i := rfl
@[simp] theorem State.setCommit_rd8 (s : State) (c : Commit) (i : Nat) : (s.setCommit c).rd8 i = s.rd8 i := rfl
@[simp] theorem State.setCommit_order (s : State) (c : Commit) (i j : Nat) : (s.setCommit c).order? i j = s.order? i j := rfl
@[simp] theorem State.setCommit_chan (s : State) (c : Commit) (i : Nat) : (s.setCommit c).chan i = s.chan i := rfl
@[simp] theorem State.setCommit_mod (s : State) (c : Commit) (i : Nat) : (s.setCommit c).mod i = s.mod i := rfl
@[simp] theorem State.setCommit_layer (s : State) (c : Commit) (i : Nat) : (s.setCommit c).layer i = s.layer i := rfl
@[simp] theorem State.setCommit_region (s : State) (c : Commit) (i : Nat) : (s.setCommit c).region i = s.region i := rfl
@[simp] theorem State.setCommit_queue (s : State) (c : Commit) (i : Nat) : (s.setCommit c).queue i = s.queue i := rfl
@[simp] theorem State.setCommit_entryRec (s : State) (c : Commit) (i : Nat) : (s.setCommit c).entryRec i = s.entryRec i := rfl
@[simp] theorem State.setCommit_mbx (s : State) (c : Commit) (i : Nat) : (s.setCommit c).mbx i = s.mbx i := rfl
@[simp] theorem State.setCommit_xfer (s : State) (c : Commit) (i : Nat) : (s.setCommit c).xfer i = s.xfer i := rfl
@[simp] theorem State.setCommit_clientOf (s : State) (c : Commit) (i : Nat) : (s.setCommit c).clientOf i = s.clientOf i := rfl
@[simp] theorem State.setCommit_qd (s : State) (c : Commit) (i : Nat) : (s.setCommit c).qd i = s.qd i := rfl

@[simp] theorem State.emit_pending (s : State) (o : Out) : (s.emit o).pending = s.pending := rfl
@[simp] theorem State.emit_timeUs (s : State) (o : Out) : (s.emit o).timeUs = s.timeUs := rfl
@[simp] theorem State.emit_draws (s : State) (o : Out) : (s.emit o).draws = s.draws := rfl
@[simp] theorem State.emit_mem (s : State) (o : Out) : (s.emit o).mem = s.mem := rfl
@[simp] theorem State.emit_objs (s : State) (o : Out) : (s.emit o).objs = s.objs := rfl
@[simp] theorem State.emit_fns (s : State) (o : Out) : (s.emit o).fns = s.fns := rfl
@[simp] theorem State.emit_ctl (s : State) (o : Out) : (s.emit o).ctl = s.ctl := rfl
@[simp] theorem State.emit_seq (s : State) (o : Out) : (s.emit o).seq = s.seq := rfl
@[simp] theorem State.emit_win (s : State) (o : Out) : (s.emit o).win = s.win := rfl
@[simp] theorem State.emit_pans (s : State) (o : Out) : (s.emit o).pans = s.pans := rfl
@[simp] theorem State.emit_hubs (s : State) (o : Out) : (s.emit o).hubs = s.hubs := rfl
@[simp] theorem State.emit_strm (s : State) (o : Out) : (s.emit o).strm = s.strm := rfl
@[simp] theorem State.emit_chans (s : State) (o : Out) : (s.emit o).chans = s.chans := rfl
@[simp] theorem State.emit_stock (s : State) (o : Out) : (s.emit o).stock = s.stock := rfl
@[simp] theorem State.emit_att (s : State) (o : Out) : (s.emit o).att = s.att := rfl
@[simp] theorem State.emit_qds (s : State) (o : Out) : (s.emit o).qds = s.qds := rfl
@[simp] theorem State.emit_weir (s : State) (o : Out) : (s.emit o).weir = s.weir := rfl
@[simp] theorem State.emit_link (s : State) (o : Out) : (s.emit o).link = s.link := rfl
@[simp] theorem State.emit_mgt (s : State) (o : Out) : (s.emit o).mgt = s.mgt := rfl
@[simp] theorem State.emit_cfg (s : State) (o : Out) : (s.emit o).cfg = s.cfg := rfl
@[simp] theorem State.emit_flt (s : State) (o : Out) : (s.emit o).flt = s.flt := rfl
@[simp] theorem State.emit_obj (s : State) (o : Out) (i : Nat) : (s.emit o).obj i = s.obj i := rfl
@[simp] theorem State.emit_fn (s : State) (o : Out) (i : Nat) : (s.emit o).fn i = s.fn i := rfl
@[simp] theorem State.emit_ring (s : State) (o : Out) (i : Nat) : (s.emit o).ring i = s.ring i := rfl
@[simp] theorem State.emit_pan (s : State) (o : Out) (i : Nat) : (s.emit o).pan i = s.pan i := rfl
@[simp] theorem State.emit_hub (s : State) (o : Out) (i : Nat) : (s.emit o).hub i = s.hub i := rfl
@[simp] theorem State.emit_rd8 (s : State) (o : Out) (i : Nat) : (s.emit o).rd8 i = s.rd8 i := rfl
@[simp] theorem State.emit_order (s : State) (o : Out) (i j : Nat) : (s.emit o).order? i j = s.order? i j := rfl
@[simp] theorem State.emit_chan (s : State) (o : Out) (i : Nat) : (s.emit o).chan i = s.chan i := rfl
@[simp] theorem State.emit_mod (s : State) (o : Out) (i : Nat) : (s.emit o).mod i = s.mod i := rfl
@[simp] theorem State.emit_layer (s : State) (o : Out) (i : Nat) : (s.emit o).layer i = s.layer i := rfl
@[simp] theorem State.emit_region (s : State) (o : Out) (i : Nat) : (s.emit o).region i = s.region i := rfl
@[simp] theorem State.emit_queue (s : State) (o : Out) (i : Nat) : (s.emit o).queue i = s.queue i := rfl
@[simp] theorem State.emit_entryRec (s : State) (o : Out) (i : Nat) : (s.emit o).entryRec i = s.entryRec i := rfl
@[simp] theorem State.emit_mbx (s : State) (o : Out) (i : Nat) : (s.emit o).mbx i = s.mbx i := rfl
@[simp] theorem State.emit_xfer (s : State) (o : Out) (i : Nat) : (s.emit o).xfer i = s.xfer i := rfl
@[simp] theorem State.emit_clientOf (s : State) (o : Out) (i : Nat) : (s.emit o).clientOf i = s.clientOf i := rfl
@[simp] theorem State.emit_qd (s : State) (o : Out) (i : Nat) : (s.emit o).qd i = s.qd i := rfl

@[simp] theorem State.wrBytes_pending (s : State) (a : Nat) (l : List Byte) : (s.wrBytes a l).pending = s.pending := rfl
@[simp] theorem State.wrBytes_out (s : State) (a : Nat) (l : List Byte) : (s.wrBytes a l).out = s.out := rfl
@[simp] theorem State.wrBytes_timeUs (s : State) (a : Nat) (l : List Byte) : (s.wrBytes a l).timeUs = s.timeUs := rfl
@[simp] theorem State.wrBytes_draws (s : State) (a : Nat) (l : List Byte) : (s.wrBytes a l).draws = s.draws := rfl
@[simp] theorem State.wrBytes_objs (s : State) (a : Nat) (l : List Byte) : (s.wrBytes a l).objs = s.objs := rfl
@[simp] theorem State.wrBytes_fns (s : State) (a : Nat) (l : List Byte) : (s.wrBytes a l).fns = s.fns := rfl
@[simp] theorem State.wrBytes_ctl (s : State) (a : Nat) (l : List Byte) : (s.wrBytes a l).ctl = s.ctl := rfl
@[simp] theorem State.wrBytes_seq (s : State) (a : Nat) (l : List Byte) : (s.wrBytes a l).seq = s.seq := rfl
@[simp] theorem State.wrBytes_win (s : State) (a : Nat) (l : List Byte) : (s.wrBytes a l).win = s.win := rfl
@[simp] theorem State.wrBytes_pans (s : State) (a : Nat) (l : List Byte) : (s.wrBytes a l).pans = s.pans := rfl
@[simp] theorem State.wrBytes_hubs (s : State) (a : Nat) (l : List Byte) : (s.wrBytes a l).hubs = s.hubs := rfl
@[simp] theorem State.wrBytes_strm (s : State) (a : Nat) (l : List Byte) : (s.wrBytes a l).strm = s.strm := rfl
@[simp] theorem State.wrBytes_chans (s : State) (a : Nat) (l : List Byte) : (s.wrBytes a l).chans = s.chans := rfl
@[simp] theorem State.wrBytes_stock (s : State) (a : Nat) (l : List Byte) : (s.wrBytes a l).stock = s.stock := rfl
@[simp] theorem State.wrBytes_att (s : State) (a : Nat) (l : List Byte) : (s.wrBytes a l).att = s.att := rfl
@[simp] theorem State.wrBytes_qds (s : State) (a : Nat) (l : List Byte) : (s.wrBytes a l).qds = s.qds := rfl
@[simp] theorem State.wrBytes_weir (s : State) (a : Nat) (l : List Byte) : (s.wrBytes a l).weir = s.weir := rfl
@[simp] theorem State.wrBytes_link (s : State) (a : Nat) (l : List Byte) : (s.wrBytes a l).link = s.link := rfl
@[simp] theorem State.wrBytes_mgt (s : State) (a : Nat) (l : List Byte) : (s.wrBytes a l).mgt = s.mgt := rfl
@[simp] theorem State.wrBytes_cfg (s : State) (a : Nat) (l : List Byte) : (s.wrBytes a l).cfg = s.cfg := rfl
@[simp] theorem State.wrBytes_flt (s : State) (a : Nat) (l : List Byte) : (s.wrBytes a l).flt = s.flt := rfl
@[simp] theorem State.wrBytes_obj (s : State) (a : Nat) (l : List Byte) (i : Nat) : (s.wrBytes a l).obj i = s.obj i := rfl
@[simp] theorem State.wrBytes_fn (s : State) (a : Nat) (l : List Byte) (i : Nat) : (s.wrBytes a l).fn i = s.fn i := rfl
@[simp] theorem State.wrBytes_ring (s : State) (a : Nat) (l : List Byte) (i : Nat) : (s.wrBytes a l).ring i = s.ring i := rfl
@[simp] theorem State.wrBytes_pan (s : State) (a : Nat) (l : List Byte) (i : Nat) : (s.wrBytes a l).pan i = s.pan i := rfl
@[simp] theorem State.wrBytes_hub (s : State) (a : Nat) (l : List Byte) (i : Nat) : (s.wrBytes a l).hub i = s.hub i := rfl
@[simp] theorem State.wrBytes_order (s : State) (a : Nat) (l : List Byte) (i j : Nat) : (s.wrBytes a l).order? i j = s.order? i j := rfl
@[simp] theorem State.wrBytes_chan (s : State) (a : Nat) (l : List Byte) (i : Nat) : (s.wrBytes a l).chan i = s.chan i := rfl
@[simp] theorem State.wrBytes_mod (s : State) (a : Nat) (l : List Byte) (i : Nat) : (s.wrBytes a l).mod i = s.mod i := rfl
@[simp] theorem State.wrBytes_layer (s : State) (a : Nat) (l : List Byte) (i : Nat) : (s.wrBytes a l).layer i = s.layer i := rfl
@[simp] theorem State.wrBytes_region (s : State) (a : Nat) (l : List Byte) (i : Nat) : (s.wrBytes a l).region i = s.region i := rfl
@[simp] theorem State.wrBytes_queue (s : State) (a : Nat) (l : List Byte) (i : Nat) : (s.wrBytes a l).queue i = s.queue i := rfl
@[simp] theorem State.wrBytes_entryRec (s : State) (a : Nat) (l : List Byte) (i : Nat) : (s.wrBytes a l).entryRec i = s.entryRec i := rfl
@[simp] theorem State.wrBytes_mbx (s : State) (a : Nat) (l : List Byte) (i : Nat) : (s.wrBytes a l).mbx i = s.mbx i := rfl
@[simp] theorem State.wrBytes_xfer (s : State) (a : Nat) (l : List Byte) (i : Nat) : (s.wrBytes a l).xfer i = s.xfer i := rfl
@[simp] theorem State.wrBytes_clientOf (s : State) (a : Nat) (l : List Byte) (i : Nat) : (s.wrBytes a l).clientOf i = s.clientOf i := rfl
@[simp] theorem State.wrBytes_qd (s : State) (a : Nat) (l : List Byte) (i : Nat) : (s.wrBytes a l).qd i = s.qd i := rfl

@[simp] theorem State.draw_pending (s : State)  : (s.draw).pending = s.pending := rfl
@[simp] theorem State.draw_out (s : State)  : (s.draw).out = s.out := rfl
@[simp] theorem State.draw_timeUs (s : State)  : (s.draw).timeUs = s.timeUs := rfl
@[simp] theorem State.draw_mem (s : State)  : (s.draw).mem = s.mem := rfl
@[simp] theorem State.draw_objs (s : State)  : (s.draw).objs = s.objs := rfl
@[simp] theorem State.draw_fns (s : State)  : (s.draw).fns = s.fns := rfl
@[simp] theorem State.draw_ctl (s : State)  : (s.draw).ctl = s.ctl := rfl
@[simp] theorem State.draw_seq (s : State)  : (s.draw).seq = s.seq := rfl
@[simp] theorem State.draw_win (s : State)  : (s.draw).win = s.win := rfl
@[simp] theorem State.draw_pans (s : State)  : (s.draw).pans = s.pans := rfl
@[simp] theorem State.draw_hubs (s : State)  : (s.draw).hubs = s.hubs := rfl
@[simp] theorem State.draw_strm (s : State)  : (s.draw).strm = s.strm := rfl
@[simp] theorem State.draw_chans (s : State)  : (s.draw).chans = s.chans := rfl
@[simp] theorem State.draw_stock (s : State)  : (s.draw).stock = s.stock := rfl
@[simp] theorem State.draw_att (s : State)  : (s.draw).att = s.att := rfl
@[simp] theorem State.draw_qds (s : State)  : (s.draw).qds = s.qds := rfl
@[simp] theorem State.draw_weir (s : State)  : (s.draw).weir = s.weir := rfl
@[simp] theorem State.draw_link (s : State)  : (s.draw).link = s.link := rfl
@[simp] theorem State.draw_mgt (s : State)  : (s.draw).mgt = s.mgt := rfl
@[simp] theorem State.draw_cfg (s : State)  : (s.draw).cfg = s.cfg := rfl
@[simp] theorem State.draw_flt (s : State)  : (s.draw).flt = s.flt := rfl
@[simp] theorem State.draw_obj (s : State)  (i : Nat) : (s.draw).obj i = s.obj i := rfl
@[simp] theorem State.draw_fn (s : State)  (i : Nat) : (s.draw).fn i = s.fn i := rfl
@[simp] theorem State.draw_ring (s : State)  (i : Nat) : (s.draw).ring i = s.ring i := rfl
@[simp] theorem State.draw_pan (s : State)  (i : Nat) : (s.draw).pan i = s.pan i := rfl
@[simp] theorem State.draw_hub (s : State)  (i : Nat) : (s.draw).hub i = s.hub i := rfl
@[simp] theorem State.draw_rd8 (s : State)  (i : Nat) : (s.draw).rd8 i = s.rd8 i := rfl
@[simp] theorem State.draw_order (s : State)  (i j : Nat) : (s.draw).order? i j = s.order? i j := rfl
@[simp] theorem State.draw_chan (s : State)  (i : Nat) : (s.draw).chan i = s.chan i := rfl
@[simp] theorem State.draw_mod (s : State)  (i : Nat) : (s.draw).mod i = s.mod i := rfl
@[simp] theorem State.draw_layer (s : State)  (i : Nat) : (s.draw).layer i = s.layer i := rfl
@[simp] theorem State.draw_region (s : State)  (i : Nat) : (s.draw).region i = s.region i := rfl
@[simp] theorem State.draw_queue (s : State)  (i : Nat) : (s.draw).queue i = s.queue i := rfl
@[simp] theorem State.draw_entryRec (s : State)  (i : Nat) : (s.draw).entryRec i = s.entryRec i := rfl
@[simp] theorem State.draw_mbx (s : State)  (i : Nat) : (s.draw).mbx i = s.mbx i := rfl
@[simp] theorem State.draw_xfer (s : State)  (i : Nat) : (s.draw).xfer i = s.xfer i := rfl
@[simp] theorem State.draw_clientOf (s : State)  (i : Nat) : (s.draw).clientOf i = s.clientOf i := rfl
@[simp] theorem State.draw_qd (s : State)  (i : Nat) : (s.draw).qd i = s.qd i := rfl

@[simp] theorem State.fn_setFn (s : State) (n : Nat) (r : FnRec) : (s.setFn n r).fn n = r := FMap.get_put_self _ _ _ _
theorem State.fn_setFn_ne (s : State) (n : Nat) (r : FnRec) (i_ : Nat) (hne : i_ ≠ n) : (s.setFn n r).fn i_ = s.fn i_ := FMap.get_put_ne _ _ _ hne
@[simp] theorem State.ring_setRing (s : State) (r : Nat) (x : Ring) : (s.setRing r x).ring r = x := FMap.get_put_self _ _ _ _
theorem State.ring_setRing_ne (s : State) (r : Nat) (x : Ring) (i_ : Nat) (hne : i_ ≠ r) : (s.setRing r x).ring i_ = s.ring i_ := FMap.get_put_ne _ _ _ hne
@[simp] theorem State.pan_setPan (s : State) (p : Nat) (x : Pan) : (s.setPan p x).pan p = x := FMap.get_put_self _ _ _ _
theorem State.pan_setPan_ne (s : State) (p : Nat) (x : Pan) (i_ : Nat) (hne : i_ ≠ p) : (s.setPan p x).pan i_ = s.pan i_ := FMap.get_put_ne _ _ _ hne
@[simp] theorem State.hub_setHub (s : State) (h : Nat) (x : Hub) : (s.setHub h x).hub h = x := FMap.get_put_self _ _ _ _
theorem State.hub_setHub_ne (s : State) (h : Nat) (x : Hub) (i_ : Nat) (hne : i_ ≠ h) : (s.setHub h x).hub i_ = s.hub i_ := FMap.get_put_ne _ _ _ hne
@[simp] theorem State.chan_setChan (s : State) (c : Nat) (x : Chan) : (s.setChan c x).chan c = x := FMap.get_put_self _ _ _ _
theorem State.chan_setChan_ne (s : State) (c : Nat) (x : Chan) (i_ : Nat) (hne : i_ ≠ c) : (s.setChan c x).chan i_ = s.chan i_ := FMap.get_put_ne _ _ _ hne
@[simp] theorem State.mod_setMod (s : State) (m : Nat) (x : Mod) : (s.setMod m x).mod m = x := FMap.get_put_self _ _ _ _
theorem State.mod_setMod_ne (s : State) (m : Nat) (x : Mod) (i_ : Nat) (hne : i_ ≠ m) : (s.setMod m x).mod i_ = s.mod i_ := FMap.get_put_ne _ _ _ hne
@[simp] theorem State.layer_setLayer (s : State) (l : Nat) (x : Layer) : (s.setLayer l x).layer l = x := FMap.get_put_self _ _ _ _
theorem State.layer_setLayer_ne (s : State) (l : Nat) (x : Layer) (i_ : Nat) (hne : i_ ≠ l) : (s.setLayer l x).layer i_ = s.layer i_ := FMap.get_put_ne _ _ _ hne
@[simp] theorem State.region_setRegion (s : State) (n : Nat) (x : Region) : (s.setRegion n x).region n = x := FMap.get_put_self _ _ _ _
theorem State.region_setRegion_ne (s : State) (n : Nat) (x : Region) (i_ : Nat) (hne : i_ ≠ n) : (s.setRegion n x).region i_ = s.region i_ := FMap.get_put_ne _ _ _ hne
@[simp] theorem State.queue_setQueue (s : State) (l : Nat) (x : Queue) : (s.setQueue l x).queue l = x := FMap.get_put_self _ _ _ _
theorem State.queue_setQueue_ne (s : State) (l : Nat) (x : Queue) (i_ : Nat) (hne : i_ ≠ l) : (s.setQueue l x).queue i_ = s.queue i_ := FMap.get_put_ne _ _ _ hne
@[simp] theorem State.mbx_setMbx (s : State) (c : Nat) (x : Mbx) : (s.setMbx c x).mbx c = x := FMap.get_put_self _ _ _ _
theorem State.mbx_setMbx_ne (s : State) (c : Nat) (x : Mbx) (i_ : Nat) (hne : i_ ≠ c) : (s.setMbx c x).mbx i_ = s.mbx i_ := FMap.get_put_ne _ _ _ hne
@[simp] theorem State.xfer_setXfer (s : State) (c : Nat) (x : Option Xfer) : (s.setXfer c x).xfer c = x := FMap.get_put_self _ _ _ _
theorem State.xfer_setXfer_ne (s : State) (c : Nat) (x : Option Xfer) (i_ : Nat) (hne : i_ ≠ c) : (s.setXfer c x).xfer i_ = s.xfer i_ := FMap.get_put_ne _ _ _ hne
@[simp] theorem State.clientOf_setClient (s : State) (c : Nat) (x : Client) : (s.setClient c x).clientOf c = x := FMap.get_put_self _ _ _ _
theorem State.clientOf_setClient_ne (s : State) (c : Nat) (x : Client) (i_ : Nat) (hne : i_ ≠ c) : (s.setClient c x).clientOf i_ = s.clientOf i_ := FMap.get_put_ne _ _ _ hne

@[simp] theorem State.obj_setObj (s : State) (k v : Nat) : (s.setObj k v).obj k = v := by
  unfold State.obj State.setObj
  rw [FMap.get_put_self]
  split <;> simp_all

theorem State.obj_setObj_ne (s : State) (k v i : Nat) (h : i ≠ k) : (s.setObj k v).obj i = s.obj i := by
  unfold State.obj State.setObj
  rw [FMap.get_put_ne _ _ _ h]

@[simp] theorem State.setOrders_orders (s : State) (l : List Order) : (s.setOrders l).seq.orders = l := rfl
@[simp] theorem State.emit_out (s : State) (o : Out) : (s.emit o).out = o :: s.out := rfl
@[simp] theorem State.setStrm_strm (s : State) (x : Strm) : (s.setStrm x).strm = x := rfl
@[simp] theorem State.setStock_stock (s : State) (x : Stock) : (s.setStock x).stock = x := rfl
@[simp] theorem State.setAtt_att (s : State) (x : Att) : (s.setAtt x).att = x := rfl
@[simp] theorem State.setMgt_mgt (s : State) (x : Mgt) : (s.setMgt x).mgt = x := rfl
@[simp] theorem State.setSnap_snap (s : State) (x : Snap) : (s.setSnap x).cfg.snap = x := rfl
@[simp] theorem State.setCommit_commit (s : State) (x : Commit) : (s.setCommit x).cfg.commit = x := rfl
@[simp] theorem State.setFrames_frames (s : State) (x : FMap Frame) : (s.setFrames x).win.frames = x := rfl
@[simp] theorem State.draw_draws (s : State) : s.draw.draws = s.draws + 1 := rfl

end Sys2Proof.Machine
end

