-- ==== Sys2Proof/Laws/FrameMem.lean ====
section
/-! SUPPORT. The operations and meanings through which no byte of package memory changes: one equation for each. -/

set_option linter.unusedSimpArgs false
set_option linter.unusedVariables false

namespace Sys2Proof.Machine

/-- The next state, if there is one, has this memory. -/
def outMem (m : List Host.Cell) (o : Host.Outcome State Fault Refusal) : Prop := match o with
  | .next t => t.mem = m
  | _ => True

/-- The state answered, if any, has it. -/
def optMem (m : List Host.Cell) (o : Option State) : Prop := ∀ t, o = some t → t.mem = m

/-- The state of a command that is not refused has it. -/
def excMem (m : List Host.Cell) (o : Except Nat State) : Prop := ∀ t, o = .ok t → t.mem = m

/-- The state of a pair has it. -/
def optFstMem {β : Type} (m : List Host.Cell) (o : Option (State × β)) : Prop := ∀ t, o = some t → t.1.mem = m

/-- The same, second of a pair. -/
def optSndMem {β : Type} (m : List Host.Cell) (o : Option (β × State)) : Prop := ∀ t, o = some t → t.2.mem = m

@[simp] theorem outMem_next (m) (s : State) : outMem m (.next s) ↔ s.mem = m := Iff.rfl

@[simp] theorem optMem_none (m) : optMem m none := by simp [optMem]

@[simp] theorem optMem_some (m) (s : State) : optMem m (some s) ↔ s.mem = m := by simp [optMem]

@[simp] theorem excMem_error (m) (c : Nat) : excMem m (.error c) := by simp [excMem]

@[simp] theorem excMem_ok (m) (s : State) : excMem m (.ok s) ↔ s.mem = m := by simp [excMem]

@[simp] theorem optFstMem_none {β : Type} (m) : optFstMem m (none : Option (State × β)) := by simp [optFstMem]

@[simp] theorem optFstMem_some {β : Type} (m) (s : State × β) : optFstMem m (some s) ↔ s.1.mem = m := by simp [optFstMem]

@[simp] theorem optSndMem_none {β : Type} (m) : optSndMem m (none : Option (β × State)) := by simp [optSndMem]

@[simp] theorem optSndMem_some {β : Type} (m) (s : β × State) : optSndMem m (some s) ↔ s.2.mem = m := by simp [optSndMem]

@[simp] theorem mem_ite (c : Prop) [Decidable c] (a b : State) : (if c then a else b).mem = if c then a.mem else b.mem := by split <;> rfl

@[simp] theorem fst_mem_ite {β : Type} (c : Prop) [Decidable c] (a b : State × β) : (if c then a else b).1.mem = if c then a.1.mem else b.1.mem := by split <;> rfl

@[simp] theorem outMem_ite (m) (c : Prop) [Decidable c] (a b) : outMem m (if c then a else b) ↔ if c then outMem m a else outMem m b := by split <;> rfl

@[simp] theorem optMem_ite (m) (c : Prop) [Decidable c] (a b) : optMem m (if c then a else b) ↔ if c then optMem m a else optMem m b := by split <;> rfl

@[simp] theorem excMem_ite (m) (c : Prop) [Decidable c] (a b) : excMem m (if c then a else b) ↔ if c then excMem m a else excMem m b := by split <;> rfl

@[simp] theorem optFstMem_ite {β : Type} (m) (c : Prop) [Decidable c] (a b : Option (State × β)) : optFstMem m (if c then a else b) ↔ if c then optFstMem m a else optFstMem m b := by split <;> rfl

theorem foldl_mem {α : Type} (g : State → α → State) (l : List α) (s : State) (hg : ∀ s a, (g s a).mem = s.mem) : (l.foldl g s).mem = s.mem := by
  induction l generalizing s with
  | nil => rfl
  | cons a t ih => simp [ih, hg]

theorem foldl_fst_mem {α β : Type} (g : State × β → α → State × β) (l : List α) (x : State × β) (hg : ∀ x a, (g x a).1.mem = x.1.mem) : (l.foldl g x).1.mem = x.1.mem := by
  induction l generalizing x with
  | nil => rfl
  | cons a t ih => simp [ih, hg]

theorem optMem_foldl {α : Type} (m) (g : State → α → Option State) (l : List α) (o : Option State) (hg : ∀ s a, s.mem = m → optMem m (g s a))
    (h : optMem m o) : optMem m (l.foldl (fun acc a => acc.bind (fun s => g s a)) o) := by
  induction l generalizing o with
  | nil => exact h
  | cons a t ih =>
    refine ih _ ?_
    cases o with
    | none => simp
    | some s => exact hg s a (by simpa using h)

theorem optFstMem_foldl {α β : Type} (m) (g : State × β → α → Option (State × β)) (l : List α) (o : Option (State × β))
    (hg : ∀ x a, x.1.mem = m → optFstMem m (g x a)) (h : optFstMem m o) : optFstMem m (l.foldl (fun acc a => acc.bind (fun x => g x a)) o) := by
  induction l generalizing o with
  | nil => exact h
  | cons a t ih =>
    refine ih _ ?_
    cases o with
    | none => simp
    | some s => exact hg s a (by simpa using h)


@[simp] theorem State.setPend_mem (s : State) (n : Nat) (c : Nat) : (State.setPend s n c).mem = s.mem := by
  rfl

@[simp] theorem State.bump_mem (s : State) (w : Nat) (k : Nat) (n : Nat) : (State.bump s w k n).mem = s.mem := by
  simp [State.bump]

@[simp] theorem State.bump32_mem (s : State) (k : Nat) : (State.bump32 s k).mem = s.mem := by
  rfl

@[simp] theorem State.enterFn_mem (s : State) (n : Nat) (st : FnState) (tgt : FnState) (code : Nat) : (State.enterFn s n st tgt code).mem = s.mem := by
  rfl

@[simp] theorem State.releasePans_mem (s : State) (causes : List Nat) : (State.releasePans s causes).mem = s.mem := by
  simp [State.releasePans]

@[simp] theorem State.weirUp_mem (s : State) : (State.weirUp s).mem = s.mem := by
  simp [State.weirUp]

@[simp] theorem State.event_mem (s : State) (code : Nat) : (State.event s code).mem = s.mem := by
  rfl

@[simp] theorem State.bump64_mem (s : State) (k : Nat) : (State.bump64 s k).mem = s.mem := by
  rfl

@[simp] theorem State.backPressure_mem (s : State) : (State.backPressure s).mem = s.mem := by
  simp [State.backPressure]

@[simp] theorem State.relieve_mem (s : State) : (State.relieve s).mem = s.mem := by
  simp [State.relieve]

@[simp] theorem State.setMods_mem (s : State) (f : Nat → Mod → Mod) : (State.setMods s f).mem = s.mem := by
  rfl

@[simp] theorem State.cancelReads_mem (s : State) (i : Nat) : (State.cancelReads s i).mem = s.mem := by
  rfl

@[simp] theorem State.dropStaged_mem (s : State) (c : Nat) (p : Buf → Bool) : (State.dropStaged s c p).mem = s.mem := by
  simp [State.dropStaged, foldl_mem, foldl_fst_mem]

@[simp] theorem State.dmaPend_mem (s : State) (sub : Nat) (c : Nat) : (State.dmaPend s sub c).mem = s.mem := by
  rfl

@[simp] theorem State.refetch_mem (s : State) (p : Buf → Bool) : (State.refetch s p).mem = s.mem := by
  simp [State.refetch]

@[simp] theorem State.startChan_mem (s : State) (c : Nat) : (State.startChan s c).mem = s.mem := by
  rfl

theorem State.controlMoving_mem (s : State) (n : Nat) (code : Nat) : excMem s.mem (State.controlMoving s n code) := by
  simp [State.controlMoving]

@[simp] theorem State.dropHeldWrites_mem (s : State) (r : Nat) (slot : Nat) : (State.dropHeldWrites s r slot).mem = s.mem := by
  rfl

@[simp] theorem State.dropStreams_mem (s : State) (r : Nat) (slot : Nat) : (State.dropStreams s r slot).mem = s.mem := by
  simp [State.dropStreams, foldl_mem, foldl_fst_mem]

@[simp] theorem State.miss_mem (s : State) (half : Nat) (page : Nat) : (State.miss s half page).mem = s.mem := by
  simp [State.miss]

@[simp] theorem State.missFor_mem (s : State) (q : Req) : (State.missFor s q).mem = s.mem := by
  simp [State.missFor, foldl_mem, foldl_fst_mem]

@[simp] theorem State.updOrder_mem (s : State) (r : Nat) (slot : Nat) (f : Order → Order) : (State.updOrder s r slot f).mem = s.mem := by
  rfl

@[simp] theorem State.orderEvent_mem (s : State) (r : Nat) (slot : Nat) (b : Nat) : (State.orderEvent s r slot b).mem = s.mem := by
  rfl

@[simp] theorem State.holdWrite_mem (s : State) (q : Req) : (State.holdWrite s q).mem = s.mem := by
  rfl

@[simp] theorem State.judgeWrites_mem (s : State) (h : Nat) : (State.judgeWrites s h).mem = s.mem := by
  unfold State.judgeWrites
  grind [outMem, optMem, optFstMem, optSndMem, excMem, foldl_mem, State.holdWrite_mem]

@[simp] theorem State.enqueue_mem (s : State) (q : Req) : (State.enqueue s q).mem = s.mem := by
  simp [State.enqueue, foldl_mem, foldl_fst_mem]

@[simp] theorem State.writeRun_mem (s : State) (h : Nat) (who : Requester) (ring : Nat) (slot : Nat) (buf : Nat) (a : Nat) (l : List Byte) : (State.writeRun s h who ring slot buf a l).mem = s.mem := by
  simp [State.writeRun, foldl_mem, foldl_fst_mem]

@[simp] theorem State.storeGroup_mem (s : State) (k : Nat) (f : Frame) : (State.storeGroup s k f).mem = s.mem := by
  simp [State.storeGroup]

@[simp] theorem State.dropFrame_mem (s : State) (k : Nat) : (State.dropFrame s k).mem = s.mem := by
  rfl

@[simp] theorem State.writeBackGood_mem (s : State) (p : Nat → Bool) (keep : Bool) : (State.writeBackGood s p keep).mem = s.mem := by
  simp [State.writeBackGood, foldl_mem, foldl_fst_mem]

@[simp] theorem State.disturb_mem (s : State) : (State.disturb s).mem = s.mem := by
  simp [State.disturb]

@[simp] theorem State.eventIf_mem (s : State) (b : Bool) (code : Nat) : (State.eventIf s b code).mem = s.mem := by
  simp [State.eventIf]

@[simp] theorem State.logFault_mem (s : State) (e : LogEnt) : (State.logFault s e).mem = s.mem := by
  rfl

@[simp] theorem State.failOrders_mem (s : State) (p : Order → Bool) (code : Nat) : (State.failOrders s p code).mem = s.mem := by
  rfl

@[simp] theorem State.stopPans_mem (s : State) (p : Nat → Pan → Bool) (cause : Nat) : (State.stopPans s p cause).mem = s.mem := by
  rfl

@[simp] theorem State.fault_mem (s : State) (n : Nat) (code : Nat) (l : Loc) : (State.fault s n code l).mem = s.mem := by
  simp [State.fault]

@[simp] theorem State.poison_mem (s : State) (n : Nat) : (State.poison s n).mem = s.mem := by
  rfl

@[simp] theorem State.windrowError_mem (s : State) (k : Nat) (hub : Nat) : (State.windrowError s k hub).mem = s.mem := by
  simp [State.windrowError]

@[simp] theorem State.meetErrors_mem (s : State) (p : Nat → Bool) : (State.meetErrors s p).mem = s.mem := by
  simp [State.meetErrors, foldl_mem, foldl_fst_mem]

@[simp] theorem State.discardCrusts_mem (s : State) (p : Crust → Bool) : (State.discardCrusts s p).mem = s.mem := by
  simp [State.discardCrusts]

@[simp] theorem State.evict_mem (s : State) (k : Nat) : (State.evict s k).mem = s.mem := by
  unfold State.evict
  split <;> simp [foldl_mem, foldl_fst_mem]

@[simp] theorem State.makeFrames_mem (s : State) (h : Nat) (not : Nat) (need : Nat) (x_ : Nat) : (State.makeFrames s h not need x_).mem = s.mem := by
  fun_induction State.makeFrames <;> simp_all

@[simp] theorem State.putFrame_mem (s : State) (k : Nat) (f : Frame) : (State.putFrame s k f).mem = s.mem := by
  rfl

@[simp] theorem State.loadFresh_mem (s : State) (h : Nat) (k : Nat) : (State.loadFresh s h k).mem = s.mem := by
  simp [State.loadFresh]

@[simp] theorem State.loadGroup_mem (s : State) (h : Nat) (k : Nat) : (State.loadGroup s h k).mem = s.mem := by
  unfold State.loadGroup
  split <;> simp [foldl_mem, foldl_fst_mem]

@[simp] theorem State.countPromotion_mem (s : State) (r : Nat) (slot : Nat) (lapse : Bool) (bit : Bool) (deep : Bool) (nf : Nat) : (State.countPromotion s r slot lapse bit deep nf).mem = s.mem := by
  simp [State.countPromotion, foldl_mem, foldl_fst_mem]

@[simp] theorem State.disarm_mem (s : State) : (State.disarm s).mem = s.mem := by
  rfl

@[simp] theorem State.putPromoted_mem (s : State) (hub : Nat) (key : Nat) (f : Frame) (vals : List (Nat × Val)) : (State.putPromoted s hub key f vals).mem = s.mem := by
  simp [State.putPromoted]

@[simp] theorem State.promoteEvent_mem (s : State) (r : Nat) (slot : Nat) (hub : Nat) (key : Nat) (vals : List (Nat × Val)) : (State.promoteEvent s r slot hub key vals).mem = s.mem := by
  unfold State.promoteEvent
  dsimp only
  (repeat' split) <;> simp_all [foldl_mem, foldl_fst_mem]

@[simp] theorem State.applyEvent_mem (s : State) (r : Nat) (slot : Nat) (hub : Nat) (key : Nat) (ev : Nat) (vals : List (Nat × Val)) : (State.applyEvent s r slot hub key ev vals).mem = s.mem := by
  simp [State.applyEvent]

@[simp] theorem State.scaleStep_mem (s : State) (o : Order) (p : Plan) (q : Nat) (key : Nat) : (State.scaleStep s o p q key).mem = s.mem := by
  unfold State.scaleStep
  dsimp only
  (repeat' split) <;> simp_all [foldl_mem, foldl_fst_mem]

@[simp] theorem State.targetEvent_mem (s : State) (o : Order) (p : Plan) (t : Target) (key : Nat) : (State.targetEvent s o p t key).mem = s.mem := by
  unfold State.targetEvent
  dsimp only
  (repeat' split) <;> simp_all [foldl_mem, foldl_fst_mem]

@[simp] theorem State.promoStep_mem (s : State) (o : Order) (group : Nat) : (State.promoStep s o group).mem = s.mem := by
  unfold State.promoStep
  grind [outMem, optMem, optFstMem, optSndMem, excMem, foldl_mem, State.scaleStep_mem, State.targetEvent_mem]

@[simp] theorem State.setRev_mem (s : State) (v : Rev) : (State.setRev s v).mem = s.mem := by
  rfl

@[simp] theorem State.countOut_mem (s : State) (r : Nat) (slot : Nat) (sub : Nat) : (State.countOut s r slot sub).mem = s.mem := by
  simp [State.countOut]

@[simp] theorem State.startRing_mem (s : State) (r : Nat) : (State.startRing s r).mem = s.mem := by
  rfl

@[simp] theorem State.drainRing_mem (s : State) (r : Nat) : (State.drainRing s r).mem = s.mem := by
  simp [State.drainRing]

theorem State.ringControl_mem (s : State) (r : Nat) (code : Nat) : optMem s.mem (State.ringControl s r code) := by
  unfold State.ringControl
  dsimp only
  (repeat' split) <;> simp_all [foldl_mem, foldl_fst_mem]

@[simp] theorem State.drainPromos_mem (s : State) (o : Order) : (State.drainPromos s o).mem = s.mem := by
  unfold State.drainPromos
  grind [outMem, optMem, optFstMem, optSndMem, excMem, foldl_mem, State.promoStep_mem]

@[simp] theorem State.dropWin_mem (s : State) (n : Nat) : (State.dropWin s n).mem = s.mem := by
  rfl

@[simp] theorem State.readQds_mem (s : State) (l : List Nat) : (State.readQds s l).mem = s.mem := by
  simp [State.readQds, foldl_mem, foldl_fst_mem]

@[simp] theorem State.reread_mem (s : State) (n : Nat) : (State.reread s n).mem = s.mem := by
  simp [State.reread]

@[simp] theorem State.freePans_mem (s : State) (r : Nat) (slot : Nat) (status : Nat) : (State.freePans s r slot status).mem = s.mem := by
  simp [State.freePans]

@[simp] theorem State.leave_mem (s : State) (o : Order) (status : Nat) : (State.leave s o status).mem = s.mem := by
  simp [State.leave]

@[simp] theorem State.setComing_mem (s : State) (o : Order) (n : Nat) (e : Nat) : (State.setComing s o n e).mem = s.mem := by
  rfl

@[simp] theorem State.forsake_mem (s : State) (o : Order) (n : Nat) : (State.forsake s o n).mem = s.mem := by
  rfl

@[simp] theorem State.unpin_mem (s : State) (p : Option (Nat × Nat)) : (State.unpin s p).mem = s.mem := by
  unfold State.unpin
  split <;> simp [foldl_mem, foldl_fst_mem]

@[simp] theorem State.unpinSlots_mem (s : State) (o : Order) : (State.unpinSlots s o).mem = s.mem := by
  simp [State.unpinSlots, foldl_mem, foldl_fst_mem]

@[simp] theorem State.countDone_mem (s : State) (o : Order) : (State.countDone s o).mem = s.mem := by
  simp [State.countDone]

@[simp] theorem State.takeBack_mem (s : State) (q : Nat × Nat) : (State.takeBack s q).mem = s.mem := by
  unfold State.takeBack
  grind [outMem, optMem, optFstMem, optSndMem, excMem, foldl_mem, State.updOrder_mem, State.setPan_mem]

@[simp] theorem State.cplBit_mem (s : State) (r : Nat) : (State.cplBit s r).mem = s.mem := by
  rfl

@[simp] theorem State.haltRing_mem (s : State) (r : Nat) : (State.haltRing s r).mem = s.mem := by
  rfl

@[simp] theorem State.settleStop_mem (s : State) (pn : Nat) : (State.settleStop s pn).mem = s.mem := by
  simp [State.settleStop]

@[simp] theorem State.unholdPan_mem (s : State) (pn : Nat) : (State.unholdPan s pn).mem = s.mem := by
  simp [State.unholdPan]

@[simp] theorem State.unholdPans_mem (s : State) (x : Stream) : (State.unholdPans s x).mem = s.mem := by
  simp [State.unholdPans, foldl_mem, foldl_fst_mem]

@[simp] theorem State.updStream_mem (s : State) (x : Stream) (f : Stream → Stream) : (State.updStream s x f).mem = s.mem := by
  rfl

@[simp] theorem State.resumeRead_mem (s : State) (x : Stream) : (State.resumeRead s x).mem = s.mem := by
  unfold State.resumeRead
  grind [outMem, optMem, optFstMem, optSndMem, excMem, foldl_mem, State.setStrm_mem, State.cancelReads_mem, State.setQueue_mem, State.unholdPans_mem, State.updStream_mem]

@[simp] theorem State.resumeWrites_mem (s : State) (l : Nat) : (State.resumeWrites s l).mem = s.mem := by
  simp [State.resumeWrites, foldl_mem, foldl_fst_mem]

@[simp] theorem State.resumeStream_mem (s : State) (l : Nat) : (State.resumeStream s l).mem = s.mem := by
  unfold State.resumeStream
  dsimp only
  (repeat' split) <;> simp_all [foldl_mem, foldl_fst_mem]

@[simp] theorem State.testStop_mem (s : State) (mask : Nat) : (State.testStop s mask).mem = s.mem := by
  rfl

@[simp] theorem State.testResume_mem (s : State) (mask : Nat) : (State.testResume s mask).mem = s.mem := by
  simp [State.testResume]

@[simp] theorem State.clearWlb_mem (s : State) (p : Nat → WlbEnt → Bool) : (State.clearWlb s p).mem = s.mem := by
  rfl

@[simp] theorem State.setPages_mem (s : State) (l : List KvPage) : (State.setPages s l).mem = s.mem := by
  rfl

@[simp] theorem State.setTestThrottle_mem (s : State) (v : Nat) : (State.setTestThrottle s v).mem = s.mem := by
  simp [State.setTestThrottle]

@[simp] theorem State.noteEmergency_mem (s : State) : (State.noteEmergency s).mem = s.mem := by
  simp [State.noteEmergency]

@[simp] theorem State.noteTriggers_mem (s : State) : (State.noteTriggers s).mem = s.mem := by
  simp [State.noteTriggers]

@[simp] theorem State.weirReact_mem (s : State) : (State.weirReact s).mem = s.mem := by
  simp [State.weirReact]

@[simp] theorem State.ackLog_mem (s : State) : (State.ackLog s).mem = s.mem := by
  rfl

@[simp] theorem State.restoreRegion_mem (s : State) (n : Nat) : (State.restoreRegion s n).mem = s.mem := by
  simp [State.restoreRegion]

@[simp] theorem State.countAnswer_mem (s : State) (cl : Nat) : (State.countAnswer s cl).mem = s.mem := by
  simp [State.countAnswer]

@[simp] theorem State.abortXfer_mem (s : State) (cl : Nat) (code : Nat) : (State.abortXfer s cl code).mem = s.mem := by
  unfold State.abortXfer
  split <;> simp [foldl_mem, foldl_fst_mem]

@[simp] theorem State.closeSession_mem (s : State) (n : Nat) : (State.closeSession s n).mem = s.mem := by
  unfold State.closeSession
  split <;> simp [foldl_mem, foldl_fst_mem]

@[simp] theorem State.closeOf_mem (s : State) (cl : Nat) : (State.closeOf s cl).mem = s.mem := by
  unfold State.closeOf
  split <;> simp [foldl_mem, foldl_fst_mem]

@[simp] theorem State.openHandshake_mem (s : State) (cl : Nat) (p : Nat) : (State.openHandshake s cl p).1.mem = s.mem := by
  simp [State.openHandshake]

@[simp] theorem State.authFails_mem (s : State) (cl : Nat) : (State.authFails s cl).mem = s.mem := by
  simp [State.authFails]

@[simp] theorem State.respond_mem (s : State) (cl : Nat) (mac : List Byte) : (State.respond s cl mac).1.mem = s.mem := by
  unfold State.respond
  dsimp only
  (repeat' split) <;> simp_all [foldl_mem, foldl_fst_mem]

@[simp] theorem State.writeKey_mem (s : State) (p : Nat) (data : List Byte) : (State.writeKey s p data).1.mem = s.mem := by
  simp [State.writeKey]

@[simp] theorem State.setSel_mem (s : State) (cl : Nat) (k : Nat) (v : Nat) : (State.setSel s cl k v).mem = s.mem := by
  unfold State.setSel
  split <;> simp [foldl_mem, foldl_fst_mem]

@[simp] theorem State.initiate_mem (s : State) (cl : Nat) : (State.initiate s cl).mem = s.mem := by
  simp [State.initiate]

@[simp] theorem State.initWrite_mem (s : State) (cl : Nat) (i : Nat) (j : Nat) (data : List Byte) : (State.initWrite s cl i j data).mem = s.mem := by
  simp [State.initWrite]

@[simp] theorem State.countRequest_mem (s : State) (cl : Nat) : (State.countRequest s cl).mem = s.mem := by
  simp [State.countRequest]

@[simp] theorem State.asked_mem (s : State) (cl : Nat) (i : Nat) (j : Nat) (data : List Byte) : (State.asked s cl i j data).mem = s.mem := by
  simp [State.asked]

@[simp] theorem State.afterEntry_mem (s : State) (cause : Nat) : (State.afterEntry s cause).mem = s.mem := by
  simp [State.afterEntry]

@[simp] theorem State.setBank_mem (s : State) (k : Nat) (f : Nat → Byte) (n : Nat) : (State.setBank s k f n).mem = s.mem := by
  rfl

@[simp] theorem State.tearBank_mem (s : State) (k : Nat) (step : Nat) (image : List Byte) : (State.tearBank s k step image).mem = s.mem := by
  simp [State.tearBank]

@[simp] theorem State.cutShort_mem (s : State) : (State.cutShort s).mem = s.mem := by
  simp [State.cutShort]

@[simp] theorem State.poisonAll_mem (s : State) : (State.poisonAll s).mem = s.mem := by
  rfl

@[simp] theorem State.latch_mem (s : State) : (State.latch s).mem = s.mem := by
  rfl

@[simp] theorem State.clearStreams_mem (s : State) : (State.clearStreams s).mem = s.mem := by
  simp [State.clearStreams, foldl_mem, foldl_fst_mem]

@[simp] theorem State.startFails_mem (s : State) (n : Nat) : (State.startFails s n).mem = s.mem := by
  simp [State.startFails]

@[simp] theorem State.sendFrame_mem (s : State) (id : Nat) (data : List Byte) : (State.sendFrame s id data).mem = s.mem := by
  rfl

@[simp] theorem State.served_mem (s : State) (cl : Nat) : (State.served s cl).mem = s.mem := by
  unfold State.served
  split <;> simp [foldl_mem, foldl_fst_mem]

@[simp] theorem State.answer_mem (s : State) (cl : Nat) (a : Answer) : (State.answer s cl a).mem = s.mem := by
  simp [State.answer]

@[simp] theorem State.readRegion_mem (s : State) (n : Nat) : (State.readRegion s n).mem = s.mem := by
  simp [State.readRegion]

@[simp] theorem State.readRegions_mem (s : State) (o : Order) : (State.readRegions s o).mem = s.mem := by
  simp [State.readRegions, foldl_mem, foldl_fst_mem]

@[simp] theorem State.noteRecord_mem (s : State) (k : Kind) (w : Nat) (o : Order) : (State.noteRecord s k w o).mem = s.mem := by
  simp [State.noteRecord]

@[simp] theorem State.logRepair_mem (s : State) (code : Nat) (l : Loc) : (State.logRepair s code l).mem = s.mem := by
  simp [State.logRepair]

@[simp] theorem State.mendCopy_mem (s : State) (k : Nat) : (State.mendCopy s k).mem = s.mem := by
  simp [State.mendCopy]

@[simp] theorem State.countNonfinite_mem (s : State) (r : Nat) (slot : Nat) (v : Val) : (State.countNonfinite s r slot v).mem = s.mem := by
  simp [State.countNonfinite]

@[simp] theorem State.paramGrads_mem (s : State) (r : Nat) (slot : Nat) (w : Nat) (rows : Nat) (f : Nat → Nat → Nat) : (State.paramGrads s r slot w rows f).mem = s.mem := by
  simp [State.paramGrads, foldl_mem, foldl_fst_mem]

@[simp] theorem State.starve_mem (s : State) (o : Order) (pn : Nat) : (State.starve s o pn).mem = s.mem := by
  simp [State.starve]

@[simp] theorem State.tagMismatch_mem (s : State) (o : Order) (pn : Nat) (a : Nat) : (State.tagMismatch s o pn a).mem = s.mem := by
  simp [State.tagMismatch]

@[simp] theorem State.consume_mem (s : State) (o : Order) (pn : Nat) (a : Nat) (n : Nat) : (State.consume s o pn a n).mem = s.mem := by
  unfold State.consume
  dsimp only
  (repeat' split) <;> simp_all [foldl_mem, foldl_fst_mem]

theorem execBeat_mem (pn : PanNo) (a : Fin 5) (cell : Fin 256) (s : State) : outMem s.mem (execBeat pn a cell s) := by
  unfold execBeat
  (repeat' split) <;> simp_all [foldl_mem, foldl_fst_mem]

@[simp] theorem State.chainFail_mem (s : State) (o : Order) : (State.chainFail s o).mem = s.mem := by
  rfl

@[simp] theorem State.openStreams_mem (s : State) (r : Nat) (slot : Nat) (mask : Nat) (role : Nat) (daddr : Nat) (d : Nat) (base : Nat) (hidden : List Nat) : (State.openStreams s r slot mask role daddr d base hidden).mem = s.mem := by
  rfl

@[simp] theorem State.startStreams_mem (s : State) (o : Order) : (State.startStreams s o).mem = s.mem := by
  unfold State.startStreams
  split <;> simp [foldl_mem, foldl_fst_mem]

@[simp] theorem State.wedge_mem (s : State) (n : Nat) (code : Nat) (l : Loc) : (State.wedge s n code l).mem = s.mem := by
  simp [State.wedge]

@[simp] theorem State.replay_mem (s : State) (m : Nat) (toEast : Bool) : (State.replay s m toEast).mem = s.mem := by
  simp [State.replay]

@[simp] theorem State.readHead_mem (s : State) (r : Nat) : (State.readHead s r).mem = s.mem := by
  have h (t : State) : ((t.haltRing r).event 0x0321).mem = t.mem := by
    rw [State.event_mem, State.haltRing_mem]
  simp only [State.readHead]
  split
  · rw [h, State.setRing_mem]
  · rw [State.setRing_mem]

theorem execRingPoll_mem (r : RingNo) (s : State) : outMem s.mem (execRingPoll r s) := by
  simp [execRingPoll]

theorem execBusError_mem (tec : Nat) (rec_ : Nat) (s : State) : outMem s.mem (execBusError tec rec_ s) := by
  simp [execBusError]

theorem execSequencerWatchdog_mem (s : State) : outMem s.mem (execSequencerWatchdog s) := by
  rfl

@[simp] theorem State.ensureRev_mem (s : State) (o : Order) : (State.ensureRev s o).mem = s.mem := by
  unfold State.ensureRev
  split <;> simp [foldl_mem, foldl_fst_mem]

theorem State.attNow_mem (s : State) (r : Nat) (slot : Nat) : optSndMem s.mem (State.attNow s r slot) := by
  unfold State.attNow
  (repeat' split) <;> simp_all [foldl_mem, foldl_fst_mem]

@[simp] theorem State.kvRoom_mem (s : State) (half : Nat) (n : Nat) (x_ : Nat) : (State.kvRoom s half n x_).mem = s.mem := by
  fun_induction State.kvRoom <;> simp_all

@[simp] theorem State.kvKeep_mem (s : State) (half : Nat) (a : Nat) (data : List Byte) : (State.kvKeep s half a data).mem = s.mem := by
  simp [State.kvKeep]

@[simp] theorem State.kvRead_mem (s : State) (half : Nat) (a : Nat) (n : Nat) : (State.kvRead s half a n).1.mem = s.mem := by
  unfold State.kvRead
  split <;> simp [foldl_mem, foldl_fst_mem]

@[simp] theorem State.markRan_mem (s : State) (r : Nat) (slot : Nat) : (State.markRan s r slot).mem = s.mem := by
  rfl

@[simp] theorem State.attEnd_mem (s : State) (o : Order) : (State.attEnd s o).mem = s.mem := by
  unfold State.attEnd
  split <;> simp [foldl_mem, foldl_fst_mem]

@[simp] theorem State.freeBuf_mem (s : State) (i : Nat) : (State.freeBuf s i).mem = s.mem := by
  rfl

@[simp] theorem State.moved_mem (s : State) (h : Nat) : (State.moved s h).mem = s.mem := by
  rfl

@[simp] theorem State.updBuf_mem (s : State) (i : Nat) (f : Buf → Buf) : (State.updBuf s i f).mem = s.mem := by
  rfl

@[simp] theorem State.repace_mem (s : State) (c : Nat) : (State.repace s c).mem = s.mem := by
  simp [State.repace]

@[simp] theorem State.repaceAll_mem (s : State) (l : Nat) : (State.repaceAll s l).mem = s.mem := by
  simp [State.repaceAll, foldl_mem, foldl_fst_mem]

@[simp] theorem State.pushHandle_mem (s : State) (l : Nat) (h : Handle) : (State.pushHandle s l h).mem = s.mem := by
  simp [State.pushHandle]

@[simp] theorem State.pushEnd_mem (s : State) (x : Stream) : (State.pushEnd s x).mem = s.mem := by
  unfold State.pushEnd
  split <;> simp [foldl_mem, foldl_fst_mem]

@[simp] theorem State.pushKind_mem (s : State) (b : Buf) (kind : Nat) : (State.pushKind s b kind).mem = s.mem := by
  simp [State.pushKind, foldl_mem, foldl_fst_mem]

@[simp] theorem State.pushReady_mem (s : State) (x : Stream) (x_ : Nat) : (State.pushReady s x x_).mem = s.mem := by
  fun_induction State.pushReady <;> simp_all

@[simp] theorem State.deferFault_mem (s : State) (i : Nat) (page : Nat) : (State.deferFault s i page).mem = s.mem := by
  unfold State.deferFault
  dsimp only
  (repeat' split) <;> simp_all [foldl_mem, foldl_fst_mem]

@[simp] theorem State.attFault_mem (s : State) (o : Option Order) (code : Nat) : (State.attFault s o code).mem = s.mem := by
  unfold State.attFault
  split <;> simp [foldl_mem, foldl_fst_mem]

@[simp] theorem State.walkFailed_mem (s : State) (o : Order) : (State.walkFailed s o).mem = s.mem := by
  unfold State.walkFailed
  dsimp only
  (repeat' split) <;> simp_all [foldl_mem, foldl_fst_mem]

theorem execOddGenerationWait_mem (r : RingNo) (slot : Nat) (_block : Nat) (s : State) : outMem s.mem (execOddGenerationWait r slot _block s) := by
  unfold execOddGenerationWait
  split <;> simp [foldl_mem, foldl_fst_mem]

@[simp] theorem State.writeBackAll_mem (s : State) (p : Nat → Bool) (keep : Bool) : (State.writeBackAll s p keep).mem = s.mem := by
  simp [State.writeBackAll]

@[simp] theorem State.flushRegion_mem (s : State) (n : Nat) : (State.flushRegion s n).mem = s.mem := by
  simp [State.flushRegion]

@[simp] theorem State.toStage_mem (s : State) (o : Order) (stage : Nat) (tiles : Nat) (ran : optParam Bool false) : (State.toStage s o stage tiles ran).mem = s.mem := by
  rfl

@[simp] theorem State.judgeGroup_mem (s : State) (o : Order) (x : HLayer) (k : Nat) : (State.judgeGroup s o x k).mem = s.mem := by
  simp [State.judgeGroup]

@[simp] theorem State.beginHarrow_mem (s : State) (o : Order) (x : HLayer) : (State.beginHarrow s o x).mem = s.mem := by
  simp [State.beginHarrow, foldl_mem, foldl_fst_mem]

@[simp] theorem State.countBad_mem (s : State) (o : Order) (n : Nat) : (State.countBad s o n).mem = s.mem := by
  simp [State.countBad, foldl_mem, foldl_fst_mem]

@[simp] theorem State.countRoot_mem (s : State) (o : Order) (r : Root) : (State.countRoot s o r).mem = s.mem := by
  simp [State.countRoot]

@[simp] theorem State.setDemand_mem (s : State) (o : Order) (d : Nat) : (State.setDemand s o d).mem = s.mem := by
  rfl

@[simp] theorem State.pushStaged_mem (s : State) (c : Nat) (x_ : Nat) : (State.pushStaged s c x_).mem = s.mem := by
  fun_induction State.pushStaged <;> simp_all

@[simp] theorem State.addPromo_mem (s : State) (x : Promo) : (State.addPromo s x).mem = s.mem := by
  rfl

@[simp] theorem State.handPromo_mem (s : State) (o : Order) (p : Plan) (pt : Part) (src : Nat) (a : Nat) (n : Nat) (c : Cursor) (v : Val) : (State.handPromo s o p pt src a n c v).mem = s.mem := by
  unfold State.handPromo
  split <;> simp [foldl_mem, foldl_fst_mem]

@[simp] theorem State.handFlake_mem (s : State) (o : Order) (p : Plan) (pt : Part) (src : Nat) (a : Nat) (n : Nat) (c : Cursor) : (State.handFlake s o p pt src a n c).mem = s.mem := by
  unfold State.handFlake
  split <;> simp [foldl_mem, foldl_fst_mem]

@[simp] theorem State.scalePromo_mem (s : State) (o : Order) (p : Plan) (ev : Nat) (ord : Nat) (i : Nat) (j : Nat) (v : Val) : (State.scalePromo s o p ev ord i j v).mem = s.mem := by
  unfold State.scalePromo
  split <;> simp [foldl_mem, foldl_fst_mem]

@[simp] theorem State.handCell_mem (s : State) (o : Order) (p : Plan) (pt : Part) (src : Nat) (a : Nat) (n : Nat) (thin : Bool) (c : Cell) (drain : FMap Nat) : (State.handCell s o p pt src a n thin c drain).1.mem = s.mem := by
  unfold State.handCell
  dsimp only
  (repeat' split) <;> simp_all [foldl_mem, foldl_fst_mem]

@[simp] theorem State.output_mem (s : State) (hub : Nat) (r : Nat) (slot : Nat) (ws : List (Nat × List Byte)) : (State.output s hub r slot ws).mem = s.mem := by
  simp [State.output]

@[simp] theorem State.handRow_mem (s : State) (o : Order) (pn : Nat) (a : Nat) (row : Nat) (thin : Bool) : (State.handRow s o pn a row thin).mem = s.mem := by
  unfold State.handRow
  dsimp only
  (repeat' split) <;> simp_all [foldl_mem, foldl_fst_mem]

theorem execChunkHandoff_mem (pn : PanNo) (a : Fin 5) (row : Fin 16) (s : State) : outMem s.mem (execChunkHandoff pn a row s) := by
  unfold execChunkHandoff
  dsimp only
  (repeat' split) <;> simp_all [foldl_mem, foldl_fst_mem]

@[simp] theorem State.issue_mem (s : State) (b : Buf) : (State.issue s b).mem = s.mem := by
  unfold State.issue
  grind [outMem, optMem, optFstMem, optSndMem, excMem, foldl_mem, State.enqueue_mem, State.mendCopy_mem, State.updBuf_mem]

theorem execPromotionEvent_mem (r : RingNo) (slot : Nat) (group : Nat) (s : State) : outMem s.mem (execPromotionEvent r slot group s) := by
  unfold execPromotionEvent
  split <;> simp [foldl_mem, foldl_fst_mem]

@[simp] theorem State.freeTags_mem (s : State) (h : Nat) (t : Tag) : (State.freeTags s h t).mem = s.mem := by
  unfold State.freeTags
  grind [outMem, optMem, optFstMem, optSndMem, excMem, foldl_mem, State.emit_mem, State.setStrm_mem]

@[simp] theorem State.chanMiss_mem (s : State) (c : Nat) (a : Nat) (n : Nat) : (State.chanMiss s c a n).mem = s.mem := by
  unfold State.chanMiss
  split <;> simp [foldl_mem, foldl_fst_mem]

@[simp] theorem State.readList_mem (s : State) (c : Nat) (write : Bool) (lo : Nat) (hi : Nat) (x_ : Nat) : (State.readList s c write lo hi x_).mem = s.mem := by
  fun_induction State.readList <;> simp_all

@[simp] theorem State.askBeats_mem (s : State) (c : Nat) (write : Bool) (buf : Nat) (lo : Nat) (data : List Byte) (l : List (Nat × Nat × Nat)) : (State.askBeats s c write buf lo data l).mem = s.mem := by
  simp [State.askBeats, foldl_mem, foldl_fst_mem]

@[simp] theorem State.popHandle_mem (s : State) (l : Nat) (hold : Bool) : (State.popHandle s l hold).mem = s.mem := by
  unfold State.popHandle
  dsimp only
  (repeat' split) <;> simp_all [foldl_mem, foldl_fst_mem]

@[simp] theorem State.badRead_mem (s : State) (h : Nat) (q : Req) (poisoned : Bool) : (State.badRead s h q poisoned).mem = s.mem := by
  simp [State.badRead]

@[simp] theorem State.epochFault_mem (s : State) (b : Buf) : (State.epochFault s b).mem = s.mem := by
  simp [State.epochFault]

@[simp] theorem State.tryFill_mem (s : State) (x : Stream) (b : Buf) : (State.tryFill s x b).mem = s.mem := by
  simp [State.tryFill]

@[simp] theorem State.filled_mem (s : State) (i : Nat) : (State.filled s i).mem = s.mem := by
  unfold State.filled
  (repeat' split) <;> simp_all [foldl_mem, foldl_fst_mem]

@[simp] theorem State.pushAll_mem (s : State) : (State.pushAll s).mem = s.mem := by
  simp [State.pushAll, foldl_mem, foldl_fst_mem]

@[simp] theorem State.openStage_mem (s : State) (c : Nat) : (State.openStage s c).mem = s.mem := by
  unfold State.openStage
  split <;> simp [foldl_mem, foldl_fst_mem]

@[simp] theorem State.dropBusXfers_mem (s : State) : (State.dropBusXfers s).mem = s.mem := by
  rfl

@[simp] theorem State.exhausted_mem (s : State) (k : LinkKind) : (State.exhausted s k).mem = s.mem := by
  unfold State.exhausted
  split <;> simp [foldl_mem, foldl_fst_mem]

@[simp] theorem State.turnOn_mem (s : State) (h : Nat) (q : Req) : (State.turnOn s h q).mem = s.mem := by
  rfl

@[simp] theorem State.markStale_mem (s : State) (key : Nat) (a : Nat) (n : Nat) : (State.markStale s key a n).mem = s.mem := by
  rfl

@[simp] theorem State.engineServed_mem (s : State) (c : Nat) (q : Req) : (State.engineServed s c q).mem = s.mem := by
  simp [State.engineServed]

@[simp] theorem State.halfCheck_mem (s : State) (c : Nat) : (State.halfCheck s c).mem = s.mem := by
  simp [State.halfCheck]

@[simp] theorem State.takeMask_mem (s : State) (o : Order) : (State.takeMask s o).mem = s.mem := by
  unfold State.takeMask
  split <;> simp [foldl_mem, foldl_fst_mem]

@[simp] theorem State.readError_mem (s : State) (cl : Nat) (i : Nat) (j : Nat) : (State.readError s cl i j).mem = s.mem := by
  simp [State.readError]

@[simp] theorem State.serveRead_mem (s : State) (cl : Nat) (i : Nat) (j : Nat) : (State.serveRead s cl i j).1.mem = s.mem := by
  unfold State.serveRead
  (repeat' split) <;> simp_all [foldl_mem, foldl_fst_mem]

@[simp] theorem State.setHubSteps_mem (s : State) (f : Nat → Nat → Nat) : (State.setHubSteps s f).mem = s.mem := by
  unfold State.setHubSteps
  grind [outMem, optMem, optFstMem, optSndMem, excMem, foldl_mem, State.bump_mem, State.setHub_mem]

theorem execThrottleStep_mem (s : State) : outMem s.mem (execThrottleStep s) := by
  simp [execThrottleStep]

theorem execEmergencyEnd_mem (s : State) : outMem s.mem (execEmergencyEnd s) := by
  simp [execEmergencyEnd]

@[simp] theorem State.quiesceFlush_mem (s : State) : (State.quiesceFlush s).mem = s.mem := by
  simp [State.quiesceFlush]

theorem execFlitReceived_mem (m : ModNo) (toEast : Bool) (words : List (BitVec 32)) (s : State) : outMem s.mem (execFlitReceived m toEast words s) := by
  simp [execFlitReceived]

theorem execLockoutExpiry_mem (cl : ClientNo) (s : State) : outMem s.mem (execLockoutExpiry cl s) := by
  simp [execLockoutExpiry]

theorem execRefclkRestored_mem (s : State) : outMem s.mem (execRefclkRestored s) := by
  rfl

@[simp] theorem State.startPans_mem (s : State) (o : Order) : (State.startPans s o).mem = s.mem := by
  unfold State.startPans
  grind [outMem, optMem, optFstMem, optSndMem, excMem, foldl_mem, State.setPan_mem]

@[simp] theorem State.markStalls_mem (s : State) : (State.markStalls s).mem = s.mem := by
  simp [State.markStalls, foldl_mem, foldl_fst_mem]

@[simp] theorem State.enterQuiesced_mem (s : State) : (State.enterQuiesced s).mem = s.mem := by
  rfl

theorem execOddEpochWait_mem (l : LaunderNo) (s : State) : outMem s.mem (execOddEpochWait l s) := by
  unfold execOddEpochWait
  (repeat' split) <;> simp_all [foldl_mem, foldl_fst_mem]

theorem execQuiesced_mem (s : State) : outMem s.mem (execQuiesced s) := by
  simp [execQuiesced]

theorem execRailAlertDeasserted_mem (s : State) : outMem s.mem (execRailAlertDeasserted s) := by
  rfl

theorem State.takeTiles_mem (s : State) (o : Order) (b : Buf) (pn : Nat) : optMem s.mem (State.takeTiles s o b pn) := by
  simp [State.takeTiles]

theorem State.letGo_mem (s : State) (h : Nat) (b : Buf) : optMem s.mem (State.letGo s h b) := by
  unfold State.letGo
  (repeat' split) <;> first
    | (simp; done)
    | exact optMem_foldl _ _ _ _ (fun s a hs => by rw [← hs]; exact State.takeTiles_mem _ _ _ _) (by simp)

@[simp] theorem State.releaseHead_mem (s : State) (l : Nat) (h : Handle) : (State.releaseHead s l h).mem = s.mem := by
  unfold State.releaseHead
  grind [outMem, optMem, optFstMem, optSndMem, excMem, foldl_mem, State.setQueue_mem, State.freeBuf_mem, State.moved_mem, State.letGo_mem]

@[simp] theorem State.handKept_mem (s : State) (o : Order) (pn : Nat) (hdr : Nat) : (State.handKept s o pn hdr).mem = s.mem := by
  simp [State.handKept, foldl_mem, foldl_fst_mem]

theorem execIslandLinkWord_mem (k : LinkKind) (parityOk : Bool) (s : State) : outMem s.mem (execIslandLinkWord k parityOk s) := by
  simp [execIslandLinkWord]

theorem State.levelStep_mem (s : State) (half : Nat) : optMem s.mem (State.levelStep s half) := by
  cases hr : s.nextRaise half <;> cases hd : s.nextLower half <;> simp [State.levelStep, hr, hd]

@[simp] theorem State.setBudget_mem (s : State) (half : Nat) (b : Int) : (State.setBudget s half b).mem = s.mem := by
  rfl

@[simp] theorem State.setWlb_mem (s : State) (k : Nat) (x : WlbEnt) : (State.setWlb s k x).mem = s.mem := by
  rfl

@[simp] theorem State.kvDrop_mem (s : State) (a : Nat) : (State.kvDrop s a).mem = s.mem := by
  rfl

@[simp] theorem State.wlbLook_mem (s : State) (w : Nat) (b : Nat) (g : Nat) (e : Nat) : (State.wlbLook s w b g e).1.mem = s.mem := by
  unfold State.wlbLook
  dsimp only
  (repeat' split) <;> simp_all [foldl_mem, foldl_fst_mem]

theorem execRippleLoad_mem (pn : PanNo) (s : State) : outMem s.mem (execRippleLoad pn s) := by
  unfold execRippleLoad
  dsimp only
  (repeat' split) <;> simp_all [foldl_mem, foldl_fst_mem]

@[simp] theorem State.handFlakes_mem (s : State) (o : Order) (pn : Nat) : (State.handFlakes s o pn).mem = s.mem := by
  unfold State.handFlakes
  grind [outMem, optMem, optFstMem, optSndMem, excMem, foldl_mem, State.handFlake_mem]

@[simp] theorem State.saveCrust_mem (s : State) (o : Order) (pn : Nat) : (State.saveCrust s o pn).mem = s.mem := by
  simp [State.saveCrust]

@[simp] theorem State.writeOut_mem (s : State) (h : Nat) (b : Buf) : (State.writeOut s h b).mem = s.mem := by
  simp [State.writeOut, foldl_mem, foldl_fst_mem]

theorem execStationaryLoad_mem (pn : PanNo) (a : Fin 5) (s : State) : outMem s.mem (execStationaryLoad pn a s) := by
  unfold execStationaryLoad
  dsimp only
  (repeat' split) <;> simp_all [foldl_mem, foldl_fst_mem]

theorem execPageInvalidation_mem (half : HalfNo) (page : Nat) (s : State) : outMem s.mem (execPageInvalidation half page s) := by
  simp [execPageInvalidation, foldl_mem, foldl_fst_mem]

@[simp] theorem State.holdStream_mem (s : State) (h : Nat) (b : Buf) : (State.holdStream s h b).mem = s.mem := by
  unfold State.holdStream
  split <;> simp [foldl_mem, foldl_fst_mem]

@[simp] theorem State.popHead_mem (s : State) (l : Nat) (h : Handle) : (State.popHead s l h).mem = s.mem := by
  unfold State.popHead
  (repeat' split) <;> simp_all [foldl_mem, foldl_fst_mem]

@[simp] theorem State.keepCopy_mem (s : State) (k : Nat) (data : List Byte) : (State.keepCopy s k data).mem = s.mem := by
  simp [State.keepCopy]

theorem execHubHeartbeat_mem (s : State) : outMem s.mem (execHubHeartbeat s) := by
  simp [execHubHeartbeat, foldl_mem, foldl_fst_mem]

@[simp] theorem State.stored_mem (s : State) (failedStep : Option Nat) : (State.stored s failedStep).mem = s.mem := by
  unfold State.stored
  split <;> simp [foldl_mem, foldl_fst_mem]

@[simp] theorem State.crustLost_mem (s : State) (o : Order) (pn : Nat) : (State.crustLost s o pn).mem = s.mem := by
  simp [State.crustLost]

theorem State.restore_mem (s : State) (o : Order) (pn : Nat) (c : Crust) : optMem s.mem (State.restore s o pn c) := by
  unfold State.restore
  dsimp only
  (repeat' split) <;> simp_all [foldl_mem, foldl_fst_mem]

theorem execCrustResume_mem (pn : PanNo) (parityError : Bool) (s : State) : outMem s.mem (execCrustResume pn parityError s) := by
  unfold execCrustResume
  dsimp only
  (repeat' split) <;> first
    | (simp; done)
    | exact State.restore_mem _ _ _ _ _ (by assumption)

theorem execRailEmg_mem (s : State) : outMem s.mem (execRailEmg s) := by
  simp [execRailEmg]

theorem execRemoteTimeout_mem (s : State) : outMem s.mem (execRemoteTimeout s) := by
  unfold execRemoteTimeout
  (repeat' split) <;> simp_all [foldl_mem, foldl_fst_mem]

theorem execRailCurrentSample_mem (half : HalfNo) (milliamps : Nat) (temps : List Nat) (s : State) : outMem s.mem (execRailCurrentSample half milliamps temps s) := by
  unfold execRailCurrentSample
  grind [outMem, optMem, optFstMem, optSndMem, excMem, foldl_mem, State.setObj_mem, State.fault_mem, State.weirReact_mem, State.setHub_mem]

theorem execUrgent_mem (h : HubNo) (q : Requester) (s : State) : outMem s.mem (execUrgent h q s) := by
  rfl

@[simp] theorem State.takeSettings_mem (s : State) (o : Order) : (State.takeSettings s o).mem = s.mem := by
  rfl

theorem execBankErased_mem (ok : Bool) (s : State) : outMem s.mem (execBankErased ok s) := by
  simp [execBankErased]

@[simp] theorem State.countMasked_mem (s : State) (o : Order) : (State.countMasked s o).mem = s.mem := by
  unfold State.countMasked
  split <;> simp [foldl_mem, foldl_fst_mem]

@[simp] theorem State.claimTarget_mem (s : State) (o : Order) : (State.claimTarget s o).mem = s.mem := by
  unfold State.claimTarget
  dsimp only
  (repeat' split) <;> simp_all [foldl_mem, foldl_fst_mem]

theorem execIdleTimeout_mem (sess : Nat) (s : State) : outMem s.mem (execIdleTimeout sess s) := by
  simp [execIdleTimeout]

theorem execStopRequest_mem (pn : PanNo) (cause : Nat) (s : State) : outMem s.mem (execStopRequest pn cause s) := by
  simp [execStopRequest]

theorem execRailAlert_mem (s : State) : outMem s.mem (execRailAlert s) := by
  simp [execRailAlert]

theorem execChallengeExpiry_mem (cl : ClientNo) (s : State) : outMem s.mem (execChallengeExpiry cl s) := by
  simp [execChallengeExpiry]

theorem execBusOff_mem (s : State) : outMem s.mem (execBusOff s) := by
  simp [execBusOff]

theorem execSlotCredit_mem (slot : Nat) (s : State) : outMem s.mem (execSlotCredit slot s) := by
  unfold execSlotCredit
  dsimp only
  (repeat' split) <;> simp_all [foldl_mem, foldl_fst_mem]

@[simp] theorem State.pushHub_mem (s : State) (h : Nat) : (State.pushHub s h).mem = s.mem := by
  simp [State.pushHub, foldl_mem, foldl_fst_mem]

theorem execTrainingAttemptTimeout_mem (s : State) : outMem s.mem (execTrainingAttemptTimeout s) := by
  simp [execTrainingAttemptTimeout]

@[simp] theorem State.startBuf_mem (s : State) (x : Stream) : (State.startBuf s x).mem = s.mem := by
  unfold State.startBuf
  grind [outMem, optMem, optFstMem, optSndMem, excMem, foldl_mem, State.setStrm_mem, State.updStream_mem, State.moved_mem, State.tryFill_mem]

theorem execBusOffRecovery_mem (s : State) : outMem s.mem (execBusOffRecovery s) := by
  simp [execBusOffRecovery]

@[simp] theorem State.walkPages_mem (s : State) (w : Nat) (b : Nat) (pages : List (Nat × Nat)) : (State.walkPages s w b pages).1.mem = s.mem := by
  simp [State.walkPages, foldl_mem, foldl_fst_mem]

theorem execModuleLeftActive_mem (m : ModNo) (s : State) : outMem s.mem (execModuleLeftActive m s) := by
  simp [execModuleLeftActive]

theorem execHeartbeat_mem (s : State) : outMem s.mem (execHeartbeat s) := by
  simp [execHeartbeat]

theorem execReplayTimeout_mem (m : ModNo) (toEast : Bool) (s : State) : outMem s.mem (execReplayTimeout m toEast s) := by
  simp [execReplayTimeout]

theorem execRefclkLost_mem (s : State) : outMem s.mem (execRefclkLost s) := by
  simp [execRefclkLost]

theorem execStillwater_mem (h : HubNo) (s : State) : outMem s.mem (execStillwater h s) := by
  simp [execStillwater]

theorem execCrustSave_mem (pn : PanNo) (s : State) : outMem s.mem (execCrustSave pn s) := by
  unfold execCrustSave
  dsimp only
  (repeat' split) <;> simp_all [foldl_mem, foldl_fst_mem]

theorem execPark_mem (pn : PanNo) (holds : ParkHold) (offset : Nat) (again : Bool) (s : State) : outMem s.mem (execPark pn holds offset again s) := by
  unfold execPark
  dsimp only
  (repeat' split) <;> simp_all [foldl_mem, foldl_fst_mem]

theorem execHandlePop_mem (l : LaunderNo) (release : Bool) (s : State) : outMem s.mem (execHandlePop l release s) := by
  unfold execHandlePop
  dsimp only
  (repeat' split) <;> simp_all [foldl_mem, foldl_fst_mem]

theorem State.pushGate_mem (s : State) (d : Nat) : optMem s.mem (State.pushGate s d) := by
  unfold State.pushGate
  dsimp only
  (repeat' split) <;> simp_all [foldl_mem, foldl_fst_mem]

theorem execThrottleRelease_mem (s : State) : outMem s.mem (execThrottleRelease s) := by
  simp [execThrottleRelease]

theorem execAutonomousRamp_mem (h : HubNo) (s : State) : outMem s.mem (execAutonomousRamp h s) := by
  simp [execAutonomousRamp]

theorem execGatePop_mem (l : LaunderNo) (s : State) : outMem s.mem (execGatePop l s) := by
  unfold execGatePop
  dsimp only
  (repeat' split) <;> simp_all [foldl_mem, foldl_fst_mem]

theorem execClockStepChange_mem (h : HubNo) (s : State) : outMem s.mem (execClockStepChange h s) := by
  unfold execClockStepChange
  grind [outMem, optMem, optFstMem, optSndMem, excMem, foldl_mem, State.setPan_mem, State.setBudget_mem]

theorem execCommitStored_mem (failedStep : Option Nat) (s : State) : outMem s.mem (execCommitStored failedStep s) := by
  simp [execCommitStored]

theorem execAutonomousMode_mem (h : HubNo) (s : State) : outMem s.mem (execAutonomousMode h s) := by
  simp [execAutonomousMode]

theorem execSegmentTimeout_mem (cl : ClientNo) (s : State) : outMem s.mem (execSegmentTimeout cl s) := by
  simp [execSegmentTimeout]

theorem execRakeFetch_mem (l : LaunderNo) (s : State) : outMem s.mem (execRakeFetch l s) := by
  unfold execRakeFetch
  (repeat' split) <;> simp_all [foldl_mem, foldl_fst_mem]
end Sys2Proof.Machine
end

