-- ==== Sys2Proof/Laws/FrameFns.lean ====
section
/-! SUPPORT. The operations and meanings through which no function record changes: one equation for each. -/

set_option linter.unusedSimpArgs false
set_option linter.unusedVariables false

namespace Sys2Proof.Machine

/-- The next state, if there is one, has this table of function records. -/
def outFns (m : FMap FnRec) (o : Host.Outcome State Fault Refusal) : Prop := match o with
  | .next t => t.fns = m
  | _ => True

/-- The state answered, if any, has it. -/
def optFns (m : FMap FnRec) (o : Option State) : Prop := ∀ t, o = some t → t.fns = m

/-- The state of a command that is not refused has it. -/
def excFns (m : FMap FnRec) (o : Except Nat State) : Prop := ∀ t, o = .ok t → t.fns = m

/-- The state of a pair has it. -/
def optFstFns {β : Type} (m : FMap FnRec) (o : Option (State × β)) : Prop := ∀ t, o = some t → t.1.fns = m

/-- The same, second of a pair. -/
def optSndFns {β : Type} (m : FMap FnRec) (o : Option (β × State)) : Prop := ∀ t, o = some t → t.2.fns = m

@[simp] theorem outFns_next (m) (s : State) : outFns m (.next s) ↔ s.fns = m := Iff.rfl

@[simp] theorem optFns_none (m) : optFns m none := by simp [optFns]

@[simp] theorem optFns_some (m) (s : State) : optFns m (some s) ↔ s.fns = m := by simp [optFns]

@[simp] theorem excFns_error (m) (c : Nat) : excFns m (.error c) := by simp [excFns]

@[simp] theorem excFns_ok (m) (s : State) : excFns m (.ok s) ↔ s.fns = m := by simp [excFns]

@[simp] theorem optFstFns_none {β : Type} (m) : optFstFns m (none : Option (State × β)) := by simp [optFstFns]

@[simp] theorem optFstFns_some {β : Type} (m) (s : State × β) : optFstFns m (some s) ↔ s.1.fns = m := by simp [optFstFns]

@[simp] theorem optSndFns_none {β : Type} (m) : optSndFns m (none : Option (β × State)) := by simp [optSndFns]

@[simp] theorem optSndFns_some {β : Type} (m) (s : β × State) : optSndFns m (some s) ↔ s.2.fns = m := by simp [optSndFns]

@[simp] theorem fns_ite (c : Prop) [Decidable c] (a b : State) : (if c then a else b).fns = if c then a.fns else b.fns := by split <;> rfl

@[simp] theorem fst_fns_ite {β : Type} (c : Prop) [Decidable c] (a b : State × β) : (if c then a else b).1.fns = if c then a.1.fns else b.1.fns := by split <;> rfl

@[simp] theorem outFns_ite (m) (c : Prop) [Decidable c] (a b) : outFns m (if c then a else b) ↔ if c then outFns m a else outFns m b := by split <;> rfl

@[simp] theorem optFns_ite (m) (c : Prop) [Decidable c] (a b) : optFns m (if c then a else b) ↔ if c then optFns m a else optFns m b := by split <;> rfl

@[simp] theorem excFns_ite (m) (c : Prop) [Decidable c] (a b) : excFns m (if c then a else b) ↔ if c then excFns m a else excFns m b := by split <;> rfl

@[simp] theorem optFstFns_ite {β : Type} (m) (c : Prop) [Decidable c] (a b : Option (State × β)) : optFstFns m (if c then a else b) ↔ if c then optFstFns m a else optFstFns m b := by split <;> rfl

theorem foldl_fns {α : Type} (g : State → α → State) (l : List α) (s : State) (hg : ∀ s a, (g s a).fns = s.fns) : (l.foldl g s).fns = s.fns := by
  induction l generalizing s with
  | nil => rfl
  | cons a t ih => simp [ih, hg]

theorem foldl_fst_fns {α β : Type} (g : State × β → α → State × β) (l : List α) (x : State × β) (hg : ∀ x a, (g x a).1.fns = x.1.fns) : (l.foldl g x).1.fns = x.1.fns := by
  induction l generalizing x with
  | nil => rfl
  | cons a t ih => simp [ih, hg]

theorem optFns_foldl {α : Type} (m) (g : State → α → Option State) (l : List α) (o : Option State) (hg : ∀ s a, s.fns = m → optFns m (g s a))
    (h : optFns m o) : optFns m (l.foldl (fun acc a => acc.bind (fun s => g s a)) o) := by
  induction l generalizing o with
  | nil => exact h
  | cons a t ih =>
    refine ih _ ?_
    cases o with
    | none => simp
    | some s => exact hg s a (by simpa using h)

theorem optFstFns_foldl {α β : Type} (m) (g : State × β → α → Option (State × β)) (l : List α) (o : Option (State × β))
    (hg : ∀ x a, x.1.fns = m → optFstFns m (g x a)) (h : optFstFns m o) : optFstFns m (l.foldl (fun acc a => acc.bind (fun x => g x a)) o) := by
  induction l generalizing o with
  | nil => exact h
  | cons a t ih =>
    refine ih _ ?_
    cases o with
    | none => simp
    | some s => exact hg s a (by simpa using h)


@[simp] theorem State.bump_fns (s : State) (w : Nat) (k : Nat) (n : Nat) : (State.bump s w k n).fns = s.fns := by
  simp [State.bump]

@[simp] theorem State.bump32_fns (s : State) (k : Nat) : (State.bump32 s k).fns = s.fns := by
  rfl

@[simp] theorem State.releasePans_fns (s : State) (causes : List Nat) : (State.releasePans s causes).fns = s.fns := by
  simp [State.releasePans]

@[simp] theorem State.weirUp_fns (s : State) : (State.weirUp s).fns = s.fns := by
  simp [State.weirUp]

@[simp] theorem State.event_fns (s : State) (code : Nat) : (State.event s code).fns = s.fns := by
  rfl

@[simp] theorem State.wrN_fns (s : State) (a : Nat) (n : Nat) (v : Nat) : (State.wrN s a n v).fns = s.fns := by
  rfl

@[simp] theorem State.setEntry_fns (s : State) (n : Nat) (e : Nat) : (State.setEntry s n e).fns = s.fns := by
  unfold State.setEntry
  dsimp only
  (repeat' split) <;> simp_all [foldl_fns, foldl_fst_fns]

theorem State.spill_fns (s : State) (n : Nat) : optFns s.fns (State.spill s n) := by
  unfold State.spill
  dsimp only
  (repeat' split) <;> simp_all [foldl_fns, foldl_fst_fns]

@[simp] theorem State.bump64_fns (s : State) (k : Nat) : (State.bump64 s k).fns = s.fns := by
  rfl

theorem State.deepen_fns (s : State) (seg : Nat) : optFns s.fns (State.deepen s seg) := by
  unfold State.deepen
  dsimp only
  (repeat' split) <;> simp_all [foldl_fns, foldl_fst_fns]

@[simp] theorem State.backPressure_fns (s : State) : (State.backPressure s).fns = s.fns := by
  simp [State.backPressure]

@[simp] theorem State.makeRoom_fns (s : State) (seg : Nat) (n : Nat) (x_ : Nat) : (State.makeRoom s seg n x_).1.fns = s.fns := by
  induction x_ generalizing s with
  | zero => rfl
  | succ m ih =>
    unfold State.makeRoom
    split
    · rfl
    · split
      · next k t ht =>
        obtain ⟨j, _, hm⟩ := Option.bind_eq_some_iff.1 ht
        obtain ⟨t', h1, h2⟩ := Option.map_eq_some_iff.1 hm
        cases h2
        simpa using State.spill_fns _ _ _ h1
      · split
        · split
          · next t ht => exact (ih t).trans (State.deepen_fns _ _ t ht)
          · simp
        · simp

@[simp] theorem State.relieve_fns (s : State) : (State.relieve s).fns = s.fns := by
  simp [State.relieve]

@[simp] theorem State.cacheRoom_fns (s : State) (n : Nat) (x_ : Nat) : (State.cacheRoom s n x_).fns = s.fns := by
  fun_induction State.cacheRoom <;> simp_all

@[simp] theorem State.acceptArrival_fns (s : State) (a : Arrival) (u : Nat) : (State.acceptArrival s a u).fns = s.fns := by
  simp [State.acceptArrival]

@[simp] theorem State.pumpPort_fns (s : State) (x_ : Nat) : (State.pumpPort s x_).fns = s.fns := by
  induction x_ generalizing s with
  | zero => rfl
  | succ m ih =>
    unfold State.pumpPort
    split
    · rfl
    · split
      · rfl
      · dsimp only
        split
        · split
          · rfl
          · rw [ih]; simp
        · split
          · split <;> simp
          · split
            · rfl
            · generalize hx : State.makeRoom _ _ _ _ = x
              have h1 : x.1.fns = s.fns := by subst hx; simp
              clear hx
              obtain ⟨t, u⟩ := x
              have h2 : t.fns = s.fns := h1
              clear h1
              cases u <;> simp [h2]

@[simp] theorem State.pump_fns (s : State) : (State.pump s).fns = s.fns := by
  simp [State.pump]

@[simp] theorem State.setMods_fns (s : State) (f : Nat → Mod → Mod) : (State.setMods s f).fns = s.fns := by
  rfl

@[simp] theorem State.cancelReads_fns (s : State) (i : Nat) : (State.cancelReads s i).fns = s.fns := by
  rfl

@[simp] theorem State.dropStaged_fns (s : State) (c : Nat) (p : Buf → Bool) : (State.dropStaged s c p).fns = s.fns := by
  simp [State.dropStaged, foldl_fns, foldl_fst_fns]

@[simp] theorem State.dmaPend_fns (s : State) (sub : Nat) (c : Nat) : (State.dmaPend s sub c).fns = s.fns := by
  rfl

@[simp] theorem State.refetch_fns (s : State) (p : Buf → Bool) : (State.refetch s p).fns = s.fns := by
  simp [State.refetch]

@[simp] theorem State.store_fns (s : State) (a : Nat) (l : List Byte) : (State.store s a l).fns = s.fns := by
  simp [State.store]

@[simp] theorem State.storeN_fns (s : State) (a : Nat) (n : Nat) (v : Nat) : (State.storeN s a n v).fns = s.fns := by
  simp [State.storeN]

@[simp] theorem State.dmaStatus_fns (s : State) (c : Nat) (code : Nat) (fcode : Nat) (ended : Bool) : (State.dmaStatus s c code fcode ended).fns = s.fns := by
  simp [State.dmaStatus]

@[simp] theorem State.startChan_fns (s : State) (c : Nat) : (State.startChan s c).fns = s.fns := by
  rfl

@[simp] theorem State.finishAbort_fns (s : State) (c : Nat) : (State.finishAbort s c).fns = s.fns := by
  simp [State.finishAbort]

@[simp] theorem State.abortChan_fns (s : State) (c : Nat) : (State.abortChan s c).fns = s.fns := by
  simp [State.abortChan]

@[simp] theorem State.abortChans_fns (s : State) : (State.abortChans s).fns = s.fns := by
  simp [State.abortChans, foldl_fns, foldl_fst_fns]

@[simp] theorem State.dropHeldWrites_fns (s : State) (r : Nat) (slot : Nat) : (State.dropHeldWrites s r slot).fns = s.fns := by
  rfl

@[simp] theorem State.dropStreams_fns (s : State) (r : Nat) (slot : Nat) : (State.dropStreams s r slot).fns = s.fns := by
  simp [State.dropStreams, foldl_fns, foldl_fst_fns]

@[simp] theorem State.miss_fns (s : State) (half : Nat) (page : Nat) : (State.miss s half page).fns = s.fns := by
  simp [State.miss]

@[simp] theorem State.missFor_fns (s : State) (q : Req) : (State.missFor s q).fns = s.fns := by
  simp [State.missFor, foldl_fns, foldl_fst_fns]

@[simp] theorem State.updOrder_fns (s : State) (r : Nat) (slot : Nat) (f : Order → Order) : (State.updOrder s r slot f).fns = s.fns := by
  rfl

@[simp] theorem State.orderEvent_fns (s : State) (r : Nat) (slot : Nat) (b : Nat) : (State.orderEvent s r slot b).fns = s.fns := by
  rfl

@[simp] theorem State.holdWrite_fns (s : State) (q : Req) : (State.holdWrite s q).fns = s.fns := by
  rfl

@[simp] theorem State.judgeWrites_fns (s : State) (h : Nat) : (State.judgeWrites s h).fns = s.fns := by
  unfold State.judgeWrites
  grind [outFns, optFns, optFstFns, optSndFns, excFns, foldl_fns, State.holdWrite_fns]

@[simp] theorem State.enqueue_fns (s : State) (q : Req) : (State.enqueue s q).fns = s.fns := by
  simp [State.enqueue, foldl_fns, foldl_fst_fns]

@[simp] theorem State.writeRun_fns (s : State) (h : Nat) (who : Requester) (ring : Nat) (slot : Nat) (buf : Nat) (a : Nat) (l : List Byte) : (State.writeRun s h who ring slot buf a l).fns = s.fns := by
  simp [State.writeRun, foldl_fns, foldl_fst_fns]

@[simp] theorem State.storeGroup_fns (s : State) (k : Nat) (f : Frame) : (State.storeGroup s k f).fns = s.fns := by
  simp [State.storeGroup]

@[simp] theorem State.dropFrame_fns (s : State) (k : Nat) : (State.dropFrame s k).fns = s.fns := by
  rfl

@[simp] theorem State.writeBackGood_fns (s : State) (p : Nat → Bool) (keep : Bool) : (State.writeBackGood s p keep).fns = s.fns := by
  simp [State.writeBackGood, foldl_fns, foldl_fst_fns]

@[simp] theorem State.disturb_fns (s : State) : (State.disturb s).fns = s.fns := by
  simp [State.disturb]

@[simp] theorem State.eventIf_fns (s : State) (b : Bool) (code : Nat) : (State.eventIf s b code).fns = s.fns := by
  simp [State.eventIf]

@[simp] theorem State.logFault_fns (s : State) (e : LogEnt) : (State.logFault s e).fns = s.fns := by
  rfl

@[simp] theorem State.failOrders_fns (s : State) (p : Order → Bool) (code : Nat) : (State.failOrders s p code).fns = s.fns := by
  rfl

@[simp] theorem State.stopPans_fns (s : State) (p : Nat → Pan → Bool) (cause : Nat) : (State.stopPans s p cause).fns = s.fns := by
  rfl

@[simp] theorem State.poison_fns (s : State) (n : Nat) : (State.poison s n).fns = s.fns := by
  rfl

@[simp] theorem State.discardCrusts_fns (s : State) (p : Crust → Bool) : (State.discardCrusts s p).fns = s.fns := by
  simp [State.discardCrusts]

@[simp] theorem State.putFrame_fns (s : State) (k : Nat) (f : Frame) : (State.putFrame s k f).fns = s.fns := by
  rfl

@[simp] theorem State.countPromotion_fns (s : State) (r : Nat) (slot : Nat) (lapse : Bool) (bit : Bool) (deep : Bool) (nf : Nat) : (State.countPromotion s r slot lapse bit deep nf).fns = s.fns := by
  simp [State.countPromotion, foldl_fns, foldl_fst_fns]

@[simp] theorem State.disarm_fns (s : State) : (State.disarm s).fns = s.fns := by
  rfl

@[simp] theorem State.putPromoted_fns (s : State) (hub : Nat) (key : Nat) (f : Frame) (vals : List (Nat × Val)) : (State.putPromoted s hub key f vals).fns = s.fns := by
  simp [State.putPromoted]

@[simp] theorem State.setRev_fns (s : State) (v : Rev) : (State.setRev s v).fns = s.fns := by
  rfl

@[simp] theorem State.countOut_fns (s : State) (r : Nat) (slot : Nat) (sub : Nat) : (State.countOut s r slot sub).fns = s.fns := by
  simp [State.countOut]

@[simp] theorem State.attWrite_fns (s : State) (o : Order) (base : Nat) (fm : Nat) (f : Nat → Nat → Nat → Nat) : (State.attWrite s o base fm f).fns = s.fns := by
  simp [State.attWrite, foldl_fns, foldl_fst_fns]

@[simp] theorem State.attDrain_fns (s : State) (o : Order) (v : Rev) : (State.attDrain s o v).fns = s.fns := by
  simp [State.attDrain, foldl_fns, foldl_fst_fns]

@[simp] theorem State.stepElem_fns (s : State) (o : Order) (x : HLayer) (ic1 : Nat) (i : Nat) (j : Nat) (u : Nat) : (State.stepElem s o x ic1 i j u).fns = s.fns := by
  unfold State.stepElem
  dsimp only
  (repeat' split) <;> simp_all [foldl_fns, foldl_fst_fns]

@[simp] theorem State.startRing_fns (s : State) (r : Nat) : (State.startRing s r).fns = s.fns := by
  rfl

@[simp] theorem State.drainRing_fns (s : State) (r : Nat) : (State.drainRing s r).fns = s.fns := by
  simp [State.drainRing]

theorem State.ringControl_fns (s : State) (r : Nat) (code : Nat) : optFns s.fns (State.ringControl s r code) := by
  unfold State.ringControl
  dsimp only
  (repeat' split) <;> simp_all [foldl_fns, foldl_fst_fns]

@[simp] theorem State.dropWin_fns (s : State) (n : Nat) : (State.dropWin s n).fns = s.fns := by
  rfl

@[simp] theorem State.clearRegion_fns (s : State) (n : Nat) : (State.clearRegion s n).fns = s.fns := by
  rfl

@[simp] theorem State.endHarrow_fns (s : State) (o : Order) (ok : Bool) : (State.endHarrow s o ok).fns = s.fns := by
  unfold State.endHarrow
  split <;> simp [foldl_fns, foldl_fst_fns]

@[simp] theorem State.publish_fns (s : State) (l : Nat) (a : Nat) (x_ : Nat) : (State.publish s l a x_).fns = s.fns := by
  fun_induction State.publish <;> simp_all

@[simp] theorem State.readQds_fns (s : State) (l : List Nat) : (State.readQds s l).fns = s.fns := by
  simp [State.readQds, foldl_fns, foldl_fst_fns]

@[simp] theorem State.reread_fns (s : State) (n : Nat) : (State.reread s n).fns = s.fns := by
  simp [State.reread]

@[simp] theorem State.settle_fns (s : State) (o : Order) (ok : Bool) : (State.settle s o ok).fns = s.fns := by
  simp [State.settle]

@[simp] theorem State.freePans_fns (s : State) (r : Nat) (slot : Nat) (status : Nat) : (State.freePans s r slot status).fns = s.fns := by
  simp [State.freePans]

@[simp] theorem State.leave_fns (s : State) (o : Order) (status : Nat) : (State.leave s o status).fns = s.fns := by
  simp [State.leave]

@[simp] theorem State.setComing_fns (s : State) (o : Order) (n : Nat) (e : Nat) : (State.setComing s o n e).fns = s.fns := by
  rfl

@[simp] theorem State.forsake_fns (s : State) (o : Order) (n : Nat) : (State.forsake s o n).fns = s.fns := by
  rfl

@[simp] theorem State.arrived_fns (s : State) (o : Order) (n : Nat) (rec_ : Nat → Nat) : (State.arrived s o n rec_).fns = s.fns := by
  simp [State.arrived]

@[simp] theorem State.closeOutput_fns (s : State) (o : Order) (ok : Bool) : (State.closeOutput s o ok).fns = s.fns := by
  simp [State.closeOutput]

@[simp] theorem State.unpin_fns (s : State) (p : Option (Nat × Nat)) : (State.unpin s p).fns = s.fns := by
  unfold State.unpin
  split <;> simp [foldl_fns, foldl_fst_fns]

@[simp] theorem State.unpinSlots_fns (s : State) (o : Order) : (State.unpinSlots s o).fns = s.fns := by
  simp [State.unpinSlots, foldl_fns, foldl_fst_fns]

@[simp] theorem State.freeEntry_fns (s : State) (n : Nat) : (State.freeEntry s n).fns = s.fns := by
  simp [State.freeEntry]

@[simp] theorem State.releaseEntry_fns (s : State) (n : Nat) : (State.releaseEntry s n).fns = s.fns := by
  simp [State.releaseEntry]

@[simp] theorem State.unpinEntry_fns (s : State) (n : Nat) : (State.unpinEntry s n).fns = s.fns := by
  simp [State.unpinEntry]

@[simp] theorem State.unpinAll_fns (s : State) (o : Order) (ok : Bool) : (State.unpinAll s o ok).fns = s.fns := by
  simp [State.unpinAll, foldl_fns, foldl_fst_fns]

@[simp] theorem State.countDone_fns (s : State) (o : Order) : (State.countDone s o).fns = s.fns := by
  simp [State.countDone]

@[simp] theorem State.takeBack_fns (s : State) (q : Nat × Nat) : (State.takeBack s q).fns = s.fns := by
  unfold State.takeBack
  grind [outFns, optFns, optFstFns, optSndFns, excFns, foldl_fns, State.updOrder_fns, State.setPan_fns]

@[simp] theorem State.cplBit_fns (s : State) (r : Nat) : (State.cplBit s r).fns = s.fns := by
  rfl

@[simp] theorem State.haltRing_fns (s : State) (r : Nat) : (State.haltRing s r).fns = s.fns := by
  rfl

@[simp] theorem State.record_fns (s : State) (o : Order) (status : Nat) (code : Nat) : (State.record s o status code).fns = s.fns := by
  simp [State.record]

@[simp] theorem State.closeOrder_fns (s : State) (o : Order) (status : Nat) (code : Nat) : (State.closeOrder s o status code).fns = s.fns := by
  simp [State.closeOrder, foldl_fns, foldl_fst_fns]

theorem State.chanControl_fns (s : State) (c : Nat) (code : Nat) : optFns s.fns (State.chanControl s c code) := by
  simp [State.chanControl]

@[simp] theorem State.settleStop_fns (s : State) (pn : Nat) : (State.settleStop s pn).fns = s.fns := by
  simp [State.settleStop]

@[simp] theorem State.unholdPan_fns (s : State) (pn : Nat) : (State.unholdPan s pn).fns = s.fns := by
  simp [State.unholdPan]

@[simp] theorem State.unholdPans_fns (s : State) (x : Stream) : (State.unholdPans s x).fns = s.fns := by
  simp [State.unholdPans, foldl_fns, foldl_fst_fns]

@[simp] theorem State.updStream_fns (s : State) (x : Stream) (f : Stream → Stream) : (State.updStream s x f).fns = s.fns := by
  rfl

@[simp] theorem State.resumeRead_fns (s : State) (x : Stream) : (State.resumeRead s x).fns = s.fns := by
  unfold State.resumeRead
  grind [outFns, optFns, optFstFns, optSndFns, excFns, foldl_fns, State.setStrm_fns, State.cancelReads_fns, State.setQueue_fns, State.unholdPans_fns, State.updStream_fns]

@[simp] theorem State.resumeWrites_fns (s : State) (l : Nat) : (State.resumeWrites s l).fns = s.fns := by
  simp [State.resumeWrites, foldl_fns, foldl_fst_fns]

@[simp] theorem State.resumeStream_fns (s : State) (l : Nat) : (State.resumeStream s l).fns = s.fns := by
  unfold State.resumeStream
  dsimp only
  (repeat' split) <;> simp_all [foldl_fns, foldl_fst_fns]

@[simp] theorem State.testStop_fns (s : State) (mask : Nat) : (State.testStop s mask).fns = s.fns := by
  rfl

@[simp] theorem State.testResume_fns (s : State) (mask : Nat) : (State.testResume s mask).fns = s.fns := by
  simp [State.testResume]

@[simp] theorem State.clearWlb_fns (s : State) (p : Nat → WlbEnt → Bool) : (State.clearWlb s p).fns = s.fns := by
  rfl

@[simp] theorem State.capture_fns (s : State) : (State.capture s).fns = s.fns := by
  simp [State.capture]

@[simp] theorem State.setPages_fns (s : State) (l : List KvPage) : (State.setPages s l).fns = s.fns := by
  rfl

@[simp] theorem State.dropCaches_fns (s : State) : (State.dropCaches s).fns = s.fns := by
  simp [State.dropCaches, foldl_fns, foldl_fst_fns]

@[simp] theorem State.setSplit_fns (s : State) (v : Nat) : (State.setSplit s v).fns = s.fns := by
  simp [State.setSplit, foldl_fns, foldl_fst_fns]

@[simp] theorem State.setTestThrottle_fns (s : State) (v : Nat) : (State.setTestThrottle s v).fns = s.fns := by
  simp [State.setTestThrottle]

@[simp] theorem State.noteEmergency_fns (s : State) : (State.noteEmergency s).fns = s.fns := by
  simp [State.noteEmergency]

@[simp] theorem State.noteTriggers_fns (s : State) : (State.noteTriggers s).fns = s.fns := by
  simp [State.noteTriggers]

@[simp] theorem State.weirReact_fns (s : State) : (State.weirReact s).fns = s.fns := by
  simp [State.weirReact]

@[simp] theorem State.applyObj_fns (s : State) (i : Nat) (j : Nat) (v : Nat) : (State.applyObj s i j v).fns = s.fns := by
  simp [State.applyObj]

@[simp] theorem State.commit_fns (s : State) (priv : Nat) : (State.commit s priv).1.fns = s.fns := by
  unfold State.commit
  dsimp only
  (repeat' split) <;> simp_all [foldl_fns, foldl_fst_fns]

@[simp] theorem State.commitControl_fns (s : State) (priv : Nat) (code : Nat) : (State.commitControl s priv code).1.fns = s.fns := by
  simp [State.commitControl]

@[simp] theorem State.skipStill_fns (s : State) : (State.skipStill s).fns = s.fns :=
  foldl_fns _ _ _ fun s h => by simp

@[simp] theorem State.snapSettle_fns (s : State) : (State.snapSettle s).fns = s.fns := by
  unfold State.snapSettle
  split
  · rw [State.pump_fns, State.setSnap_fns, State.skipStill_fns]
  · rfl

theorem State.snapControl_fns (s : State) (code : Nat) : excFns s.fns (State.snapControl s code) := by
  simp [State.snapControl]

@[simp] theorem State.ackLog_fns (s : State) : (State.ackLog s).fns = s.fns := by
  rfl

@[simp] theorem State.restoreRegion_fns (s : State) (n : Nat) : (State.restoreRegion s n).fns = s.fns := by
  simp [State.restoreRegion]

@[simp] theorem State.countAnswer_fns (s : State) (cl : Nat) : (State.countAnswer s cl).fns = s.fns := by
  simp [State.countAnswer]

@[simp] theorem State.abortXfer_fns (s : State) (cl : Nat) (code : Nat) : (State.abortXfer s cl code).fns = s.fns := by
  unfold State.abortXfer
  split <;> simp [foldl_fns, foldl_fst_fns]

@[simp] theorem State.closeSession_fns (s : State) (n : Nat) : (State.closeSession s n).fns = s.fns := by
  unfold State.closeSession
  split <;> simp [foldl_fns, foldl_fst_fns]

@[simp] theorem State.closeOf_fns (s : State) (cl : Nat) : (State.closeOf s cl).fns = s.fns := by
  unfold State.closeOf
  split <;> simp [foldl_fns, foldl_fst_fns]

@[simp] theorem State.openHandshake_fns (s : State) (cl : Nat) (p : Nat) : (State.openHandshake s cl p).1.fns = s.fns := by
  simp [State.openHandshake]

@[simp] theorem State.authFails_fns (s : State) (cl : Nat) : (State.authFails s cl).fns = s.fns := by
  simp [State.authFails]

@[simp] theorem State.respond_fns (s : State) (cl : Nat) (mac : List Byte) : (State.respond s cl mac).1.fns = s.fns := by
  unfold State.respond
  dsimp only
  (repeat' split) <;> simp_all [foldl_fns, foldl_fst_fns]

@[simp] theorem State.writeKey_fns (s : State) (p : Nat) (data : List Byte) : (State.writeKey s p data).1.fns = s.fns := by
  simp [State.writeKey]

@[simp] theorem State.setSel_fns (s : State) (cl : Nat) (k : Nat) (v : Nat) : (State.setSel s cl k v).fns = s.fns := by
  unfold State.setSel
  split <;> simp [foldl_fns, foldl_fst_fns]

@[simp] theorem State.initiate_fns (s : State) (cl : Nat) : (State.initiate s cl).fns = s.fns := by
  simp [State.initiate]

@[simp] theorem State.initWrite_fns (s : State) (cl : Nat) (i : Nat) (j : Nat) (data : List Byte) : (State.initWrite s cl i j data).fns = s.fns := by
  simp [State.initWrite]

@[simp] theorem State.countRequest_fns (s : State) (cl : Nat) : (State.countRequest s cl).fns = s.fns := by
  simp [State.countRequest]

@[simp] theorem State.asked_fns (s : State) (cl : Nat) (i : Nat) (j : Nat) (data : List Byte) : (State.asked s cl i j data).fns = s.fns := by
  simp [State.asked]

@[simp] theorem State.setBank_fns (s : State) (k : Nat) (f : Nat → Byte) (n : Nat) : (State.setBank s k f n).fns = s.fns := by
  rfl

@[simp] theorem State.tearBank_fns (s : State) (k : Nat) (step : Nat) (image : List Byte) : (State.tearBank s k step image).fns = s.fns := by
  simp [State.tearBank]

@[simp] theorem State.cutShort_fns (s : State) : (State.cutShort s).fns = s.fns := by
  simp [State.cutShort]

@[simp] theorem State.poisonAll_fns (s : State) : (State.poisonAll s).fns = s.fns := by
  rfl

@[simp] theorem State.latch_fns (s : State) : (State.latch s).fns = s.fns := by
  rfl

@[simp] theorem State.loadRecord_fns (s : State) (r : BankRec) : (State.loadRecord s r).1.fns = s.fns := by
  unfold State.loadRecord
  split <;> simp [foldl_fns, foldl_fst_fns]

@[simp] theorem State.loadRecords_fns (s : State) (rs : List BankRec) : (State.loadRecords s rs).fns = s.fns := by
  simp [State.loadRecords, foldl_fns, foldl_fst_fns]

@[simp] theorem State.loadConfig_fns (s : State) (parityA : Bool) (parityB : Bool) : (State.loadConfig s parityA parityB).fns = s.fns := by
  simp [State.loadConfig]

@[simp] theorem State.clearStreams_fns (s : State) : (State.clearStreams s).fns = s.fns := by
  simp [State.clearStreams, foldl_fns, foldl_fst_fns]

@[simp] theorem State.resetEntries_fns (s : State) : (State.resetEntries s).fns = s.fns := by
  rfl

@[simp] theorem State.startWork_fns (s : State) (n : Nat) : (State.startWork s n).fns = s.fns := by
  simp [State.startWork]

@[simp] theorem State.sendFrame_fns (s : State) (id : Nat) (data : List Byte) : (State.sendFrame s id data).fns = s.fns := by
  rfl

@[simp] theorem State.served_fns (s : State) (cl : Nat) : (State.served s cl).fns = s.fns := by
  unfold State.served
  split <;> simp [foldl_fns, foldl_fst_fns]

@[simp] theorem State.answer_fns (s : State) (cl : Nat) (a : Answer) : (State.answer s cl a).fns = s.fns := by
  simp [State.answer]

@[simp] theorem State.refuse_fns (s : State) (o : Order) (code : Nat) : (State.refuse s o code).fns = s.fns := by
  simp [State.refuse]

@[simp] theorem State.advance_fns (s : State) (r : Nat) : (State.advance s r).fns = s.fns := by
  simp [State.advance]

@[simp] theorem State.pinEntry_fns (s : State) (n : Nat) : (State.pinEntry s n).fns = s.fns := by
  simp [State.pinEntry]

@[simp] theorem State.pinEntries_fns (s : State) (o : Order) : (State.pinEntries s o).1.fns = s.fns := by
  simp [State.pinEntries, foldl_fns, foldl_fst_fns]

@[simp] theorem State.accept_fns (s : State) (o : Order) : (State.accept s o).fns = s.fns := by
  simp [State.accept]

@[simp] theorem State.judge_fns (s : State) (o : Order) : (State.judge s o).fns = s.fns := by
  unfold State.judge
  split <;> simp [foldl_fns, foldl_fst_fns]

@[simp] theorem State.readRegion_fns (s : State) (n : Nat) : (State.readRegion s n).fns = s.fns := by
  simp [State.readRegion]

@[simp] theorem State.readRegions_fns (s : State) (o : Order) : (State.readRegions s o).fns = s.fns := by
  simp [State.readRegions, foldl_fns, foldl_fst_fns]

@[simp] theorem State.noteRecord_fns (s : State) (k : Kind) (w : Nat) (o : Order) : (State.noteRecord s k w o).fns = s.fns := by
  simp [State.noteRecord]

@[simp] theorem State.readOrder_fns (s : State) (r : Nat) : (State.readOrder s r).fns = s.fns := by
  unfold State.readOrder
  dsimp only
  (repeat' split) <;> simp_all [foldl_fns, foldl_fst_fns]

theorem State.readAs_fns (s : State) (r : Nat) (p : Kind → Bool) : outFns s.fns (State.readAs s r p) := by
  simp [State.readAs]

@[simp] theorem State.logRepair_fns (s : State) (code : Nat) (l : Loc) : (State.logRepair s code l).fns = s.fns := by
  simp [State.logRepair]

@[simp] theorem State.mendCopy_fns (s : State) (k : Nat) : (State.mendCopy s k).fns = s.fns := by
  simp [State.mendCopy]

@[simp] theorem State.countNonfinite_fns (s : State) (r : Nat) (slot : Nat) (v : Val) : (State.countNonfinite s r slot v).fns = s.fns := by
  simp [State.countNonfinite]

@[simp] theorem State.runProduct_fns (s : State) (v : State) (o : Order) (out : Nat) : (State.runProduct s v o out).fns = s.fns := by
  simp [State.runProduct, foldl_fns, foldl_fst_fns]

@[simp] theorem State.boilOut_fns (s : State) (r : Nat) (slot : Nat) (w : Nat) (base : Nat) (d : Nat) (q : Nat) (f : Nat → Nat → Nat) : (State.boilOut s r slot w base d q f).fns = s.fns := by
  simp [State.boilOut, foldl_fns, foldl_fst_fns]

@[simp] theorem State.runNorm_fns (s : State) (v : State) (r : Nat) (slot : Nat) (w : Nat) (out : Nat) (q : Nat) : (State.runNorm s v r slot w out q).fns = s.fns := by
  simp [State.runNorm]

@[simp] theorem State.runSoftmax_fns (s : State) (v : State) (r : Nat) (slot : Nat) (w : Nat) (out : Nat) (q : Nat) : (State.runSoftmax s v r slot w out q).fns = s.fns := by
  simp [State.runSoftmax]

@[simp] theorem State.runSoftmaxb_fns (s : State) (v : State) (r : Nat) (slot : Nat) (w : Nat) (out : Nat) (q : Nat) : (State.runSoftmaxb s v r slot w out q).fns = s.fns := by
  simp [State.runSoftmaxb]

@[simp] theorem State.runPoint_fns (s : State) (v : State) (r : Nat) (slot : Nat) (w : Nat) (out : Nat) (q : Nat) : (State.runPoint s v r slot w out q).fns = s.fns := by
  simp [State.runPoint]

@[simp] theorem State.runPointb_fns (s : State) (v : State) (r : Nat) (slot : Nat) (w : Nat) (out : Nat) (q : Nat) : (State.runPointb s v r slot w out q).fns = s.fns := by
  simp [State.runPointb]

@[simp] theorem State.runDwconv_fns (s : State) (v : State) (r : Nat) (slot : Nat) (w : Nat) (out : Nat) (q : Nat) : (State.runDwconv s v r slot w out q).fns = s.fns := by
  simp [State.runDwconv]

@[simp] theorem State.viewEntry_fns (s : State) (k : Nat) : (State.viewEntry s k).fns = s.fns := by
  simp [State.viewEntry]

@[simp] theorem State.starve_fns (s : State) (o : Order) (pn : Nat) : (State.starve s o pn).fns = s.fns := by
  simp [State.starve]

@[simp] theorem State.putHeaderBit_fns (s : State) (a : Nat) (off : Nat) (k : Nat) (v : Bool) : (State.putHeaderBit s a off k v).fns = s.fns := by
  simp [State.putHeaderBit]

@[simp] theorem State.chainFail_fns (s : State) (o : Order) : (State.chainFail s o).fns = s.fns := by
  rfl

theorem State.displace_fns (s : State) (seg : Nat) : optFns s.fns (State.displace s seg) := by
  unfold State.displace
  split <;> simp [foldl_fns, foldl_fst_fns]

theorem State.takeScratch_fns (s : State) (seg : Nat) (n : Nat) (x_ : Nat) : optFstFns s.fns (State.takeScratch s seg n x_) := by
  induction x_ generalizing s with
  | zero => intro t h; exact absurd h (by simp [State.takeScratch])
  | succ k ih =>
    intro t h
    unfold State.takeScratch at h
    split at h
    · cases h; rfl
    · split at h
      · exact absurd h (by simp)
      · next s' hs => exact (ih s' t h).trans (State.displace_fns _ _ _ hs)

theorem State.reserve_fns (s : State) (o : Order) (n : Nat) (t : Nat) (width : Nat) (ofm : Nat) : optFns s.fns (State.reserve s o n t width ofm) := by
  unfold State.reserve
  grind [outFns, optFns, optFstFns, optSndFns, excFns, foldl_fns, State.setComing_fns, State.takeScratch_fns]

@[simp] theorem State.openStreams_fns (s : State) (r : Nat) (slot : Nat) (mask : Nat) (role : Nat) (daddr : Nat) (d : Nat) (base : Nat) (hidden : List Nat) : (State.openStreams s r slot mask role daddr d base hidden).fns = s.fns := by
  rfl

@[simp] theorem State.startStreams_fns (s : State) (o : Order) : (State.startStreams s o).fns = s.fns := by
  unfold State.startStreams
  split <;> simp [foldl_fns, foldl_fst_fns]

@[simp] theorem State.beginOwn_fns (s : State) (o : Order) : (State.beginOwn s o).fns = s.fns := by
  unfold State.beginOwn
  grind [outFns, optFns, optFstFns, optSndFns, excFns, foldl_fns, State.updOrder_fns, State.chainFail_fns, State.reserve_fns, State.startStreams_fns]

@[simp] theorem State.startChain_fns (s : State) (o : Order) : (State.startChain s o).fns = s.fns := by
  unfold State.startChain
  dsimp only
  (repeat' split) <;> simp_all [foldl_fns, foldl_fst_fns]

@[simp] theorem State.stageBytes_fns (s : State) (x : HLayer) : (State.stageBytes s x).fns = s.fns := by
  simp [State.stageBytes]

@[simp] theorem State.readHead_fns (s : State) (r : Nat) : (State.readHead s r).fns = s.fns := by
  have h (t : State) : ((t.haltRing r).event 0x0321).fns = t.fns := by
    rw [State.event_fns, State.haltRing_fns]
  simp only [State.readHead]
  split
  · rw [h, State.setRing_fns]
  · rw [State.setRing_fns]

theorem execRingPoll_fns (r : RingNo) (s : State) : outFns s.fns (execRingPoll r s) := by
  simp [execRingPoll]

@[simp] theorem State.dropWaiting_fns (s : State) (o : Order) : (State.dropWaiting s o).fns = s.fns := by
  simp [State.dropWaiting, foldl_fns, foldl_fst_fns]

theorem execBusError_fns (tec : Nat) (rec_ : Nat) (s : State) : outFns s.fns (execBusError tec rec_ s) := by
  simp [execBusError]

theorem execSequencerWatchdog_fns (s : State) : outFns s.fns (execSequencerWatchdog s) := by
  rfl

@[simp] theorem State.ensureRev_fns (s : State) (o : Order) : (State.ensureRev s o).fns = s.fns := by
  unfold State.ensureRev
  split <;> simp [foldl_fns, foldl_fst_fns]

theorem State.attNow_fns (s : State) (r : Nat) (slot : Nat) : optSndFns s.fns (State.attNow s r slot) := by
  unfold State.attNow
  (repeat' split) <;> simp_all [foldl_fns, foldl_fst_fns]

@[simp] theorem State.kvRoom_fns (s : State) (half : Nat) (n : Nat) (x_ : Nat) : (State.kvRoom s half n x_).fns = s.fns := by
  fun_induction State.kvRoom <;> simp_all

@[simp] theorem State.kvKeep_fns (s : State) (half : Nat) (a : Nat) (data : List Byte) : (State.kvKeep s half a data).fns = s.fns := by
  simp [State.kvKeep]

@[simp] theorem State.kvRead_fns (s : State) (half : Nat) (a : Nat) (n : Nat) : (State.kvRead s half a n).1.fns = s.fns := by
  unfold State.kvRead
  split <;> simp [foldl_fns, foldl_fst_fns]

@[simp] theorem State.stageMem_fns (s : State) (w : Nat) (b : Nat) (k : Nat) (st : FMap Nat) : (State.stageMem s w b k st).fns = s.fns := by
  simp [State.stageMem]

@[simp] theorem State.attBegin_fns (s : State) (o : Order) (b : KvBlock) : (State.attBegin s o b).fns = s.fns := by
  simp [State.attBegin, foldl_fns, foldl_fst_fns]

@[simp] theorem State.spillRow_fns (s : State) (o : Order) (qb : Nat) : (State.spillRow s o qb).fns = s.fns := by
  simp [State.spillRow]

@[simp] theorem State.attProcess_fns (s : State) (o : Order) (v : Rev) (b : KvBlock) : (State.attProcess s o v b).fns = s.fns := by
  simp [State.attProcess]

@[simp] theorem State.markRan_fns (s : State) (r : Nat) (slot : Nat) : (State.markRan s r slot).fns = s.fns := by
  rfl

@[simp] theorem State.attEnd_fns (s : State) (o : Order) : (State.attEnd s o).fns = s.fns := by
  unfold State.attEnd
  split <;> simp [foldl_fns, foldl_fst_fns]

@[simp] theorem State.writeRider_fns (s : State) (o : Order) (b : KvBlock) : (State.writeRider s o b).fns = s.fns := by
  simp [State.writeRider, foldl_fns, foldl_fst_fns]

@[simp] theorem State.writeRiders_fns (s : State) (o : Order) (v : Rev) : (State.writeRiders s o v).fns = s.fns := by
  simp [State.writeRiders, foldl_fns, foldl_fst_fns]

@[simp] theorem State.setRevEnd_fns (s : State) (o : Order) (v : Rev) : (State.setRevEnd s o v).fns = s.fns := by
  simp [State.setRevEnd]

theorem State.attRow_fns (s : State) (k : Kind) (r : Nat) (ph : AttPhase) : outFns s.fns (State.attRow s k r ph) := by
  unfold State.attRow
  split
  · exact State.readAs_fns _ _ _
  · split
    · rfl
    · next o s' hs =>
      have h' : s'.fns = s.fns := State.attNow_fns _ _ _ _ hs
      split
      · rfl
      · next v _ =>
        split
        · rfl
        · next b _ =>
          dsimp only
          split
          · have h2 : (s'.attProcess o v b).fns = s.fns := (State.attProcess_fns _ _ _ _).trans h'
            generalize s'.attProcess o v b = s2 at h2
            cases s2.att.rev <;> simp [h2]
          · rfl
  · split
    · rfl
    · next o s' hs =>
      have h' : s'.fns = s.fns := State.attNow_fns _ _ _ _ hs
      split
      · rfl
      · dsimp only
        split
        · simp [h']
        · rfl

theorem execAttf_fns (r : RingNo) (ph : AttPhase) (s : State) : outFns s.fns (execAttf r ph s) := by
  unfold execAttf
  grind [outFns, optFns, optFstFns, optSndFns, excFns, foldl_fns, State.attRow_fns]

@[simp] theorem State.freeBuf_fns (s : State) (i : Nat) : (State.freeBuf s i).fns = s.fns := by
  rfl

@[simp] theorem State.moved_fns (s : State) (h : Nat) : (State.moved s h).fns = s.fns := by
  rfl

@[simp] theorem State.updBuf_fns (s : State) (i : Nat) (f : Buf → Buf) : (State.updBuf s i f).fns = s.fns := by
  rfl

@[simp] theorem State.repace_fns (s : State) (c : Nat) : (State.repace s c).fns = s.fns := by
  simp [State.repace]

@[simp] theorem State.repaceAll_fns (s : State) (l : Nat) : (State.repaceAll s l).fns = s.fns := by
  simp [State.repaceAll, foldl_fns, foldl_fst_fns]

@[simp] theorem State.pushHandle_fns (s : State) (l : Nat) (h : Handle) : (State.pushHandle s l h).fns = s.fns := by
  simp [State.pushHandle]

@[simp] theorem State.pushEnd_fns (s : State) (x : Stream) : (State.pushEnd s x).fns = s.fns := by
  unfold State.pushEnd
  split <;> simp [foldl_fns, foldl_fst_fns]

@[simp] theorem State.pushKind_fns (s : State) (b : Buf) (kind : Nat) : (State.pushKind s b kind).fns = s.fns := by
  simp [State.pushKind, foldl_fns, foldl_fst_fns]

@[simp] theorem State.pushReady_fns (s : State) (x : Stream) (x_ : Nat) : (State.pushReady s x x_).fns = s.fns := by
  fun_induction State.pushReady <;> simp_all

@[simp] theorem State.deferFault_fns (s : State) (i : Nat) (page : Nat) : (State.deferFault s i page).fns = s.fns := by
  unfold State.deferFault
  dsimp only
  (repeat' split) <;> simp_all [foldl_fns, foldl_fst_fns]

@[simp] theorem State.pinLink_fns (s : State) (o : Order) (n : Nat) : (State.pinLink s o n).fns = s.fns := by
  simp [State.pinLink]

@[simp] theorem State.combineTile_fns (s : State) (x : HLayer) (q : Nat) : (State.combineTile s x q).fns = s.fns := by
  simp [State.combineTile, foldl_fns, foldl_fst_fns]

@[simp] theorem State.toStage_fns (s : State) (o : Order) (stage : Nat) (tiles : Nat) (ran : optParam Bool false) : (State.toStage s o stage tiles ran).fns = s.fns := by
  rfl

@[simp] theorem State.putBlock128_fns (s : State) (a : Nat) (size : Nat) (m : List Nat) : (State.putBlock128 s a size m).fns = s.fns := by
  simp [State.putBlock128, foldl_fns, foldl_fst_fns]

@[simp] theorem State.countBad_fns (s : State) (o : Order) (n : Nat) : (State.countBad s o n).fns = s.fns := by
  simp [State.countBad, foldl_fns, foldl_fst_fns]

@[simp] theorem State.countRoot_fns (s : State) (o : Order) (r : Root) : (State.countRoot s o r).fns = s.fns := by
  simp [State.countRoot]

@[simp] theorem State.precondBlock_fns (s : State) (o : Order) (x : HLayer) (d : Side) (g : Nat → Nat → Nat) (a : Nat) : (State.precondBlock s o x d g a).fns = s.fns := by
  simp [State.precondBlock]

@[simp] theorem State.precondTile_fns (s : State) (o : Order) (x : HLayer) (q : Nat) : (State.precondTile s o x q).fns = s.fns := by
  simp [State.precondTile]

@[simp] theorem State.carry_fns (s : State) (a : Nat) (b : Nat) (n : Nat) : (State.carry s a b n).fns = s.fns := by
  simp [State.carry]

@[simp] theorem State.carryElem_fns (s : State) (x : HLayer) (i : Nat) (j : Nat) : (State.carryElem s x i j).fns = s.fns := by
  unfold State.carryElem
  split <;> simp [foldl_fns, foldl_fst_fns]

@[simp] theorem State.vectorElem_fns (s : State) (o : Order) (x : HLayer) (i : Nat) (j : Nat) : (State.vectorElem s o x i j).fns = s.fns := by
  simp [State.vectorElem]

@[simp] theorem State.matrixElem_fns (s : State) (o : Order) (x : HLayer) (i : Nat) (j : Nat) : (State.matrixElem s o x i j).fns = s.fns := by
  simp [State.matrixElem]

@[simp] theorem State.skipEnd_fns (s : State) (o : Order) (x : HLayer) : (State.skipEnd s o x).fns = s.fns := by
  simp [State.skipEnd]

@[simp] theorem State.lastTile_fns (s : State) (o : Order) (x : HLayer) (q : Nat) : (State.lastTile s o x q).fns = s.fns := by
  simp [State.lastTile, foldl_fns, foldl_fst_fns]

@[simp] theorem State.setDemand_fns (s : State) (o : Order) (d : Nat) : (State.setDemand s o d).fns = s.fns := by
  rfl

@[simp] theorem State.finishHalt_fns (s : State) (c : Nat) : (State.finishHalt s c).fns = s.fns := by
  simp [State.finishHalt]

@[simp] theorem State.settleHalt_fns (s : State) (c : Nat) : (State.settleHalt s c).fns = s.fns := by
  simp [State.settleHalt]

@[simp] theorem State.pushStaged_fns (s : State) (c : Nat) (x_ : Nat) : (State.pushStaged s c x_).fns = s.fns := by
  fun_induction State.pushStaged <;> simp_all

@[simp] theorem State.halt_fns (s : State) (c : Nat) (code : Nat) (off : Nat) : (State.halt s c code off).fns = s.fns := by
  simp [State.halt]

@[simp] theorem State.judgeChan_fns (s : State) (c : Nat) : (State.judgeChan s c).fns = s.fns := by
  unfold State.judgeChan
  split <;> simp [foldl_fns, foldl_fst_fns]

@[simp] theorem State.judgeHalf_fns (s : State) (half : Nat) : (State.judgeHalf s half).fns = s.fns := by
  simp [State.judgeHalf, foldl_fns, foldl_fst_fns]

@[simp] theorem State.translated_fns (s : State) (half : Nat) (page : Nat) (large : Bool) (write : Bool) : (State.translated s half page large write).fns = s.fns := by
  unfold State.translated
  dsimp only
  (repeat' split) <;> simp_all [foldl_fns, foldl_fst_fns]

@[simp] theorem State.addPromo_fns (s : State) (x : Promo) : (State.addPromo s x).fns = s.fns := by
  rfl

@[simp] theorem State.handPromo_fns (s : State) (o : Order) (p : Plan) (pt : Part) (src : Nat) (a : Nat) (n : Nat) (c : Cursor) (v : Val) : (State.handPromo s o p pt src a n c v).fns = s.fns := by
  unfold State.handPromo
  split <;> simp [foldl_fns, foldl_fst_fns]

@[simp] theorem State.handFlake_fns (s : State) (o : Order) (p : Plan) (pt : Part) (src : Nat) (a : Nat) (n : Nat) (c : Cursor) : (State.handFlake s o p pt src a n c).fns = s.fns := by
  unfold State.handFlake
  split <;> simp [foldl_fns, foldl_fst_fns]

@[simp] theorem State.scalePromo_fns (s : State) (o : Order) (p : Plan) (ev : Nat) (ord : Nat) (i : Nat) (j : Nat) (v : Val) : (State.scalePromo s o p ev ord i j v).fns = s.fns := by
  unfold State.scalePromo
  split <;> simp [foldl_fns, foldl_fst_fns]

@[simp] theorem State.handCell_fns (s : State) (o : Order) (p : Plan) (pt : Part) (src : Nat) (a : Nat) (n : Nat) (thin : Bool) (c : Cell) (drain : FMap Nat) : (State.handCell s o p pt src a n thin c drain).1.fns = s.fns := by
  unfold State.handCell
  dsimp only
  (repeat' split) <;> simp_all [foldl_fns, foldl_fst_fns]

@[simp] theorem State.output_fns (s : State) (hub : Nat) (r : Nat) (slot : Nat) (ws : List (Nat × List Byte)) : (State.output s hub r slot ws).fns = s.fns := by
  simp [State.output]

@[simp] theorem State.handRow_fns (s : State) (o : Order) (pn : Nat) (a : Nat) (row : Nat) (thin : Bool) : (State.handRow s o pn a row thin).fns = s.fns := by
  unfold State.handRow
  dsimp only
  (repeat' split) <;> simp_all [foldl_fns, foldl_fst_fns]

theorem execChunkHandoff_fns (pn : PanNo) (a : Fin 5) (row : Fin 16) (s : State) : outFns s.fns (execChunkHandoff pn a row s) := by
  unfold execChunkHandoff
  dsimp only
  (repeat' split) <;> simp_all [foldl_fns, foldl_fst_fns]

@[simp] theorem State.issue_fns (s : State) (b : Buf) : (State.issue s b).fns = s.fns := by
  unfold State.issue
  grind [outFns, optFns, optFstFns, optSndFns, excFns, foldl_fns, State.enqueue_fns, State.mendCopy_fns, State.updBuf_fns]

@[simp] theorem State.freeTags_fns (s : State) (h : Nat) (t : Tag) : (State.freeTags s h t).fns = s.fns := by
  unfold State.freeTags
  grind [outFns, optFns, optFstFns, optSndFns, excFns, foldl_fns, State.emit_fns, State.setStrm_fns]

@[simp] theorem State.chanMiss_fns (s : State) (c : Nat) (a : Nat) (n : Nat) : (State.chanMiss s c a n).fns = s.fns := by
  unfold State.chanMiss
  split <;> simp [foldl_fns, foldl_fst_fns]

@[simp] theorem State.readList_fns (s : State) (c : Nat) (write : Bool) (lo : Nat) (hi : Nat) (x_ : Nat) : (State.readList s c write lo hi x_).fns = s.fns := by
  fun_induction State.readList <;> simp_all

@[simp] theorem State.askBeats_fns (s : State) (c : Nat) (write : Bool) (buf : Nat) (lo : Nat) (data : List Byte) (l : List (Nat × Nat × Nat)) : (State.askBeats s c write buf lo data l).fns = s.fns := by
  simp [State.askBeats, foldl_fns, foldl_fst_fns]

theorem State.writeBurst_fns (s : State) (c : Nat) (lo : Nat) (data : List Byte) : optFns s.fns (State.writeBurst s c lo data) := by
  unfold State.writeBurst
  dsimp only
  (repeat' split) <;> simp_all [foldl_fns, foldl_fst_fns]

@[simp] theorem State.writeOr_fns (s : State) (c : Nat) (lo : Nat) (data : List Byte) (f : State → State) (hf : ∀ t : State, t.fns = s.fns → (f t).fns = s.fns) : (State.writeOr s c lo data f).fns = s.fns := by
  unfold State.writeOr
  split
  · next t ht => exact hf _ (State.writeBurst_fns _ _ _ _ _ ht)
  · simp

@[simp] theorem State.popHandle_fns (s : State) (l : Nat) (hold : Bool) : (State.popHandle s l hold).fns = s.fns := by
  unfold State.popHandle
  dsimp only
  (repeat' split) <;> simp_all [foldl_fns, foldl_fst_fns]

@[simp] theorem State.beginWrite_fns (s : State) (c : Nat) : (State.beginWrite s c).fns = s.fns := by
  unfold State.beginWrite
  dsimp only
  (repeat' split) <;> simp_all [foldl_fns, foldl_fst_fns]

@[simp] theorem State.dmaData_fns (s : State) (q : Req) (bad : Bool) : (State.dmaData s q bad).fns = s.fns := by
  simp [State.dmaData]

@[simp] theorem State.pushAll_fns (s : State) : (State.pushAll s).fns = s.fns := by
  simp [State.pushAll, foldl_fns, foldl_fst_fns]

@[simp] theorem State.openStage_fns (s : State) (c : Nat) : (State.openStage s c).fns = s.fns := by
  unfold State.openStage
  split <;> simp [foldl_fns, foldl_fst_fns]

@[simp] theorem State.readBurst_fns (s : State) (c : Nat) (buf : Nat) (hi : Nat) : (State.readBurst s c buf hi).fns = s.fns := by
  unfold State.readBurst
  dsimp only
  (repeat' split) <;> simp_all [foldl_fns, foldl_fst_fns]

@[simp] theorem State.beginRead_fns (s : State) (c : Nat) : (State.beginRead s c).fns = s.fns := by
  unfold State.beginRead
  dsimp only
  (repeat' split) <;> simp_all [foldl_fns, foldl_fst_fns]

theorem execBurst_fns (cn : ChanNo) (s : State) : outFns s.fns (execBurst cn s) := by
  simp [execBurst]

@[simp] theorem State.dropBusXfers_fns (s : State) : (State.dropBusXfers s).fns = s.fns := by
  rfl

@[simp] theorem State.turnOn_fns (s : State) (h : Nat) (q : Req) : (State.turnOn s h q).fns = s.fns := by
  rfl

@[simp] theorem State.markStale_fns (s : State) (key : Nat) (a : Nat) (n : Nat) : (State.markStale s key a n).fns = s.fns := by
  rfl

@[simp] theorem State.engineServed_fns (s : State) (c : Nat) (q : Req) : (State.engineServed s c q).fns = s.fns := by
  simp [State.engineServed]

@[simp] theorem State.halfCheck_fns (s : State) (c : Nat) : (State.halfCheck s c).fns = s.fns := by
  simp [State.halfCheck]

@[simp] theorem State.dmaIssued_fns (s : State) (q : Req) : (State.dmaIssued s q).fns = s.fns := by
  unfold State.dmaIssued
  dsimp only
  (repeat' split) <;> simp_all [foldl_fns, foldl_fst_fns]

@[simp] theorem State.grant_fns (s : State) (h : Nat) (q : Req) (tag : Nat) : (State.grant s h q tag).fns = s.fns := by
  simp [State.grant]

@[simp] theorem State.takeMask_fns (s : State) (o : Order) : (State.takeMask s o).fns = s.fns := by
  unfold State.takeMask
  split <;> simp [foldl_fns, foldl_fst_fns]

@[simp] theorem State.setHubSteps_fns (s : State) (f : Nat → Nat → Nat) : (State.setHubSteps s f).fns = s.fns := by
  unfold State.setHubSteps
  grind [outFns, optFns, optFstFns, optSndFns, excFns, foldl_fns, State.bump_fns, State.setHub_fns]

theorem execThrottleStep_fns (s : State) : outFns s.fns (execThrottleStep s) := by
  simp [execThrottleStep]

theorem execDw_fns (r : RingNo) (s : State) : outFns s.fns (execDw r s) := by
  unfold execDw
  grind [outFns, optFns, optFstFns, optSndFns, excFns, foldl_fns, State.readAs_fns]

theorem execPreEmption_fns (r : RingNo) (s : State) : outFns s.fns (execPreEmption r s) := by
  unfold execPreEmption
  split <;> simp [foldl_fns, foldl_fst_fns]

theorem execEmergencyEnd_fns (s : State) : outFns s.fns (execEmergencyEnd s) := by
  simp [execEmergencyEnd]

@[simp] theorem State.dmaAbsent_fns (s : State) (half : Nat) (page : Nat) : (State.dmaAbsent s half page).fns = s.fns := by
  unfold State.dmaAbsent
  grind [outFns, optFns, optFstFns, optSndFns, excFns, foldl_fns, State.halt_fns, State.judgeChan_fns]

theorem execLockoutExpiry_fns (cl : ClientNo) (s : State) : outFns s.fns (execLockoutExpiry cl s) := by
  simp [execLockoutExpiry]

@[simp] theorem State.linkPins_fns (s : State) (o : Order) (x : LinkWo) : (State.linkPins s o x).fns = s.fns := by
  simp [State.linkPins, foldl_fns, foldl_fst_fns]

theorem execRefclkRestored_fns (s : State) : outFns s.fns (execRefclkRestored s) := by
  rfl

theorem State.linkBegin_fns (s : State) (o : Order) (k : Nat) (out : Nat) (a : Nat) (n : Nat) : optFstFns s.fns (State.linkBegin s o k out a n) := by
  unfold State.linkBegin
  refine optFstFns_foldl _ _ _ _ (fun x a hx => ?_) (by simp)
  intro t ht
  obtain ⟨y, _, hy⟩ := Option.bind_eq_some_iff.1 ht
  dsimp only at hy
  split at hy
  · cases hy
  · cases hy
    simp [hx]

theorem execVersionSet_fns (r : RingNo) (ph : Phase) (s : State) : outFns s.fns (execVersionSet r ph s) := by
  unfold execVersionSet
  grind [outFns, optFns, optFstFns, optSndFns, excFns, foldl_fns, State.setOrders_fns, State.setLayer_fns, State.refuse_fns, State.readAs_fns, State.markRan_fns]

@[simp] theorem State.startPans_fns (s : State) (o : Order) : (State.startPans s o).fns = s.fns := by
  unfold State.startPans
  grind [outFns, optFns, optFstFns, optSndFns, excFns, foldl_fns, State.setPan_fns]

@[simp] theorem State.markStalls_fns (s : State) : (State.markStalls s).fns = s.fns := by
  simp [State.markStalls, foldl_fns, foldl_fst_fns]

@[simp] theorem State.enterQuiesced_fns (s : State) : (State.enterQuiesced s).fns = s.fns := by
  rfl

@[simp] theorem State.beginMoved_fns (s : State) (entry : Nat) : (State.beginMoved s entry).fns = s.fns := by
  simp [State.beginMoved, foldl_fns, foldl_fst_fns]

theorem execSpillComplete_fns (entry : Nat) (s : State) : outFns s.fns (execSpillComplete entry s) := by
  simp [execSpillComplete]

theorem execRailAlertDeasserted_fns (s : State) : outFns s.fns (execRailAlertDeasserted s) := by
  rfl

theorem State.takeTiles_fns (s : State) (o : Order) (b : Buf) (pn : Nat) : optFns s.fns (State.takeTiles s o b pn) := by
  simp [State.takeTiles]

theorem State.letGo_fns (s : State) (h : Nat) (b : Buf) : optFns s.fns (State.letGo s h b) := by
  unfold State.letGo
  (repeat' split) <;> first
    | (simp; done)
    | exact optFns_foldl _ _ _ _ (fun s a hs => by rw [← hs]; exact State.takeTiles_fns _ _ _ _) (by simp)

@[simp] theorem State.releaseHead_fns (s : State) (l : Nat) (h : Handle) : (State.releaseHead s l h).fns = s.fns := by
  unfold State.releaseHead
  grind [outFns, optFns, optFstFns, optSndFns, excFns, foldl_fns, State.setQueue_fns, State.freeBuf_fns, State.moved_fns, State.letGo_fns]

@[simp] theorem State.handKept_fns (s : State) (o : Order) (pn : Nat) (hdr : Nat) : (State.handKept s o pn hdr).fns = s.fns := by
  simp [State.handKept, foldl_fns, foldl_fst_fns]

theorem State.levelStep_fns (s : State) (half : Nat) : optFns s.fns (State.levelStep s half) := by
  cases hr : s.nextRaise half <;> cases hd : s.nextLower half <;> simp [State.levelStep, hr, hd]

@[simp] theorem State.dmaArrived_fns (s : State) (q : Req) : (State.dmaArrived s q).fns = s.fns := by
  simp [State.dmaArrived]

@[simp] theorem State.setBudget_fns (s : State) (half : Nat) (b : Int) : (State.setBudget s half b).fns = s.fns := by
  rfl

@[simp] theorem State.runQcal_fns (s : State) (o : Order) (n : Nat) : (State.runQcal s o n).fns = s.fns := by
  simp [State.runQcal, foldl_fns, foldl_fst_fns]

@[simp] theorem State.setWlb_fns (s : State) (k : Nat) (x : WlbEnt) : (State.setWlb s k x).fns = s.fns := by
  rfl

@[simp] theorem State.kvDrop_fns (s : State) (a : Nat) : (State.kvDrop s a).fns = s.fns := by
  rfl

@[simp] theorem State.wlbLook_fns (s : State) (w : Nat) (b : Nat) (g : Nat) (e : Nat) : (State.wlbLook s w b g e).1.fns = s.fns := by
  unfold State.wlbLook
  dsimp only
  (repeat' split) <;> simp_all [foldl_fns, foldl_fst_fns]

@[simp] theorem State.trainSent_fns (s : State) (o : Order) (v : Rev) : (State.trainSent s o v).fns = s.fns := by
  simp [State.trainSent]

theorem execRippleLoad_fns (pn : PanNo) (s : State) : outFns s.fns (execRippleLoad pn s) := by
  unfold execRippleLoad
  dsimp only
  (repeat' split) <;> simp_all [foldl_fns, foldl_fst_fns]

@[simp] theorem State.landedWrite_fns (s : State) (key : Nat) (a : Nat) (l : List Byte) : (State.landedWrite s key a l).fns = s.fns := by
  simp [State.landedWrite]

theorem execQcal_fns (r : RingNo) (ph : Phase) (s : State) : outFns s.fns (execQcal r ph s) := by
  unfold execQcal
  grind [outFns, optFns, optFstFns, optSndFns, excFns, foldl_fns, State.readAs_fns, State.runQcal_fns]

@[simp] theorem State.handFlakes_fns (s : State) (o : Order) (pn : Nat) : (State.handFlakes s o pn).fns = s.fns := by
  unfold State.handFlakes
  grind [outFns, optFns, optFstFns, optSndFns, excFns, foldl_fns, State.handFlake_fns]

@[simp] theorem State.saveCrust_fns (s : State) (o : Order) (pn : Nat) : (State.saveCrust s o pn).fns = s.fns := by
  simp [State.saveCrust]

theorem execStationaryLoad_fns (pn : PanNo) (a : Fin 5) (s : State) : outFns s.fns (execStationaryLoad pn a s) := by
  unfold execStationaryLoad
  dsimp only
  (repeat' split) <;> simp_all [foldl_fns, foldl_fst_fns]

theorem execPageInvalidation_fns (half : HalfNo) (page : Nat) (s : State) : outFns s.fns (execPageInvalidation half page s) := by
  simp [execPageInvalidation, foldl_fns, foldl_fst_fns]

@[simp] theorem State.holdStream_fns (s : State) (h : Nat) (b : Buf) : (State.holdStream s h b).fns = s.fns := by
  unfold State.holdStream
  split <;> simp [foldl_fns, foldl_fst_fns]

@[simp] theorem State.keepCopy_fns (s : State) (k : Nat) (data : List Byte) : (State.keepCopy s k data).fns = s.fns := by
  simp [State.keepCopy]

@[simp] theorem State.offload_fns (s : State) (x_ : Nat) : (State.offload s x_).fns = s.fns := by
  induction x_ generalizing s with
  | zero => rfl
  | succ n ih =>
    unfold State.offload
    dsimp only
    split
    · rfl
    · split
      · rfl
      · next t ht =>
        obtain ⟨k, -, hk⟩ := Option.bind_eq_some_iff.1 ht
        exact (ih t).trans (State.spill_fns _ _ t hk)

theorem execArrivalWritten_fns (s : State) : outFns s.fns (execArrivalWritten s) := by
  unfold execArrivalWritten
  split <;> simp [foldl_fns, foldl_fst_fns]

theorem execFence_fns (r : RingNo) (s : State) : outFns s.fns (execFence r s) := by
  unfold execFence
  grind [outFns, optFns, optFstFns, optSndFns, excFns, foldl_fns, State.readAs_fns]

theorem execHubHeartbeat_fns (s : State) : outFns s.fns (execHubHeartbeat s) := by
  simp [execHubHeartbeat, foldl_fns, foldl_fst_fns]

@[simp] theorem State.stored_fns (s : State) (failedStep : Option Nat) : (State.stored s failedStep).fns = s.fns := by
  unfold State.stored
  split <;> simp [foldl_fns, foldl_fst_fns]

theorem execAbortComplete_fns (cn : ChanNo) (s : State) : outFns s.fns (execAbortComplete cn s) := by
  simp [execAbortComplete]

theorem execVersionDrop_fns (r : RingNo) (ph : Phase) (s : State) : outFns s.fns (execVersionDrop r ph s) := by
  unfold execVersionDrop
  grind [outFns, optFns, optFstFns, optSndFns, excFns, foldl_fns, State.setOrders_fns, State.setLayer_fns, State.refuse_fns, State.readAs_fns, State.markRan_fns]

theorem State.restore_fns (s : State) (o : Order) (pn : Nat) (c : Crust) : optFns s.fns (State.restore s o pn c) := by
  unfold State.restore
  dsimp only
  (repeat' split) <;> simp_all [foldl_fns, foldl_fst_fns]

theorem execRailEmg_fns (s : State) : outFns s.fns (execRailEmg s) := by
  simp [execRailEmg]

theorem execDescriptorRead_fns (cn : ChanNo) (s : State) : outFns s.fns (execDescriptorRead cn s) := by
  simp [execDescriptorRead]

theorem execUrgent_fns (h : HubNo) (q : Requester) (s : State) : outFns s.fns (execUrgent h q s) := by
  rfl

theorem execBlockSend_fns (block : Nat) (s : State) : outFns s.fns (execBlockSend block s) := by
  unfold execBlockSend
  dsimp only
  (repeat' split) <;> simp_all [foldl_fns, foldl_fst_fns]

@[simp] theorem State.takeSettings_fns (s : State) (o : Order) : (State.takeSettings s o).fns = s.fns := by
  rfl

theorem execBankErased_fns (ok : Bool) (s : State) : outFns s.fns (execBankErased ok s) := by
  simp [execBankErased]

theorem execDoorbell_fns (r : RingNo) (wrote : List (Nat × List Byte)) (s : State) : outFns s.fns (execDoorbell r wrote s) := by
  simp [execDoorbell]

@[simp] theorem State.countMasked_fns (s : State) (o : Order) : (State.countMasked s o).fns = s.fns := by
  unfold State.countMasked
  split <;> simp [foldl_fns, foldl_fst_fns]

@[simp] theorem State.claimRegions_fns (s : State) (o : Order) : (State.claimRegions s o).fns = s.fns := by
  unfold State.claimRegions
  grind [outFns, optFns, optFstFns, optSndFns, excFns, foldl_fns, State.setRegion_fns, State.clearRegion_fns, State.takeMask_fns, State.countMasked_fns]

@[simp] theorem State.claimTarget_fns (s : State) (o : Order) : (State.claimTarget s o).fns = s.fns := by
  unfold State.claimTarget
  dsimp only
  (repeat' split) <;> simp_all [foldl_fns, foldl_fst_fns]

@[simp] theorem State.admitNow_fns (s : State) (o : Order) : (State.admitNow s o).fns = s.fns := by
  unfold State.admitNow
  dsimp only
  (repeat' split) <;> simp_all [foldl_fns, foldl_fst_fns]

theorem execAdmission_fns (s : State) : outFns s.fns (execAdmission s) := by
  unfold execAdmission
  dsimp only
  (repeat' split) <;> simp_all [foldl_fns, foldl_fst_fns]

theorem execIdleTimeout_fns (sess : Nat) (s : State) : outFns s.fns (execIdleTimeout sess s) := by
  simp [execIdleTimeout]

theorem execPortGrant_fns (h : HubNo) (write : Bool) (s : State) : outFns s.fns (execPortGrant h write s) := by
  unfold execPortGrant
  split <;> simp [foldl_fns, foldl_fst_fns]

theorem execStopRequest_fns (pn : PanNo) (cause : Nat) (s : State) : outFns s.fns (execStopRequest pn cause s) := by
  simp [execStopRequest]

theorem execRailAlert_fns (s : State) : outFns s.fns (execRailAlert s) := by
  simp [execRailAlert]

theorem execChallengeExpiry_fns (cl : ClientNo) (s : State) : outFns s.fns (execChallengeExpiry cl s) := by
  simp [execChallengeExpiry]

theorem execBusOff_fns (s : State) : outFns s.fns (execBusOff s) := by
  simp [execBusOff]

theorem execSlotCredit_fns (slot : Nat) (s : State) : outFns s.fns (execSlotCredit slot s) := by
  unfold execSlotCredit
  dsimp only
  (repeat' split) <;> simp_all [foldl_fns, foldl_fst_fns]

@[simp] theorem State.linkDone_fns (s : State) (r : Nat) (slot : Nat) (k : Nat) (last : Nat) (ran : Nat) : (State.linkDone s r slot k last ran).fns = s.fns := by
  unfold State.linkDone
  dsimp only
  (repeat' split) <;> simp_all [foldl_fns, foldl_fst_fns]

theorem execDx_fns (r : RingNo) (s : State) : outFns s.fns (execDx r s) := by
  unfold execDx
  grind [outFns, optFns, optFstFns, optSndFns, excFns, foldl_fns, State.readAs_fns]

@[simp] theorem State.pushHub_fns (s : State) (h : Nat) : (State.pushHub s h).fns = s.fns := by
  simp [State.pushHub, foldl_fns, foldl_fst_fns]

theorem execStockpileArrival_fns (header : List Byte) (data : List Byte) (s : State) : outFns s.fns (execStockpileArrival header data s) := by
  simp [execStockpileArrival]

theorem execBusOffRecovery_fns (s : State) : outFns s.fns (execBusOffRecovery s) := by
  simp [execBusOffRecovery]

theorem execDualDraw_fns (r : RingNo) (s : State) : outFns s.fns (execDualDraw r s) := by
  unfold execDualDraw
  grind [outFns, optFns, optFstFns, optSndFns, excFns, foldl_fns, State.readAs_fns]

@[simp] theorem State.finishDesc_fns (s : State) (c : Nat) : (State.finishDesc s c).fns = s.fns := by
  simp [State.finishDesc]

theorem execLevelGrant_fns (half : HalfNo) (ns : Nat) (s : State) : outFns s.fns (execLevelGrant half ns s) := by
  unfold execLevelGrant
  grind [outFns, optFns, optFstFns, optSndFns, excFns, foldl_fns, State.bump_fns, State.snapSettle_fns, State.levelStep_fns, State.setBudget_fns]

theorem execVersionPublish_fns (r : RingNo) (s : State) : outFns s.fns (execVersionPublish r s) := by
  unfold execVersionPublish
  grind [outFns, optFns, optFstFns, optSndFns, excFns, foldl_fns, State.readAs_fns]

@[simp] theorem State.walkPages_fns (s : State) (w : Nat) (b : Nat) (pages : List (Nat × Nat)) : (State.walkPages s w b pages).1.fns = s.fns := by
  simp [State.walkPages, foldl_fns, foldl_fst_fns]

theorem execHeartbeat_fns (s : State) : outFns s.fns (execHeartbeat s) := by
  simp [execHeartbeat]

theorem execWriteAcknowledged_fns (h : HubNo) (tag : Nat) (s : State) : outFns s.fns (execWriteAcknowledged h tag s) := by
  unfold execWriteAcknowledged
  split <;> simp [foldl_fns, foldl_fst_fns]

theorem execCrustSave_fns (pn : PanNo) (s : State) : outFns s.fns (execCrustSave pn s) := by
  unfold execCrustSave
  dsimp only
  (repeat' split) <;> simp_all [foldl_fns, foldl_fst_fns]

@[simp] theorem State.untranslated_fns (s : State) (half : Nat) (page : Nat) : (State.untranslated s half page).fns = s.fns := by
  unfold State.untranslated
  dsimp only
  (repeat' split) <;> simp_all [foldl_fns, foldl_fst_fns]

theorem State.pushGate_fns (s : State) (d : Nat) : optFns s.fns (State.pushGate s d) := by
  unfold State.pushGate
  dsimp only
  (repeat' split) <;> simp_all [foldl_fns, foldl_fst_fns]

theorem execDescriptorComplete_fns (cn : ChanNo) (s : State) : outFns s.fns (execDescriptorComplete cn s) := by
  unfold execDescriptorComplete
  grind [outFns, optFns, optFstFns, optSndFns, excFns, foldl_fns, State.setChan_fns, State.finishDesc_fns, State.pushGate_fns]

theorem execThrottleRelease_fns (s : State) : outFns s.fns (execThrottleRelease s) := by
  simp [execThrottleRelease]

theorem execSnapshotExpired_fns (s : State) : outFns s.fns (execSnapshotExpired s) := by
  simp [execSnapshotExpired]

theorem execAutonomousRamp_fns (h : HubNo) (s : State) : outFns s.fns (execAutonomousRamp h s) := by
  simp [execAutonomousRamp]

theorem execAtts_fns (r : RingNo) (ph : AttPhase) (s : State) : outFns s.fns (execAtts r ph s) := by
  unfold execAtts
  grind [outFns, optFns, optFstFns, optSndFns, excFns, foldl_fns, State.attRow_fns]

theorem execGatePop_fns (l : LaunderNo) (s : State) : outFns s.fns (execGatePop l s) := by
  unfold execGatePop
  dsimp only
  (repeat' split) <;> simp_all [foldl_fns, foldl_fst_fns]

theorem execStream_fns (r : RingNo) (ph : Phase) (s : State) : outFns s.fns (execStream r ph s) := by
  unfold execStream
  grind [outFns, optFns, optFstFns, optSndFns, excFns, foldl_fns, State.setObj_fns, State.setStrm_fns, State.readAs_fns, State.markRan_fns]

theorem execClockStepChange_fns (h : HubNo) (s : State) : outFns s.fns (execClockStepChange h s) := by
  unfold execClockStepChange
  grind [outFns, optFns, optFstFns, optSndFns, excFns, foldl_fns, State.setPan_fns, State.setBudget_fns]

theorem execCommitStored_fns (failedStep : Option Nat) (s : State) : outFns s.fns (execCommitStored failedStep s) := by
  simp [execCommitStored]

theorem execAutonomousMode_fns (h : HubNo) (s : State) : outFns s.fns (execAutonomousMode h s) := by
  simp [execAutonomousMode]

theorem execAttb_fns (r : RingNo) (ph : AttPhase) (s : State) : outFns s.fns (execAttb r ph s) := by
  unfold execAttb
  grind [outFns, optFns, optFstFns, optSndFns, excFns, foldl_fns, State.attRow_fns]

theorem execTranslationResponse_fns (half : HalfNo) (page : Nat) (x : Xlate) (s : State) : outFns s.fns (execTranslationResponse half page x s) := by
  unfold execTranslationResponse
  (repeat' split) <;> simp_all [foldl_fns, foldl_fst_fns]

theorem execSegmentTimeout_fns (cl : ClientNo) (s : State) : outFns s.fns (execSegmentTimeout cl s) := by
  simp [execSegmentTimeout]
end Sys2Proof.Machine
end

