-- ==== Sys2Proof/WellFormed.lean ====
section
/-! DEFINITION. Which terms of `Instr` stand for a command that can reach the block: operands in the ranges that
the spec gives the things they name. A meaning is total on every term; a check here refuses a term no sender can
send. -/

namespace Sys2Proof

/-- Function numbers 1 to 14 name a function (R8). -/
def FnNo.ok (n : FnNo) : Bool := decide (1 ≤ n.val ∧ n.val ≤ 14)

/-- Client addresses: a node-ID 1 to 127 on the bus, 0x80 + channel on the mailbox (R331). -/
def ClientNo.ok (c : ClientNo) : Bool := decide ((1 ≤ c.val ∧ c.val ≤ 127) ∨ (0x80 ≤ c.val ∧ c.val ≤ 0x83))

/-- Client addresses of the bus (R331). -/
def ClientNo.bus (c : ClientNo) : Bool := decide (1 ≤ c.val ∧ c.val ≤ 127)

/-- Ring slots are 16-bit numbers (R285). -/
def slotOk (n : Nat) : Bool := decide (n < 65536)

def Phase.ok : Phase → Bool
  | .read => true
  | .run slot => slotOk slot

def AttPhase.ok : AttPhase → Bool
  | .read => true
  | .process slot block => slotOk slot && decide (block < 65536)
  | .drain slot => slotOk slot

/-- An index is 16 bits, a subindex 8; a value is 1 to 8,192 bytes (R303, R305). -/
def objOk (index sub : Nat) : Bool := decide (index < 65536 ∧ sub < 256)
def valueOk (data : List Byte) : Bool := decide (1 ≤ data.length ∧ data.length ≤ 8192)

def Usdo.ok : Usdo → Bool
  | .upload i j => objOk i j
  | .download i j d => objOk i j && valueOk d
  | .downloadInit i j n => objOk i j && decide (1 ≤ n ∧ n ≤ 8192)
  | .downloadSegment d _ => decide (1 ≤ d.length ∧ d.length ≤ 64)
  | .uploadInit i j => objOk i j
  | .uploadSegment => true
  | .other => true

/-- Whether a term is a command. -/
def Instr.wellFormed : Instr → Bool
  | .doorbell _ wrote => wrote.all (fun w => decide (w.1 + w.2.length ≤ 2 ^ 52))
  | .product _ ph | .norm _ ph | .normb _ ph | .softmax _ ph | .softmaxb _ ph | .point _ ph | .pointb _ ph
  | .dwconv _ ph | .dwconvb _ ph | .qcal _ ph | .update _ ph | .precond _ ph | .versionSet _ ph
  | .versionDrop _ ph | .stream _ ph => ph.ok
  | .atts _ ph | .attf _ ph | .attb _ ph => ph.ok
  | .chainLink _ slot | .workOrderComplete _ slot => slotOk slot
  | .ringEnable cl _ | .ringDisable cl _ | .ringResume cl _ => cl.ok
  | .abortSlot cl _ slot => cl.ok && slotOk slot
  | .cancel cl n | .prepare cl n | .enable cl n | .disable cl n | .shutDown cl n | .acknowledge cl n => cl.ok && n.ok
  | .startComplete n _ | .stopComplete n | .stoppingLimit n => n.ok
  | .fullReset cl code _ => cl.ok && decide (code < 65536)
  | .usdoRequest cl dest msg => cl.bus && decide (dest < 256) && msg.ok
  | .mailboxRequest _ seq dest msg => decide (seq < 256 ∧ dest < 256) && msg.ok
  | .registerWrite cl i j d => cl.ok && objOk i j && valueOk d
  | .segmentTimeout cl | .lockoutExpiry cl | .challengeExpiry cl | .close cl | .capture cl | .commit cl
  | .erase cl | .quiesce cl | .release cl | .faultLogAcknowledge cl | .injectArm cl | .testEmergency cl => cl.ok
  | .heartbeatTime cl ms => cl.ok && decide (ms < 65536)
  | .open cl priv => cl.ok && decide (priv < 256)
  | .response cl mac => cl.ok && valueOk mac
  | .idleTimeout sess => decide (1 ≤ sess ∧ sess ≤ 8)
  | .closeSession cl sess => cl.ok && decide (sess < 256)
  | .keyWrite cl priv d => cl.ok && decide (priv < 4) && valueOk d
  | .commitStored step => step.all (fun k => decide (1 ≤ k ∧ k ≤ 4))
  | .regionRestore cl n => cl.ok && decide (n < 65536)
  | .stockpilePart cl n | .wlbInvalidate cl n => cl.ok && decide (n < 256)
  | .testStop cl _ | .testResume cl _ | .streamResume cl _ | .dmaStart cl _ | .dmaAbort cl _ | .dmaClear cl _ => cl.ok
  | .fabricReadResponse _ tag _ | .writeAcknowledged _ tag => decide (tag < 256)
  | .translationResponse _ page _ | .pageInvalidation _ page => decide (page < 2 ^ 36)
  | .promotionEvent _ slot group => slotOk slot && decide (group < 2 ^ 32)
  | .stopRequest _ cause => decide (1 ≤ cause ∧ cause ≤ 7)
  | .park _ _ offset _ => decide (offset < 262144)
  | .stockpileArrival header _ => decide (header.length = 64)
  | .spillComplete entry => decide (entry < 16384)
  | .blockArrival header _ _ | .riderReturn header _ => decide (header.length = 64)
  | .blockSend block => decide (block < 65536)
  | .slotCredit slot => decide (slot < 65536)
  | .walk _ slot block _ | .oddGenerationWait _ slot block => slotOk slot && decide (block < 65536)
  | .railCurrentSample _ ma temps => decide (ma < 2 ^ 32) && decide (temps.length = 32)
  | .flitReceived _ _ words => decide (words.length = 64)
  | .write1ToClear cl i j mask => cl.ok && objOk i j && decide (mask < 2 ^ 32)
  | .busError tec rec => decide (tec < 65536 ∧ rec < 256)
  | .ringPoll _ | .dx _ | .dw _ | .dualDraw _ | .fence _ | .versionPublish _ | .admission | .preEmption _ => true
  | .pkgRst _ | .powerOn _ | .heartbeat | .busOff | .busOffRecovery | .quiesced | .snapshotExpired => true
  | .descriptorRead _ | .burst _ | .descriptorComplete _ | .abortComplete _ | .rakeFetch _ | .portGrant _ _
  | .urgent _ _ | .oddEpochWait _ | .handlePop _ _ | .gatePop _ | .stillwater _ => true
  | .stationaryLoad _ _ | .rippleLoad _ | .beat _ _ _ | .chunkHandoff _ _ _ | .crustSave _ | .crustResume _ _ => true
  | .arrivalWritten | .remoteTimeout | .railAlert | .railEmg | .emergencyEnd | .throttleStep | .throttleRelease => true
  | .clockStepChange _ | .levelGrant _ _ | .refclkLost | .hubHeartbeat | .autonomousMode _ | .autonomousRamp _ => true
  | .sequencerWatchdog | .replayTimeout _ _ | .moduleLeftActive _ | .trainingAttemptTimeout => true
  | .islandLinkWord _ _ | .mailboxResponseCleared _ | .refclkRestored | .railAlertDeasserted | .bankErased _
  | .powerLost => true

end Sys2Proof
end

