-- ==== Sys2Proof/Laws/PerInstr.lean ====
section
/-! SUPPORT. What holds of every command as a term, one lemma a constructor. -/

namespace Sys2Proof

/-- The client address that a command carries: that of a request to the dictionary or of a timer of one client (R331). -/
def Instr.client? : Instr → Option ClientNo
  | .doorbell _ _ => none
  | .ringPoll _ => none
  | .dx _ => none
  | .dw _ => none
  | .dualDraw _ => none
  | .product _ _ => none
  | .norm _ _ => none
  | .normb _ _ => none
  | .softmax _ _ => none
  | .softmaxb _ _ => none
  | .point _ _ => none
  | .pointb _ _ => none
  | .dwconv _ _ => none
  | .dwconvb _ _ => none
  | .atts _ _ => none
  | .attf _ _ => none
  | .attb _ _ => none
  | .qcal _ _ => none
  | .update _ _ => none
  | .precond _ _ => none
  | .fence _ => none
  | .versionSet _ _ => none
  | .versionDrop _ _ => none
  | .versionPublish _ => none
  | .stream _ _ => none
  | .admission => none
  | .preEmption _ => none
  | .chainLink _ _ => none
  | .workOrderComplete _ _ => none
  | .ringEnable cl _ => some cl
  | .ringDisable cl _ => some cl
  | .ringResume cl _ => some cl
  | .abortSlot cl _ _ => some cl
  | .cancel cl _ => some cl
  | .prepare cl _ => some cl
  | .enable cl _ => some cl
  | .disable cl _ => some cl
  | .shutDown cl _ => some cl
  | .acknowledge cl _ => some cl
  | .startComplete _ _ => none
  | .stopComplete _ => none
  | .stoppingLimit _ => none
  | .fullReset cl _ _ => some cl
  | .pkgRst _ => none
  | .powerOn _ => none
  | .usdoRequest cl _ _ => some cl
  | .mailboxRequest _ _ _ _ => none
  | .segmentTimeout cl => some cl
  | .registerWrite cl _ _ _ => some cl
  | .heartbeat => none
  | .heartbeatTime cl _ => some cl
  | .busOff => none
  | .busOffRecovery => none
  | .open cl _ => some cl
  | .response cl _ => some cl
  | .lockoutExpiry cl => some cl
  | .challengeExpiry cl => some cl
  | .close cl => some cl
  | .idleTimeout _ => none
  | .closeSession cl _ => some cl
  | .keyWrite cl _ _ => some cl
  | .capture cl => some cl
  | .commit cl => some cl
  | .commitStored _ => none
  | .erase cl => some cl
  | .quiesce cl => some cl
  | .quiesced => none
  | .release cl => some cl
  | .snapshotExpired => none
  | .regionRestore cl _ => some cl
  | .stockpilePart cl _ => some cl
  | .testStop cl _ => some cl
  | .testResume cl _ => some cl
  | .wlbInvalidate cl _ => some cl
  | .faultLogAcknowledge cl => some cl
  | .injectArm cl => some cl
  | .testEmergency cl => some cl
  | .streamResume cl _ => some cl
  | .dmaStart cl _ => some cl
  | .dmaAbort cl _ => some cl
  | .dmaClear cl _ => some cl
  | .descriptorRead _ => none
  | .burst _ => none
  | .descriptorComplete _ => none
  | .abortComplete _ => none
  | .rakeFetch _ => none
  | .portGrant _ _ => none
  | .urgent _ _ => none
  | .fabricReadResponse _ _ _ => none
  | .oddEpochWait _ => none
  | .writeAcknowledged _ _ => none
  | .translationResponse _ _ _ => none
  | .pageInvalidation _ _ => none
  | .handlePop _ _ => none
  | .gatePop _ => none
  | .stillwater _ => none
  | .stationaryLoad _ _ => none
  | .rippleLoad _ => none
  | .beat _ _ _ => none
  | .chunkHandoff _ _ _ => none
  | .promotionEvent _ _ _ => none
  | .stopRequest _ _ => none
  | .crustSave _ => none
  | .crustResume _ _ => none
  | .park _ _ _ _ => none
  | .stockpileArrival _ _ => none
  | .arrivalWritten => none
  | .spillComplete _ => none
  | .blockArrival _ _ _ => none
  | .blockSend _ => none
  | .slotCredit _ => none
  | .riderReturn _ _ => none
  | .remoteTimeout => none
  | .walk _ _ _ _ => none
  | .oddGenerationWait _ _ _ => none
  | .railCurrentSample _ _ _ => none
  | .railAlert => none
  | .railEmg => none
  | .emergencyEnd => none
  | .throttleStep => none
  | .throttleRelease => none
  | .clockStepChange _ => none
  | .levelGrant _ _ => none
  | .refclkLost => none
  | .hubHeartbeat => none
  | .autonomousMode _ => none
  | .autonomousRamp _ => none
  | .sequencerWatchdog => none
  | .flitReceived _ _ _ => none
  | .replayTimeout _ _ => none
  | .moduleLeftActive _ => none
  | .trainingAttemptTimeout => none
  | .islandLinkWord _ _ => none
  | .mailboxResponseCleared _ => none
  | .write1ToClear cl _ _ _ => some cl
  | .busError _ _ => none
  | .refclkRestored => none
  | .railAlertDeasserted => none
  | .bankErased _ => none
  | .powerLost => none

/-- A well-formed command that carries a client address carries one of the bus or of the mailbox (R331). -/
def Laws.Client.Statement (i : Instr) : Prop :=
  i.wellFormed = true → ∀ cl, i.client? = some cl → (1 ≤ cl.val ∧ cl.val ≤ 127) ∨ (128 ≤ cl.val ∧ cl.val ≤ 131)

theorem Laws.Client.of_ok {i : Instr} {c : ClientNo} (hc : i.client? = some c) (ho : i.wellFormed = true → c.ok = true) : Statement i := by
  intro h cl e
  have : c = cl := by simpa [hc] using e
  subst this
  have := ho h
  simp only [ClientNo.ok, decide_eq_true_eq] at this
  omega

theorem Laws.Client.of_bus {i : Instr} {c : ClientNo} (hc : i.client? = some c) (ho : i.wellFormed = true → c.bus = true) :
    Statement i := by
  intro h cl e
  have : c = cl := by simpa [hc] using e
  subst this
  have := ho h
  simp only [ClientNo.bus, decide_eq_true_eq] at this
  omega

theorem Laws.Client.left {a b : Bool} (h : (a && b) = true) : a = true := (Bool.and_eq_true_iff.1 h).1

theorem Laws.Client.of_none {i : Instr} (hc : i.client? = none) : Statement i := by
  intro _ cl e
  simp [hc] at e

theorem Laws.Client.doorbell : ∀ x0 x1, Statement (.doorbell x0 x1) := fun _ _ => of_none rfl
theorem Laws.Client.ringPoll : ∀ x0, Statement (.ringPoll x0) := fun _ => of_none rfl
theorem Laws.Client.dx : ∀ x0, Statement (.dx x0) := fun _ => of_none rfl
theorem Laws.Client.dw : ∀ x0, Statement (.dw x0) := fun _ => of_none rfl
theorem Laws.Client.dualDraw : ∀ x0, Statement (.dualDraw x0) := fun _ => of_none rfl
theorem Laws.Client.product : ∀ x0 x1, Statement (.product x0 x1) := fun _ _ => of_none rfl
theorem Laws.Client.norm : ∀ x0 x1, Statement (.norm x0 x1) := fun _ _ => of_none rfl
theorem Laws.Client.normb : ∀ x0 x1, Statement (.normb x0 x1) := fun _ _ => of_none rfl
theorem Laws.Client.softmax : ∀ x0 x1, Statement (.softmax x0 x1) := fun _ _ => of_none rfl
theorem Laws.Client.softmaxb : ∀ x0 x1, Statement (.softmaxb x0 x1) := fun _ _ => of_none rfl
theorem Laws.Client.point : ∀ x0 x1, Statement (.point x0 x1) := fun _ _ => of_none rfl
theorem Laws.Client.pointb : ∀ x0 x1, Statement (.pointb x0 x1) := fun _ _ => of_none rfl
theorem Laws.Client.dwconv : ∀ x0 x1, Statement (.dwconv x0 x1) := fun _ _ => of_none rfl
theorem Laws.Client.dwconvb : ∀ x0 x1, Statement (.dwconvb x0 x1) := fun _ _ => of_none rfl
theorem Laws.Client.atts : ∀ x0 x1, Statement (.atts x0 x1) := fun _ _ => of_none rfl
theorem Laws.Client.attf : ∀ x0 x1, Statement (.attf x0 x1) := fun _ _ => of_none rfl
theorem Laws.Client.attb : ∀ x0 x1, Statement (.attb x0 x1) := fun _ _ => of_none rfl
theorem Laws.Client.qcal : ∀ x0 x1, Statement (.qcal x0 x1) := fun _ _ => of_none rfl
theorem Laws.Client.update : ∀ x0 x1, Statement (.update x0 x1) := fun _ _ => of_none rfl
theorem Laws.Client.precond : ∀ x0 x1, Statement (.precond x0 x1) := fun _ _ => of_none rfl
theorem Laws.Client.fence : ∀ x0, Statement (.fence x0) := fun _ => of_none rfl
theorem Laws.Client.versionSet : ∀ x0 x1, Statement (.versionSet x0 x1) := fun _ _ => of_none rfl
theorem Laws.Client.versionDrop : ∀ x0 x1, Statement (.versionDrop x0 x1) := fun _ _ => of_none rfl
theorem Laws.Client.versionPublish : ∀ x0, Statement (.versionPublish x0) := fun _ => of_none rfl
theorem Laws.Client.stream : ∀ x0 x1, Statement (.stream x0 x1) := fun _ _ => of_none rfl
theorem Laws.Client.admission : Statement .admission := of_none rfl
theorem Laws.Client.preEmption : ∀ x0, Statement (.preEmption x0) := fun _ => of_none rfl
theorem Laws.Client.chainLink : ∀ x0 x1, Statement (.chainLink x0 x1) := fun _ _ => of_none rfl
theorem Laws.Client.workOrderComplete : ∀ x0 x1, Statement (.workOrderComplete x0 x1) := fun _ _ => of_none rfl
theorem Laws.Client.ringEnable : ∀ cl x1, Statement (.ringEnable cl x1) :=
  fun _ _ => of_ok rfl (fun h => h)
theorem Laws.Client.ringDisable : ∀ cl x1, Statement (.ringDisable cl x1) :=
  fun _ _ => of_ok rfl (fun h => h)
theorem Laws.Client.ringResume : ∀ cl x1, Statement (.ringResume cl x1) :=
  fun _ _ => of_ok rfl (fun h => h)
theorem Laws.Client.abortSlot : ∀ cl x1 x2, Statement (.abortSlot cl x1 x2) :=
  fun _ _ _ => of_ok rfl (fun h => left h)
theorem Laws.Client.cancel : ∀ cl x1, Statement (.cancel cl x1) :=
  fun _ _ => of_ok rfl (fun h => left h)
theorem Laws.Client.prepare : ∀ cl x1, Statement (.prepare cl x1) :=
  fun _ _ => of_ok rfl (fun h => left h)
theorem Laws.Client.enable : ∀ cl x1, Statement (.enable cl x1) :=
  fun _ _ => of_ok rfl (fun h => left h)
theorem Laws.Client.disable : ∀ cl x1, Statement (.disable cl x1) :=
  fun _ _ => of_ok rfl (fun h => left h)
theorem Laws.Client.shutDown : ∀ cl x1, Statement (.shutDown cl x1) :=
  fun _ _ => of_ok rfl (fun h => left h)
theorem Laws.Client.acknowledge : ∀ cl x1, Statement (.acknowledge cl x1) :=
  fun _ _ => of_ok rfl (fun h => left h)
theorem Laws.Client.startComplete : ∀ x0 x1, Statement (.startComplete x0 x1) := fun _ _ => of_none rfl
theorem Laws.Client.stopComplete : ∀ x0, Statement (.stopComplete x0) := fun _ => of_none rfl
theorem Laws.Client.stoppingLimit : ∀ x0, Statement (.stoppingLimit x0) := fun _ => of_none rfl
theorem Laws.Client.fullReset : ∀ cl x1 x2, Statement (.fullReset cl x1 x2) :=
  fun _ _ _ => of_ok rfl (fun h => left h)
theorem Laws.Client.pkgRst : ∀ x0, Statement (.pkgRst x0) := fun _ => of_none rfl
theorem Laws.Client.powerOn : ∀ x0, Statement (.powerOn x0) := fun _ => of_none rfl
theorem Laws.Client.usdoRequest : ∀ cl x1 x2, Statement (.usdoRequest cl x1 x2) :=
  fun _ _ _ => of_bus rfl (fun h => left (left h))
theorem Laws.Client.mailboxRequest : ∀ x0 x1 x2 x3, Statement (.mailboxRequest x0 x1 x2 x3) := fun _ _ _ _ => of_none rfl
theorem Laws.Client.segmentTimeout : ∀ cl, Statement (.segmentTimeout cl) :=
  fun _ => of_ok rfl (fun h => h)
theorem Laws.Client.registerWrite : ∀ cl x1 x2 x3, Statement (.registerWrite cl x1 x2 x3) :=
  fun _ _ _ _ => of_ok rfl (fun h => left (left h))
theorem Laws.Client.heartbeat : Statement .heartbeat := of_none rfl
theorem Laws.Client.heartbeatTime : ∀ cl x1, Statement (.heartbeatTime cl x1) :=
  fun _ _ => of_ok rfl (fun h => left h)
theorem Laws.Client.busOff : Statement .busOff := of_none rfl
theorem Laws.Client.busOffRecovery : Statement .busOffRecovery := of_none rfl
theorem Laws.Client.open : ∀ cl x1, Statement (.open cl x1) :=
  fun _ _ => of_ok rfl (fun h => left h)
theorem Laws.Client.response : ∀ cl x1, Statement (.response cl x1) :=
  fun _ _ => of_ok rfl (fun h => left h)
theorem Laws.Client.lockoutExpiry : ∀ cl, Statement (.lockoutExpiry cl) :=
  fun _ => of_ok rfl (fun h => h)
theorem Laws.Client.challengeExpiry : ∀ cl, Statement (.challengeExpiry cl) :=
  fun _ => of_ok rfl (fun h => h)
theorem Laws.Client.close : ∀ cl, Statement (.close cl) :=
  fun _ => of_ok rfl (fun h => h)
theorem Laws.Client.idleTimeout : ∀ x0, Statement (.idleTimeout x0) := fun _ => of_none rfl
theorem Laws.Client.closeSession : ∀ cl x1, Statement (.closeSession cl x1) :=
  fun _ _ => of_ok rfl (fun h => left h)
theorem Laws.Client.keyWrite : ∀ cl x1 x2, Statement (.keyWrite cl x1 x2) :=
  fun _ _ _ => of_ok rfl (fun h => left (left h))
theorem Laws.Client.capture : ∀ cl, Statement (.capture cl) :=
  fun _ => of_ok rfl (fun h => h)
theorem Laws.Client.commit : ∀ cl, Statement (.commit cl) :=
  fun _ => of_ok rfl (fun h => h)
theorem Laws.Client.commitStored : ∀ x0, Statement (.commitStored x0) := fun _ => of_none rfl
theorem Laws.Client.erase : ∀ cl, Statement (.erase cl) :=
  fun _ => of_ok rfl (fun h => h)
theorem Laws.Client.quiesce : ∀ cl, Statement (.quiesce cl) :=
  fun _ => of_ok rfl (fun h => h)
theorem Laws.Client.quiesced : Statement .quiesced := of_none rfl
theorem Laws.Client.release : ∀ cl, Statement (.release cl) :=
  fun _ => of_ok rfl (fun h => h)
theorem Laws.Client.snapshotExpired : Statement .snapshotExpired := of_none rfl
theorem Laws.Client.regionRestore : ∀ cl x1, Statement (.regionRestore cl x1) :=
  fun _ _ => of_ok rfl (fun h => left h)
theorem Laws.Client.stockpilePart : ∀ cl x1, Statement (.stockpilePart cl x1) :=
  fun _ _ => of_ok rfl (fun h => left h)
theorem Laws.Client.testStop : ∀ cl x1, Statement (.testStop cl x1) :=
  fun _ _ => of_ok rfl (fun h => h)
theorem Laws.Client.testResume : ∀ cl x1, Statement (.testResume cl x1) :=
  fun _ _ => of_ok rfl (fun h => h)
theorem Laws.Client.wlbInvalidate : ∀ cl x1, Statement (.wlbInvalidate cl x1) :=
  fun _ _ => of_ok rfl (fun h => left h)
theorem Laws.Client.faultLogAcknowledge : ∀ cl, Statement (.faultLogAcknowledge cl) :=
  fun _ => of_ok rfl (fun h => h)
theorem Laws.Client.injectArm : ∀ cl, Statement (.injectArm cl) :=
  fun _ => of_ok rfl (fun h => h)
theorem Laws.Client.testEmergency : ∀ cl, Statement (.testEmergency cl) :=
  fun _ => of_ok rfl (fun h => h)
theorem Laws.Client.streamResume : ∀ cl x1, Statement (.streamResume cl x1) :=
  fun _ _ => of_ok rfl (fun h => h)
theorem Laws.Client.dmaStart : ∀ cl x1, Statement (.dmaStart cl x1) :=
  fun _ _ => of_ok rfl (fun h => h)
theorem Laws.Client.dmaAbort : ∀ cl x1, Statement (.dmaAbort cl x1) :=
  fun _ _ => of_ok rfl (fun h => h)
theorem Laws.Client.dmaClear : ∀ cl x1, Statement (.dmaClear cl x1) :=
  fun _ _ => of_ok rfl (fun h => h)
theorem Laws.Client.descriptorRead : ∀ x0, Statement (.descriptorRead x0) := fun _ => of_none rfl
theorem Laws.Client.burst : ∀ x0, Statement (.burst x0) := fun _ => of_none rfl
theorem Laws.Client.descriptorComplete : ∀ x0, Statement (.descriptorComplete x0) := fun _ => of_none rfl
theorem Laws.Client.abortComplete : ∀ x0, Statement (.abortComplete x0) := fun _ => of_none rfl
theorem Laws.Client.rakeFetch : ∀ x0, Statement (.rakeFetch x0) := fun _ => of_none rfl
theorem Laws.Client.portGrant : ∀ x0 x1, Statement (.portGrant x0 x1) := fun _ _ => of_none rfl
theorem Laws.Client.urgent : ∀ x0 x1, Statement (.urgent x0 x1) := fun _ _ => of_none rfl
theorem Laws.Client.fabricReadResponse : ∀ x0 x1 x2, Statement (.fabricReadResponse x0 x1 x2) := fun _ _ _ => of_none rfl
theorem Laws.Client.oddEpochWait : ∀ x0, Statement (.oddEpochWait x0) := fun _ => of_none rfl
theorem Laws.Client.writeAcknowledged : ∀ x0 x1, Statement (.writeAcknowledged x0 x1) := fun _ _ => of_none rfl
theorem Laws.Client.translationResponse : ∀ x0 x1 x2, Statement (.translationResponse x0 x1 x2) := fun _ _ _ => of_none rfl
theorem Laws.Client.pageInvalidation : ∀ x0 x1, Statement (.pageInvalidation x0 x1) := fun _ _ => of_none rfl
theorem Laws.Client.handlePop : ∀ x0 x1, Statement (.handlePop x0 x1) := fun _ _ => of_none rfl
theorem Laws.Client.gatePop : ∀ x0, Statement (.gatePop x0) := fun _ => of_none rfl
theorem Laws.Client.stillwater : ∀ x0, Statement (.stillwater x0) := fun _ => of_none rfl
theorem Laws.Client.stationaryLoad : ∀ x0 x1, Statement (.stationaryLoad x0 x1) := fun _ _ => of_none rfl
theorem Laws.Client.rippleLoad : ∀ x0, Statement (.rippleLoad x0) := fun _ => of_none rfl
theorem Laws.Client.beat : ∀ x0 x1 x2, Statement (.beat x0 x1 x2) := fun _ _ _ => of_none rfl
theorem Laws.Client.chunkHandoff : ∀ x0 x1 x2, Statement (.chunkHandoff x0 x1 x2) := fun _ _ _ => of_none rfl
theorem Laws.Client.promotionEvent : ∀ x0 x1 x2, Statement (.promotionEvent x0 x1 x2) := fun _ _ _ => of_none rfl
theorem Laws.Client.stopRequest : ∀ x0 x1, Statement (.stopRequest x0 x1) := fun _ _ => of_none rfl
theorem Laws.Client.crustSave : ∀ x0, Statement (.crustSave x0) := fun _ => of_none rfl
theorem Laws.Client.crustResume : ∀ x0 x1, Statement (.crustResume x0 x1) := fun _ _ => of_none rfl
theorem Laws.Client.park : ∀ x0 x1 x2 x3, Statement (.park x0 x1 x2 x3) := fun _ _ _ _ => of_none rfl
theorem Laws.Client.stockpileArrival : ∀ x0 x1, Statement (.stockpileArrival x0 x1) := fun _ _ => of_none rfl
theorem Laws.Client.arrivalWritten : Statement .arrivalWritten := of_none rfl
theorem Laws.Client.spillComplete : ∀ x0, Statement (.spillComplete x0) := fun _ => of_none rfl
theorem Laws.Client.blockArrival : ∀ x0 x1 x2, Statement (.blockArrival x0 x1 x2) := fun _ _ _ => of_none rfl
theorem Laws.Client.blockSend : ∀ x0, Statement (.blockSend x0) := fun _ => of_none rfl
theorem Laws.Client.slotCredit : ∀ x0, Statement (.slotCredit x0) := fun _ => of_none rfl
theorem Laws.Client.riderReturn : ∀ x0 x1, Statement (.riderReturn x0 x1) := fun _ _ => of_none rfl
theorem Laws.Client.remoteTimeout : Statement .remoteTimeout := of_none rfl
theorem Laws.Client.walk : ∀ x0 x1 x2 x3, Statement (.walk x0 x1 x2 x3) := fun _ _ _ _ => of_none rfl
theorem Laws.Client.oddGenerationWait : ∀ x0 x1 x2, Statement (.oddGenerationWait x0 x1 x2) := fun _ _ _ => of_none rfl
theorem Laws.Client.railCurrentSample : ∀ x0 x1 x2, Statement (.railCurrentSample x0 x1 x2) := fun _ _ _ => of_none rfl
theorem Laws.Client.railAlert : Statement .railAlert := of_none rfl
theorem Laws.Client.railEmg : Statement .railEmg := of_none rfl
theorem Laws.Client.emergencyEnd : Statement .emergencyEnd := of_none rfl
theorem Laws.Client.throttleStep : Statement .throttleStep := of_none rfl
theorem Laws.Client.throttleRelease : Statement .throttleRelease := of_none rfl
theorem Laws.Client.clockStepChange : ∀ x0, Statement (.clockStepChange x0) := fun _ => of_none rfl
theorem Laws.Client.levelGrant : ∀ x0 x1, Statement (.levelGrant x0 x1) := fun _ _ => of_none rfl
theorem Laws.Client.refclkLost : Statement .refclkLost := of_none rfl
theorem Laws.Client.hubHeartbeat : Statement .hubHeartbeat := of_none rfl
theorem Laws.Client.autonomousMode : ∀ x0, Statement (.autonomousMode x0) := fun _ => of_none rfl
theorem Laws.Client.autonomousRamp : ∀ x0, Statement (.autonomousRamp x0) := fun _ => of_none rfl
theorem Laws.Client.sequencerWatchdog : Statement .sequencerWatchdog := of_none rfl
theorem Laws.Client.flitReceived : ∀ x0 x1 x2, Statement (.flitReceived x0 x1 x2) := fun _ _ _ => of_none rfl
theorem Laws.Client.replayTimeout : ∀ x0 x1, Statement (.replayTimeout x0 x1) := fun _ _ => of_none rfl
theorem Laws.Client.moduleLeftActive : ∀ x0, Statement (.moduleLeftActive x0) := fun _ => of_none rfl
theorem Laws.Client.trainingAttemptTimeout : Statement .trainingAttemptTimeout := of_none rfl
theorem Laws.Client.islandLinkWord : ∀ x0 x1, Statement (.islandLinkWord x0 x1) := fun _ _ => of_none rfl
theorem Laws.Client.mailboxResponseCleared : ∀ x0, Statement (.mailboxResponseCleared x0) := fun _ => of_none rfl
theorem Laws.Client.write1ToClear : ∀ cl x1 x2 x3, Statement (.write1ToClear cl x1 x2 x3) :=
  fun _ _ _ _ => of_ok rfl (fun h => left (left h))
theorem Laws.Client.busError : ∀ x0 x1, Statement (.busError x0 x1) := fun _ _ => of_none rfl
theorem Laws.Client.refclkRestored : Statement .refclkRestored := of_none rfl
theorem Laws.Client.railAlertDeasserted : Statement .railAlertDeasserted := of_none rfl
theorem Laws.Client.bankErased : ∀ x0, Statement (.bankErased x0) := fun _ => of_none rfl
theorem Laws.Client.powerLost : Statement .powerLost := of_none rfl


end Sys2Proof
end

