-- ==== Sys2Proof/Laws/Write.lean ====
section
/-! SUPPORT. What a whole write transfer of a client does once its checks have passed (R307, R308, R323), and what the counting
of requests and answers leaves alone. -/

namespace Sys2Proof.Machine

theorem State.bump_obj_ne (s : State) (w k n i : Nat) (h : i ≠ k) : (s.bump w k n).obj i = s.obj i := by
  unfold State.bump; split
  · rfl
  · exact State.obj_setObj_ne _ _ _ _ h

theorem State.bump_obj (s : State) (w k n : Nat) (h : n ≠ 0) : (s.bump w k n).obj k = satAdd w (s.obj k) n := by
  simp [State.bump, h]

/-- Counting changes one object and nothing else. -/
theorem State.bump_eq (s : State) (w k n : Nat) : s.bump w k n = { s with objs := (s.bump w k n).objs } := by
  unfold State.bump; split <;> rfl

/-- Counting a request changes an object only. -/
theorem State.countRequest_eq (s : State) (cl : Nat) : s.countRequest cl = { s with objs := (s.countRequest cl).objs } := by
  unfold State.countRequest State.bump64; split <;> exact State.bump_eq _ _ _ _

theorem State.countRequest_obj (s : State) (cl i : Nat) (h : i ≠ 0x110105) (h' : i ≠ 0x111001) :
    (s.countRequest cl).obj i = s.obj i := by
  unfold State.countRequest State.bump64; split
  · exact State.bump_obj_ne _ _ _ _ _ (by simpa [okey] using h)
  · exact State.bump_obj_ne _ _ _ _ _ (by simpa [okey] using h')

theorem State.countAnswer_obj (s : State) (cl i : Nat) (h : i ≠ 0x110106) : (s.countAnswer cl).obj i = s.obj i := by
  unfold State.countAnswer State.bump64; split
  · exact State.bump_obj_ne _ _ _ _ _ (by simpa [okey] using h)
  · rfl

/-- An answer changes the trace, a counter and the client's session. -/
theorem State.answer_eq (s : State) (cl : Nat) (a : Answer) :
    s.answer cl a = { s with out := .answer cl a :: s.out, objs := (s.answer cl a).objs, mgt := (s.answer cl a).mgt } := by
  unfold State.answer State.countAnswer State.bump64 State.served State.bump State.setSession State.setMgt State.emit State.setObj
  repeat' split
  all_goals rfl

theorem State.answer_obj (s : State) (cl : Nat) (a : Answer) (i : Nat) (h : i ≠ 0x110106) : (s.answer cl a).obj i = s.obj i := by
  unfold State.answer
  rw [State.countAnswer_obj _ _ _ h]
  unfold State.served State.setSession State.setMgt State.emit
  repeat' split
  all_goals rfl

theorem State.countRequest_session (s : State) (cl c : Nat) : (s.countRequest cl).sessionOf c = s.sessionOf c := by
  rw [State.countRequest_eq]; rfl

/-- Before a write is served nothing changes but counters, and the trace and the transfers where an earlier transfer of the
client ends (R331, R340). -/
theorem State.asked_eq (s : State) (cl i j : Nat) (data : List Byte) :
    s.asked cl i j data = { s with objs := (s.asked cl i j data).objs, out := (s.asked cl i j data).out,
                                   mgt := { s.mgt with xfers := (s.asked cl i j data).mgt.xfers } } := by
  unfold State.asked State.initWrite State.initiate State.abortXfer State.countAnswer State.bump64
  rw [State.countRequest_eq]
  repeat' split
  all_goals rfl

theorem State.asked_session (s : State) (cl i j : Nat) (data : List Byte) (c : Nat) :
    (s.asked cl i j data).sessionOf c = s.sessionOf c := by
  rw [State.asked_eq]; rfl

theorem State.asked_obj (s : State) (cl i j : Nat) (data : List Byte) (k : Nat) (h : k ≠ 0x110105) (h' : k ≠ 0x111001)
    (h2 : k ≠ 0x110106) : (s.asked cl i j data).obj k = s.obj k := by
  rw [← State.countRequest_obj s cl k h h']
  unfold State.asked State.initWrite State.initiate State.abortXfer
  repeat' split
  all_goals first
    | rfl
    | (rw [State.countAnswer_obj _ _ _ h2]; rfl)

/-- With no transfer of the client in progress a write is served in the state that counting its request leaves. -/
theorem State.asked_idle (s : State) (cl i j : Nat) (data : List Byte) (h : s.xfer cl = none) :
    s.asked cl i j data = s.countRequest cl := by
  have h' : (s.countRequest cl).xfer cl = none := by rw [State.countRequest_eq]; exact h
  unfold State.asked State.initWrite State.initiate State.abortXfer
  simp [h']

/-- A write whose checks of access, existence, length and value have passed and that the snapshot does not freeze. -/
theorem State.write_served (s : State) (cl i j : Nat) (data : List Byte) (env : ResetEnv) (r : ObjRow)
    (hr : s.reachable cl = true) (hg : (s.asked cl i j data).gate cl i j true = none) (hrow : objRow i j = some r)
    (hacc : r.acc ≠ .ro ∧ r.acc ≠ .const) (hlen : data.length = r.ty.size)
    (hval : (((s.asked cl i j data).valueBad r i j (leNat data)).or
      ((s.asked cl i j data).codeBad (canonKey i j) i (leNat data))) = none)
    (hfz : (s.asked cl i j data).frozen r i = false) :
    s.write cl i j data env =
      let u := s.asked cl i j data
      let v := leNat data
      let x := match u.writeSpecial cl (u.privOf cl) (canonKey i j) i v data with
        | some x => x
        | none => if r.sel then (u.setSel cl (okey i j) v, .confirm)
                  else if u.locked i j v then (u, .abort abLocked) else (u.applyObj i j v, .confirm)
      (x.1.answer cl x.2).thenReset i j x.2 env := by
  simp [State.write, State.serveWrite, hr, hg, hrow, hacc.1, hacc.2, hlen, hval, hfz] <;> rfl

/-- A session of enough privilege passes the checks of access for an object that exists (R307, R323). -/
theorem State.gate_none (s : State) (cl i j n : Nat) (x : Session) (hs : s.sessionOf cl = some (n, x))
    (hp : (levelOf i j).writer ≤ x.priv) (hi : indexExists i = true) (hr : (objRow i j).isSome = true) :
    s.gate cl i j true = none := by
  have hg : granted x.priv (levelOf i j) true = true := by simpa [granted] using hp
  have hn : (objRow i j).isNone = false := by cases h : objRow i j <;> simp_all
  simp [State.gate, hs, hg, hi, hn]

/-- A command object written by a session of enough privilege, outside Quiesced: its own effect, then the answer. -/
theorem State.write_special (s : State) (cl i j p : Nat) (data : List Byte) (env : ResetEnv) (r : ObjRow) (y : State × Answer)
    (hs : s.serves cl p) (hq : s.cfg.snap.state ≠ 2) (hrow : objRow i j = some r) (hi : indexExists i = true)
    (hl : r.lvl.writer ≤ p) (hacc : r.acc ≠ .ro ∧ r.acc ≠ .const) (hlen : data.length = r.ty.size)
    (hval : (((s.asked cl i j data).valueBad r i j (leNat data)).or
      ((s.asked cl i j data).codeBad (canonKey i j) i (leNat data))) = none)
    (hsp : (s.asked cl i j data).writeSpecial cl ((s.asked cl i j data).privOf cl) (canonKey i j) i (leNat data) data = some y)
    (hne : i ≠ 0x1F00) :
    s.write cl i j data env = y.1.answer cl y.2 := by
  obtain ⟨hr, n, x, hx, hp⟩ := hs
  have hlev : (levelOf i j).writer ≤ x.priv := by simp [levelOf, hrow]; omega
  have hg := State.gate_none (s.asked cl i j data) cl i j n x (by rw [State.asked_session]; exact hx) hlev hi (by simp [hrow])
  have hsn : (s.asked cl i j data).cfg = s.cfg := by rw [State.asked_eq]
  have hfz : (s.asked cl i j data).frozen r i = false := by simp [State.frozen, hsn, hq]
  rw [State.write_served s cl i j data env r hr hg hrow hacc hlen hval hfz]
  simp [hsp, State.thenReset, hne]

end Sys2Proof.Machine
end

