-- ==== Sys2Proof/Tests/Slice0.lean ====
section
/-! SUPPORT. Tests of the model: the terms that no sender can send, a state and operands that meet the hypotheses of each
statement, clause by clause, and small checks of single commands against the examples and tables of the spec. -/

set_option Elab.async false

open Sys2Proof Sys2Proof.Machine

-- states that the tests start from
/-- `State.serves` as a Bool. -/
def Tests.served (s : State) (cl p : Nat) : Bool :=
  s.reachable cl && (match s.sessionOf cl with
    | some x => decide (p ≤ x.2.priv)
    | none => false)

theorem Tests.serves_of {s : State} {cl p : Nat} (h : Tests.served s cl p = true) : s.serves cl p := by
  unfold Tests.served at h
  rw [Bool.and_eq_true] at h
  refine ⟨h.1, ?_⟩
  have h2 := h.2
  split at h2
  · rename_i x e; exact ⟨x.1, x.2, e, of_decide_eq_true h2⟩
  · cases h2

/-- After reset, with session 1 open for client 1 at a privilege. -/
def Tests.sess (p : Nat) : State := { State.reset with mgt := { sessions := [(1, some { cl := 1, priv := p })] } }
/-- Functions put into states. -/
def Tests.put (s : State) (l : List (Nat × FnState)) : State := l.foldl (fun s x => s.setFn x.1 { state := x.2, target := x.2 }) s
/-- Every function Running, after reset. -/
def Tests.up : State := Tests.put (Tests.sess 3) ((List.range 14).map (fun k => (k + 1, FnState.running)))
/-- Snapshot state n. -/
def Tests.snap (s : State) (n : Nat) : State := { s with cfg := { s.cfg with snap := { state := n } } }
/-- A work order that stands in slot 0 of ring 0. -/
def Tests.one (s : State) (o : Order) : State := s.setOrders [o]
/-- A work order of opcode op with mask m. -/
def Tests.wo (op m : Nat) : Nat := op + m * 2 ^ 64

/-- An outcome is a next state of which p holds. -/
def Tests.gives (o : Host.Outcome State Fault Refusal) (p : State → Bool) : Bool := match o with
  | .next t => p t
  | _ => false

-- terms that no sender can send
theorem test_wf_numbers : FnNo.ok 0 = false ∧ FnNo.ok 15 = false ∧ FnNo.ok 1 = true ∧ FnNo.ok 14 = true ∧
    ClientNo.ok 0 = false ∧ ClientNo.ok 132 = false ∧ ClientNo.ok 127 = true ∧ ClientNo.ok 131 = true ∧ ClientNo.bus 128 = false := by
  decide
theorem test_wf_function : (Instr.enable 1 0).wellFormed = false ∧ (Instr.enable 0 1).wellFormed = false ∧
    (Instr.startComplete 15 true).wellFormed = false ∧ (Instr.stopComplete 0).wellFormed = false ∧
    (Instr.stoppingLimit 0).wellFormed = false ∧ (Instr.enable 1 1).wellFormed = true := by decide
theorem test_wf_slots : (Instr.product 0 (.run 65536)).wellFormed = false ∧ (Instr.atts 0 (.process 0 65536)).wellFormed = false ∧
    (Instr.attf 0 (.process 65536 0)).wellFormed = false ∧ (Instr.attb 0 (.drain 65536)).wellFormed = false ∧
    (Instr.chainLink 0 65536).wellFormed = false ∧ (Instr.workOrderComplete 0 65536).wellFormed = false ∧
    (Instr.abortSlot 1 0 65536).wellFormed = false ∧ (Instr.promotionEvent 0 65536 0).wellFormed = false ∧
    (Instr.promotionEvent 0 0 (2 ^ 32)).wellFormed = false ∧ (Instr.walk 0 65536 0 none).wellFormed = false ∧
    (Instr.oddGenerationWait 0 0 65536).wellFormed = false ∧ (Instr.blockSend 65536).wellFormed = false ∧
    (Instr.slotCredit 65536).wellFormed = false := by decide
theorem test_wf_doorbell : (Instr.doorbell 0 [(2 ^ 52, [0])]).wellFormed = false ∧
    (Instr.doorbell 0 [(2 ^ 52 - 1, [0])]).wellFormed = true := by decide
theorem test_wf_dictionary : (Instr.registerWrite 1 65536 0 [0]).wellFormed = false ∧ (Instr.registerWrite 1 0 256 [0]).wellFormed = false ∧
    (Instr.registerWrite 1 0 0 []).wellFormed = false ∧ (Instr.usdoRequest 128 16 .other).wellFormed = false ∧
    (Instr.usdoRequest 1 256 .other).wellFormed = false ∧ (Instr.usdoRequest 1 16 (.downloadInit 0 0 0)).wellFormed = false ∧
    (Instr.usdoRequest 1 16 (.downloadInit 0 0 8193)).wellFormed = false ∧ (Instr.usdoRequest 1 16 (.downloadSegment [] true)).wellFormed = false ∧
    (Instr.mailboxRequest 0 256 16 .other).wellFormed = false ∧ (Instr.mailboxRequest 0 0 256 .other).wellFormed = false ∧
    (Instr.usdoRequest 1 16 (.upload 65536 0)).wellFormed = false ∧ (Instr.usdoRequest 1 16 (.uploadInit 0 256)).wellFormed = false ∧
    (Instr.usdoRequest 1 16 (.download 0 0 [])).wellFormed = false := by decide
theorem test_wf_clients : (Instr.ringEnable 0 0).wellFormed = false ∧ (Instr.segmentTimeout 0).wellFormed = false ∧
    (Instr.testStop 0 0).wellFormed = false ∧ (Instr.dmaStart 200 0).wellFormed = false ∧ (Instr.streamResume 0 0).wellFormed = false ∧
    (Instr.capture 0).wellFormed = false ∧ (Instr.response 1 []).wellFormed = false ∧ (Instr.fullReset 1 65536 {}).wellFormed = false ∧
    (Instr.heartbeatTime 1 65536).wellFormed = false ∧ (Instr.open 1 256).wellFormed = false ∧ (Instr.idleTimeout 0).wellFormed = false ∧
    (Instr.idleTimeout 9).wellFormed = false ∧ (Instr.closeSession 1 256).wellFormed = false ∧ (Instr.keyWrite 1 4 [0]).wellFormed = false ∧
    (Instr.keyWrite 1 0 []).wellFormed = false := by decide
theorem test_wf_registers : (Instr.commitStored (some 0)).wellFormed = false ∧ (Instr.commitStored (some 5)).wellFormed = false ∧
    (Instr.regionRestore 1 65536).wellFormed = false ∧ (Instr.stockpilePart 1 256).wellFormed = false ∧
    (Instr.wlbInvalidate 1 256).wellFormed = false ∧ (Instr.write1ToClear 1 65536 0 0).wellFormed = false ∧
    (Instr.write1ToClear 1 0 0 (2 ^ 32)).wellFormed = false ∧ (Instr.busError 65536 0).wellFormed = false ∧
    (Instr.busError 0 256).wellFormed = false := by decide
theorem test_wf_units : (Instr.fabricReadResponse 0 256 false).wellFormed = false ∧ (Instr.writeAcknowledged 0 256).wellFormed = false ∧
    (Instr.translationResponse 0 (2 ^ 36) .absent).wellFormed = false ∧ (Instr.pageInvalidation 0 (2 ^ 36)).wellFormed = false ∧
    (Instr.stopRequest 0 0).wellFormed = false ∧ (Instr.stopRequest 0 8).wellFormed = false ∧
    (Instr.park 0 .streamTile 262144 false).wellFormed = false ∧ (Instr.spillComplete 16384).wellFormed = false ∧
    (Instr.stockpileArrival [0] []).wellFormed = false ∧ (Instr.blockArrival [] [] []).wellFormed = false ∧
    (Instr.riderReturn [] []).wellFormed = false ∧ (Instr.railCurrentSample 0 (2 ^ 32) (List.replicate 32 0)).wellFormed = false ∧
    (Instr.railCurrentSample 0 0 []).wellFormed = false ∧ (Instr.flitReceived 0 true []).wellFormed = false := by decide

-- hypotheses met: steps, control of functions
theorem test_StepTakesFront_met : State.reset.pending = [] := by decide
theorem test_InvStep_met : Inv { State.reset with timeUs := 1 } ∧
    step { State.reset with timeUs := 1 } = .next { State.reset with timeUs := 2 } := by
  refine ⟨⟨rfl, ?_, Nat.zero_le 32⟩, rfl⟩
  intro _ n h
  simp only [isPermanent, Bool.or_eq_true, decide_eq_true_eq] at h
  rcases h with (rfl | rfl) | rfl <;> exact Or.inl (by decide)
theorem test_ControlTable_refused : (Tests.sess 1).serves 1 1 ∧ (Tests.sess 1).cfg.snap.state ≠ 2 ∧ isPermanent 1 = false ∧
    controlCell ((Tests.sess 1).fn 1).state 5 = .refused := ⟨Tests.serves_of (by decide), by decide⟩
theorem test_ControlTable_noEffect : (Tests.put (Tests.sess 1) [(13, .off)]).serves 1 1 ∧ isPermanent 13 = false ∧
    controlCell ((Tests.put (Tests.sess 1) [(13, .off)]).fn 13).state 4 = .noEffect := ⟨Tests.serves_of (by decide), by decide⟩
/-- Function 1 Starting with a pending command, and function 9 in a state. -/
def Tests.starting (pend : Nat) (nine : FnState) : State :=
  (Tests.put (Tests.sess 1) [(9, nine)]).setFn 1 { state := .starting, target := .running, pend := pend }
theorem test_ControlTable_withdraw : (Tests.starting 0 .ready).serves 1 1 ∧ (Tests.starting 4 .ready).serves 1 1 ∧
    controlCell ((Tests.starting 0 .ready).fn 1).state 0 = .withdraw ∧ ((Tests.starting 0 .ready).fn 1).pend = 0 ∧
    controlCell ((Tests.starting 4 .ready).fn 1).state 0 = .withdraw ∧ ((Tests.starting 4 .ready).fn 1).pend ≠ 0 :=
  ⟨Tests.serves_of (by decide), Tests.serves_of (by decide), by decide⟩
theorem test_ControlTable_pends : (Tests.starting 4 .ready).serves 1 1 ∧ (Tests.starting 0 .running).serves 1 1 ∧
    (Tests.starting 0 .ready).serves 1 1 ∧
    controlCell ((Tests.starting 4 .ready).fn 1).state 4 = .pends ∧ ((Tests.starting 4 .ready).fn 1).pend = 4 ∧
    ((Tests.starting 4 .ready).fn 1).pend ≠ 1 ∧
    ((Tests.starting 0 .ready).fn 1).pend = 0 ∧ (Tests.starting 0 .ready).relies 1 2 = some 0x0F000005 ∧
    ((Tests.starting 0 .running).fn 1).pend = 0 ∧ (Tests.starting 0 .running).relies 1 2 = none :=
  ⟨Tests.serves_of (by decide), Tests.serves_of (by decide), Tests.serves_of (by decide), by decide⟩
theorem test_ControlTable_goes : (Tests.sess 1).serves 1 1 ∧ controlCell ((Tests.sess 1).fn 8).state 2 = .goes .running .running ∧
    (Tests.sess 1).relies 8 2 = none ∧ controlCell ((Tests.sess 1).fn 9).state 2 = .goes .running .running ∧
    (Tests.sess 1).relies 9 2 = some 0x0F000005 := ⟨Tests.serves_of (by decide), by decide⟩
/-- Function 8 Faulted, with its cause still there. -/
def Tests.noClock : State := { Tests.put (Tests.sess 1) [(8, .faulted)] with weir := { refclk := false } }
theorem test_ControlTable_acknowledge : Tests.noClock.serves 1 1 ∧ controlCell (Tests.noClock.fn 8).state 5 = .goes .ready .ready ∧
    Tests.noClock.relies 8 5 = none ∧ Tests.noClock.cause 8 ≠ 0 ∧
    (Tests.put (Tests.sess 1) [(8, .faulted)]).serves 1 1 ∧ (Tests.put (Tests.sess 1) [(8, .faulted)]).cause 8 = 0 :=
  ⟨Tests.serves_of (by decide), by decide, by decide, by decide, Tests.serves_of (by decide), by decide⟩
/-- Function 8 with a record, and Tests.sess 1 around it. -/
def Tests.at8 (x : FnRec) : State := (Tests.sess 1).setFn 8 x
theorem test_FunctionCommandsComplete_met : (Tests.at8 {}).serves 1 1 ∧ (Tests.at8 { state := .stopping, pend := 1 }).serves 1 1 ∧
    (Tests.at8 {}).cfg.snap.state ≠ 2 ∧ isPermanent 8 = false ∧ ((Tests.at8 { state := .stopping, pend := 1 }).fn 8).pend ≠ 0 ∧
    ((Tests.at8 { state := .off }).fn 8).state = .off ∧ (Tests.at8 { state := .off }).prereqOk 8 = true ∧
    ((Tests.at8 {}).fn 8).state = .ready ∧ (Tests.at8 {}).prereqOk 8 = true ∧ ((Tests.at8 { state := .running }).fn 8).state = .running ∧
    (Tests.at8 { state := .running }).dependents 8 = false ∧ (Tests.at8 { state := .faulted }).dependents 8 = false ∧
    (Tests.at8 { state := .faulted }).cause 8 = 0 := ⟨Tests.serves_of (by decide), Tests.serves_of (by decide), by decide⟩
theorem test_PermanentFunctions_met : isPermanent 10 = true ∧ isPermanent 11 = true ∧ isPermanent 14 = true ∧
    (Tests.sess 1).serves 1 1 ∧ ((Tests.sess 1).fn 10).state ≠ .wedged ∧ (Tests.sess 1).cfg.snap.state ≠ 2 :=
  ⟨by decide, by decide, by decide, Tests.serves_of (by decide), by decide, by decide⟩
theorem test_PermanentFunctions_reset : Tests.gives (exec (.pkgRst {}) State.reset) (fun t => !t.ctl.heldAfterPhase1) = true ∧
    Tests.gives (exec (.powerOn {}) State.reset) (fun t => !t.ctl.heldAfterPhase1) = true := by decide +kernel
theorem test_PermanentFunctions_command : Inv { State.reset with timeUs := 1 } ∧
    ∃ t, exec .railAlertDeasserted { State.reset with timeUs := 1 } = .next t ∧ t.ctl.heldAfterPhase1 = false :=
  ⟨test_InvStep_met.1, _, rfl, by decide⟩
theorem test_StartAndStopComplete_start : (Tests.starting 0 .ready).awake = true ∧ ((Tests.starting 0 .ready).fn 1).state = .starting ∧
    (Tests.starting 0 .ready).cause 1 = 0 ∧ ((Tests.starting 0 .ready).fn 1).pend = 0 ∧ isPermanent 1 = false ∧
    (Tests.starting 0 .ready).cfg.snap.state ≠ 2 := by decide
/-- Function 1 Starting towards Ready with a pending Enable. -/
def Tests.thenEnable : State := (Tests.put (Tests.sess 1) [(9, .running)]).setFn 1 { state := .starting, target := .ready, pend := 2 }
theorem test_StartAndStopComplete_enable : Tests.thenEnable.cause 1 = 0 ∧ (Tests.thenEnable.fn 1).pend = 2 ∧
    (Tests.thenEnable.fn 1).target = .ready ∧ Tests.thenEnable.prereqOk 1 = true ∧ Tests.thenEnable.awake = true ∧ Tests.thenEnable.cfg.snap.state ≠ 2 := by decide
theorem test_StartAndStopComplete_stop : (Tests.put (Tests.sess 1) [(12, .stopping)]).stopMet 12 = true ∧
    ((Tests.put (Tests.sess 1) [(12, .stopping)]).fn 12).pend = 0 ∧ (Tests.put (Tests.sess 1) [(12, .stopping)]).winBusy = false ∧
    (let s : State := { Tests.put (Tests.sess 1) [(12, .stopping)] with win := { frames := [(0, {})] } }
     s.stopMet 12 = true ∧ s.win.frames ≠ [] ∧ ∀ e ∈ s.win.frames, e.2.bad = false) ∧
    (∀ e ∈ (Tests.put (Tests.sess 1) [(12, .stopping)]).win.frames, e.2.bad = false) ∧
    (Tests.put (Tests.sess 1) [(1, .stopping)]).stopMet 1 = true ∧
    (Tests.put (Tests.sess 1) [(12, .stopping)]).cfg.snap.state ≠ 2 := by decide
theorem test_StoppingLimitAborts_met :
    let s := Tests.one ((Tests.put (Tests.sess 1) [(3, .stopping)]).setObj (fnKey 3 7) 1) { kind := .dx, raw := Tests.wo 0x10 1, phase := .admitted }
    s.awake = true ∧ s.cfg.snap.state ≠ 2 ∧ (s.fn 3).state = .stopping ∧ s.obj (fnKey 3 7) ≠ 0 ∧ (∃ o ∈ s.seq.orders, o.started = true ∧ o.uses 3 = true) ∧
    ((Tests.put (Tests.sess 1) [(3, .stopping)]).obj (fnKey 3 7) = 0) := by decide +kernel
-- hypotheses met: rings and work orders
/-- Ring 15 in a state. -/
def Tests.ring15 (st : RingState) (pend : Bool) : State := (Tests.sess 1).setRing 15 { state := st, pendEnable := pend }
theorem test_RingCommandsComplete_met : (Tests.ring15 .disabled false).serves 1 1 ∧ (Tests.ring15 .draining false).serves 1 1 ∧
    (Tests.ring15 .draining true).serves 1 1 ∧ (Tests.ring15 .running false).serves 1 1 ∧ (Tests.ring15 .halted false).serves 1 1 ∧
    (Tests.ring15 .disabled false).cfg.snap.state ≠ 2 ∧ ((Tests.ring15 .disabled false).ring 15).state = .disabled ∧
    ((Tests.ring15 .draining false).ring 15).state = .draining ∧ ((Tests.ring15 .draining false).ring 15).pendEnable = false ∧
    ((Tests.ring15 .draining true).ring 15).pendEnable = true ∧ ((Tests.ring15 .running false).ring 15).state = .running ∧
    ((Tests.ring15 .halted false).ring 15).state = .halted ∧ ((Tests.ring15 .halted false).ring 15).pendEnable = false :=
  ⟨Tests.serves_of (by decide), Tests.serves_of (by decide), Tests.serves_of (by decide), Tests.serves_of (by decide),
   Tests.serves_of (by decide), by decide⟩
theorem test_RingCommandsComplete_orders : (∀ o ∈ (Tests.ring15 .running false).seq.orders, o.ring ≠ 15) ∧
    ∃ o ∈ (Tests.one (Tests.ring15 .running false) { ring := 15 }).seq.orders, o.ring = 15 := by decide
theorem test_RingControlRefused_met : (Tests.ring15 .running false).serves 1 1 ∧ ((Tests.ring15 .running false).ring 15).pendEnable = false ∧
    (Tests.ring15 .draining true).serves 1 1 ∧ (Tests.ring15 .disabled false).serves 1 1 ∧ ((Tests.ring15 .disabled false).ring 15).state ≠ .halted ∧
    (Tests.ring15 .running false).order? 15 65535 = none :=
  ⟨Tests.serves_of (by decide), by decide, Tests.serves_of (by decide), Tests.serves_of (by decide), by decide⟩
theorem test_HeadIsRead_met : (Tests.ring15 .running false).awake = true ∧ ((Tests.ring15 .running false).ring 15).state = .running ∧
    ((Tests.ring15 .running false).ring 15).head = ((Tests.ring15 .running false).ring 15).tail ∧
    ((Tests.ring15 .halted false).ring 15).state ≠ .running ∧
    (Tests.ring15 .running false).live = true ∧ (Tests.snap (Tests.ring15 .running false) 2).live = false := by decide
/-- Ring 0 Running with one work order to read, of 128 bytes w at 0x1000; its control block is at 0x8000. -/
def Tests.toRead (s : State) (w : Nat) : State :=
  (((s.wrN 0x1000 128 w).setObj (ringKey 0 1) 0x1000).setObj (ringKey 0 5) 0x8000).setRing 0 { state := .running, head := 1 }
/-- What `ReadRowsAccept` asks of a row, and what `ReadRowsRefuse` asks with the code of the first check. -/
def Tests.reads (c : Instr) (k : Kind) (w : Nat) (code : Option Nat) : Bool :=
  let s := Tests.toRead Tests.up w
  decide (readRow c = some (0, k)) && s.canRead 0 && decide (kindOf (s.tailWord 0) = some k) &&
    decide (firstBad ((s.prepared 0 k).checks (s.takeUp 0 k (s.tailWord 0))) = code)
theorem test_ReadRowsAccept_fence : Tests.reads (.fence 0) .fence (Tests.wo 0x60 1) none = true := by decide +kernel
theorem test_ReadRowsAccept_version : Tests.reads (.versionSet 0 .read) .vset (Tests.wo 0x61 1) none = true ∧
    Tests.reads (.versionPublish 0) .vpub (Tests.wo 0x61 1 + 2 * 2 ^ 128 + 2 ^ 176) none = true := by decide +kernel
/-- A NORM of one token of width 16 with both entries none (0xFFFD). -/
def Tests.norm1 : Nat := Tests.wo 0x20 1 + 1 * 2 ^ 11 + 1 * 2 ^ 160 + 16 * 2 ^ 192 + 0xFFFD * 2 ^ 288 + 0xFFFD * 2 ^ 304
theorem test_ReadRowsAccept_norm : Tests.reads (.norm 0 .read) (.boil 1) Tests.norm1 none = true := by decide +kernel
theorem test_ReadRowsRefuse_check : Tests.reads (.fence 0) .fence 0x60 (some 0x0320) = true ∧
    Tests.reads (.norm 0 .read) (.boil 1) (Tests.wo 0x20 1 + 1 * 2 ^ 11) (some 0x0320) = true := by decide +kernel
theorem test_ReadRowsRefuse_noKind : let s := Tests.toRead Tests.up 0xFF
    s.canRead 0 = true ∧ kindOf (s.tailWord 0) = none := by decide +kernel
/-- A fence of ring 0 in a phase, its ring Running with records from 0x9000 on. -/
def Tests.fence (ph : OrdPhase) (waits : List Nat) : State :=
  ((Tests.one ((Tests.sess 1).setRing 0 { state := .running }) { raw := Tests.wo 0x60 1, phase := ph, waits := waits }).setObj (ringKey 0 3) 0x9000)
theorem test_WorkOrderEnds_met : let s := Tests.fence (.ended 2 0x0320) []
    let o : Order := { raw := Tests.wo 0x60 1, phase := .ended 2 0x0320 }
    s.order? 0 0 = some o ∧ s.awake = true ∧ s.stock.waiting = [] ∧ (s.ring 0).state ≠ .draining ∧
    s.win.promos.any (fun x => x.ring = 0 && x.slot = 0) = false ∧
    s.cbAt 0 + 24 + 4 ≤ s.obj (ringKey 0 3) + 32 * ((s.ring 0).chead % s.obj (ringKey 0 4)) ∧ s.overDone o = true ∧ s.cfg.snap.state ≠ 2 := by decide +kernel
theorem test_WorkOrderEnds_abort : let s := Tests.fence .waiting []
    let t := Tests.fence .admitted []
    s.serves 1 1 ∧ t.serves 1 1 ∧ s.cfg.snap.state ≠ 2 ∧ s.order? 0 0 = some { raw := Tests.wo 0x60 1, phase := .waiting } ∧
    ({ raw := Tests.wo 0x60 1, phase := .admitted } : Order).started = true ∧ t.writesPending 0 0 = false ∧ t.pans = [] :=
  ⟨Tests.serves_of (by decide +kernel), Tests.serves_of (by decide +kernel), by decide +kernel⟩
theorem test_FenceAndPublishComplete_met : let s := Tests.fence .admitted [0]
    let t := Tests.fence .admitted [5]
    s.order? 0 0 = some { raw := Tests.wo 0x60 1, phase := .admitted, waits := [0] } ∧ woFlush (Tests.wo 0x60 1) = false ∧
    s.seq.orders.any (fun q => [0].contains q.seq) = true ∧ t.seq.orders.any (fun q => [5].contains q.seq) = false ∧
    t.writesPending 0 0 = false ∧ t.cfg.snap.state ≠ 2 ∧ t.awake = true := by decide +kernel
/-- A fence that flushes region 0, with a group of it resident where `f` says so. -/
def Tests.flush (f : FMap Frame) : State :=
  { Tests.one Tests.up { raw := Tests.wo 0x60 1 + 2 ^ 159, phase := .admitted } with win := { frames := f } }
theorem test_FenceAndPublishComplete_flush : woFlush (Tests.wo 0x60 1 + 2 ^ 159) = true ∧ (Tests.flush []).writesPending 0 0 = false ∧
    (∀ e ∈ (Tests.flush []).win.frames, ¬ e.1 / 2 ^ 20 = woFregion (Tests.wo 0x60 1 + 2 ^ 159)) ∧ (Tests.flush []).winWrites 0 = [] ∧
    (∃ e ∈ (Tests.flush [(0, {})]).win.frames, e.1 / 2 ^ 20 = woFregion (Tests.wo 0x60 1 + 2 ^ 159)) ∧
    (∀ e ∈ (Tests.flush [(0, {})]).win.frames, e.2.bad = false) ∧ (Tests.flush [(0, {})]).writesPending 0 0 = false := by decide +kernel
/-- A work order that waits, every function Running. -/
def Tests.waits (o : Order) : State := Tests.one Tests.up o
/-- A NORM whose output is entry 0. -/
def Tests.normOut0 : Nat := Tests.wo 0x20 1 + 1 * 2 ^ 11 + 1 * 2 ^ 160 + 16 * 2 ^ 192 + 0xFFFD * 2 ^ 288
/-- Entry 0 in the state Held. -/
def Tests.held0 (s : State) : State := { s with stock := { ents := [(0, enSetState 0 2)] } }
theorem test_AdmissionTakesTheFirst_none : Tests.up.awake = true ∧ Tests.up.cfg.snap.state = 0 ∧
    Tests.up.markStalls.waiting.find? (fun o => Tests.up.markStalls.ready0 o && Tests.up.markStalls.targetReady o) = none := by decide +kernel
theorem test_AdmissionTakesTheFirst_some : let o : Order := { raw := Tests.wo 0x60 1 }
    let s := (Tests.waits o).markStalls
    s.waiting.find? (fun o => s.ready0 o && s.targetReady o) = some o ∧ firstBad (s.admissionChecks o) = none ∧
    o.preempts.contains (o.ring, o.slot) = false := by decide +kernel
theorem test_AdmissionTakesTheFirst_occupies : let o : Order := { kind := .boil 1, raw := Tests.norm1 }
    let s := (Tests.waits o).markStalls
    s.waiting.find? (fun o => s.ready0 o && s.targetReady o) = some o ∧ firstBad (s.admissionChecks o) = none ∧
    o.kind.occupies = true := by decide +kernel
theorem test_AdmissionTakesTheFirst_refuses : let o : Order := { kind := .boil 1, raw := Tests.normOut0 }
    let s := (Tests.held0 (Tests.waits o)).markStalls
    s.waiting.find? (fun o => s.ready0 o && s.targetReady o) = some o ∧ firstBad (s.admissionChecks o) = some 0x0414 := by decide +kernel
/-- A DX of layer l that runs on hub 0 from ring 1, and a DX with PRE of layer 0 that waits on ring 0. -/
def Tests.inTheWay (l : Nat) : State :=
  { Tests.up.setOrders [{ ring := 1, kind := .dx, raw := Tests.wo 0x10 1 + l * 2 ^ 128, phase := .admitted }, { kind := .dx, raw := Tests.wo 0x110 1 }] with
    pans := [(0, { state := .running, job := some (1, 0) })] }
def Tests.wayHyps (s : State) : Bool :=
  let o : Order := { kind := .dx, raw := Tests.wo 0x110 1 }
  decide (s.seq.orders.find? (fun o => o.ring = 0 && !o.started) = some o) && s.awake && s.cfg.snap.state = 0 && woPre o.raw && !s.anyWedged &&
    decide (s.busyMask o ≠ []) && decide (o.preempts = []) &&
    (s.busyMask o).all (fun q => q.phase == .admitted && !(woPre q.raw) && s.pans.all (fun e => !(bit (woMask q.raw) (e.1 / 64)) || e.2.crusts = 0)) &&
    s.functionsUp o && s.entriesReady o && !(s.excluded o)
theorem test_PreEmptionStopsPans_stops : Tests.wayHyps (Tests.inTheWay 1) = true ∧ let o : Order := { kind := .dx, raw := Tests.wo 0x110 1 }
    ((Tests.inTheWay 1).busyMask o).all (fun q => !((Tests.inTheWay 1).clash o q)) = true := by decide +kernel
theorem test_PreEmptionStopsPans_refuses : Tests.wayHyps (Tests.inTheWay 0) = true ∧ let o : Order := { kind := .dx, raw := Tests.wo 0x110 1 }
    ((Tests.inTheWay 0).busyMask o).any (fun q => (Tests.inTheWay 0).clash o q) = true := by decide +kernel
/-- An admitted work order that is to run on hub 0, whose pans run it at level 16. -/
def Tests.runs (k : Kind) (w : Nat) : State :=
  { Tests.one Tests.up { kind := k, raw := w, phase := .admitted, progress := 1 } with
    pans := (List.range 64).map (fun p => (p, { state := .running, job := some (0, 0), level := 16 })) }
theorem test_VersionAndStreamRowsRun_set : let s := Tests.runs .vset (Tests.wo 0x61 1)
    (s.toRun 0 0 (fun k => k == .vset)).isSome = true ∧ s.versionRefuses 0 0 = false ∧
    (s.setLayer 0 { pin0 := 1 }).versionRefuses 0 0 = true ∧
    ((s.setLayer 0 { pin0 := 1 }).toRun 0 0 (fun k => k == .vset)).isSome = true := by decide +kernel
theorem test_VersionAndStreamRowsRun_drop : let s := Tests.runs .vdrop (Tests.wo 0x61 1 + 2 ^ 128 + 4095 * 2 ^ 144 + 4 * 2 ^ 128)
    (s.toRun 0 0 (fun k => k == .vdrop)).isSome = true ∧ s.versionRefuses 4095 1 = false ∧
    (s.setLayer 4095 { claim := 2 }).versionRefuses 4095 1 = true ∧
    ((s.setLayer 4095 { claim := 2 }).toRun 0 0 (fun k => k == .vdrop)).isSome = true := by decide +kernel
theorem test_VersionRowsRefused_met : let s := (Tests.runs .vset (Tests.wo 0x61 1)).setLayer 0 { pin0 := 1 }
    (s.toRun 0 0 (fun k => k == .vset)).isSome = true ∧ s.versionRefuses 0 0 = true := by decide +kernel
theorem test_VersionAndStreamRowsRun_stream : ((Tests.runs .stream (Tests.wo 0x70 1)).toRun 0 0 (fun k => k == .stream)).isSome = true := by
  decide +kernel
/-- What `BoilRowsRun` asks. -/
def Tests.boils (b : Nat) : Bool :=
  let s := Tests.runs (.boil b) (Tests.wo 0x20 1 + b * 2 ^ 11)
  (s.toRun 0 0 (fun k => k == .boil b)).any (fun o => o.chain.isNone && o.progress = 1 && s.pansUp o)
theorem test_BoilRowsRun_met : (List.range 9).all Tests.boils = true := by decide +kernel
theorem test_BoilRowsRun_product : (Tests.runs (.boil 0) (Tests.wo 0x20 1)).pans.all
    (fun e => !(e.2.job = some (0, 0) && (e.2.issued || e.2.arrs.any (fun a => decide (0 < a.2.loaded))))) = true := by decide +kernel
theorem test_BoilOutputFrame_met : let s := Tests.runs (.boil 5) (Tests.wo 0x20 1 + 5 * 2 ^ 11 + 0xFFFD * 2 ^ 288)
    (s.toRun 0 0 (fun k => k == .boil 5)).any (fun o => decide (16384 ≤ woEntin o.raw) && o.chain.isNone && o.progress = 1 && s.panUp o 0) = true ∧ Tests.gives (exec (.point 0 (.run 0)) s) (fun _ => true) = true ∧
    woGated (Tests.wo 0x20 1 + 6 * 2 ^ 11) = false := by decide +kernel
/-- A work order with a link in progress: block 0 of sample 0 is retained, block 1 is to be regenerated or, with `r`, is retained too;
the recipe table is at 0xA000. -/
def Tests.link (r : Bool) (recipe : Nat) : State :=
  let s := Tests.runs (.boil 1) (Tests.wo 0x20 1 + 1 * 2 ^ 11 + 1 * 2 ^ 160 + 16 * 2 ^ 192 + 2 * 2 ^ 288)
  let t : State := { s.setOrders (s.seq.orders.map (fun o => { o with chain := some (0, 2), progress := 0 })) with
    stock := { ents := [(0, enSetState 0 2), (1, enSetState 0 (if r then 2 else 5)), (2, enSetState 0 5)] } }
  (t.setObj (okey 0x2410 7) 0xA000).wrN 0xA000 16 recipe
theorem test_ChainLinkCompletes_met : ((Tests.link true 0).order? 0 0).any (fun o => decide (o.chain = some (0, 2)) && o.phase == .admitted &&
      (Tests.link true 0).pansUp o) = true ∧ (Tests.link true 0).awake = true ∧ (Tests.link true 0).cfg.snap.state = 0 ∧
    retained ((Tests.link true 0).entryRec 1) = true ∧ retained ((Tests.link false 0).entryRec 1) = false ∧
    enState ((Tests.link false 0).entryRec 0) ≠ enSpilling ∧
    bit ((Tests.link false 0).rdN ((Tests.link false 0).obj (okey 0x2410 7)) 16) 60 = false := by decide +kernel
theorem test_ChainLinkCompletes_ends : enState (({ Tests.link false 0 with stock := { ents := [(0, enSetState 0 3)] } } : State).entryRec 0) = enSpilling ∧
    retained (({ Tests.link false 0 with stock := { ents := [(0, enSetState 0 3)] } } : State).entryRec 1) = false ∧
    (let s := (Tests.link true 0).updOrder 0 0 (fun o => { o with chain := some (0, 1) });
     (s.order? 0 0).any (fun o => o.chain == some (0, 1) && s.pansUp o) = true ∧ ¬ 0 + 1 < 1) := by decide +kernel
/-- A recipe of one work order at 0xB000. -/
def Tests.recipe1 : Nat := 0xB000 + 2 ^ 60
def Tests.linkRun (w : Nat) : Option (State × Bool) :=
  let s := (Tests.link false Tests.recipe1).wrN 0xB000 128 w
  (s.order? 0 0).map (fun o => (s.pinLink o 1).recipe o 0 1 0xB000 1)
theorem test_ChainLinkFails_met : (Tests.linkRun 0).any (fun x => !x.2) = true ∧ (Tests.linkRun Tests.norm1).any (fun x => x.2) = true ∧
    bit ((Tests.link false Tests.recipe1).rdN ((Tests.link false Tests.recipe1).obj (okey 0x2410 7)) 16) 60 = true := by decide +kernel
/-- An admitted QCAL whose descriptor 0 is of class I with one static scale at 0x100, of this FP32 code. -/
def Tests.qcal (scale : Nat) : State :=
  let t : State := { Tests.runs .qcal (Tests.wo 0x40 1) with qds := [(0, 0x100 * 2 ^ 192)] }
  t.wrN 0x100 4 scale
theorem test_QcalAndHarrowRowsRun_qcal : ((Tests.qcal 0).toRun 0 0 (fun k => k == .qcal)).any (Tests.qcal 0).pansUp = true ∧
    qdClass ((Tests.qcal 0).qd 0) = 1 ∧ (List.range (qUnits ((Tests.qcal 0).qd 0))).all
      (fun u => (dec32 ((Tests.qcal 0).rdN (qdLsaddr ((Tests.qcal 0).qd 0) + 4 * u) 4)).finite) = true ∧
    (List.range (qUnits ((Tests.qcal 0x7F800000).qd 0))).any
      (fun u => !(dec32 ((Tests.qcal 0x7F800000).rdN (qdLsaddr ((Tests.qcal 0x7F800000).qd 0) + 4 * u) 4)).finite) = true := by decide +kernel
/-- An UPDATE or PRECOND at a stage of its run; region 0 is a matrix of 16 x 16. -/
def Tests.harrow (k : Kind) (w stage : Nat) : State :=
  let s := (Tests.runs k w).updOrder 0 0 (fun o => { o with stage := stage })
  (s.setObj (okey 0x2C20 1) 0x800).wrN 0x800 64 (16 * 2 ^ 192 + 16 * 2 ^ 212 + 2 ^ 243)
def Tests.harrowClean (s : State) (k : Kind) (n : Nat) : Bool :=
      (s.toRun 0 0 (fun q => q == k)).any (fun o => s.panUp o (panAt (woMask o.raw) (o.tiles % pansOf (woMask o.raw))) && o.stage = n &&
        !(s.hLayer o).vec) && s.win.frames.isEmpty && !((s.fn 12).state == .faulted)
theorem test_QcalAndHarrowRowsRun_harrow :
    Tests.harrowClean (Tests.harrow .update (Tests.wo 0x50 1) 0) .update 0 = true ∧ Tests.harrowClean (Tests.harrow .update (Tests.wo 0x50 1) 4) .update 4 = true ∧
    Tests.harrowClean (Tests.harrow .precond (Tests.wo 0x51 1) 0) .precond 0 = true ∧ Tests.harrowClean (Tests.harrow .precond (Tests.wo 0x51 1) 4) .precond 4 = true := by
  decide +kernel
theorem test_ResetRows_met : (Tests.sess 1).serves 1 1 := Tests.serves_of (by decide)
-- hypotheses met: management link
theorem test_ResetRows_flash : State.reset.cfg.commit.status ≠ 1 := by decide
/-- Client 1 has a download in progress. -/
def Tests.xfer1 : State := State.reset.setXfer 1 (some { index := 0x1100, sub := 3, size := 2 })
theorem test_BusRows_met : State.reset.awake = true ∧ State.reset.obj (okey 0x1100 3) ≠ 0 ∧ State.reset.busUp = true ∧
    State.reset.obj (okey 0x1101 3) ≠ 2 ∧ (State.reset.setObj (okey 0x1101 3) 2).obj (okey 0x1101 3) = 2 ∧
    (State.reset.setObj (okey 0x1101 3) 2).awake = true ∧ (Tests.xfer1.xfer 1).isSome = true ∧ Tests.xfer1.awake = true := by decide
/-- A key of 16 bytes at privilege p. -/
def Tests.key (p : Nat) : State := { State.reset with mgt := { keys := [(p, List.replicate 16 1)] } }
/-- The same with eight sessions open. -/
def Tests.full8 : State :=
  { State.reset with mgt := { keys := [(1, List.replicate 16 1)], sessions := (List.range 8).map (fun k => (k + 1, some { cl := 10 + k, priv := 1 })) } }
theorem test_HandshakeOpensSession_open : State.reset.reachable 1 = true ∧ State.reset.reachable 131 = true ∧ State.reset.keyOf 0 = [] ∧
    (Tests.key 2).keyOf 2 ≠ [] ∧ (Tests.key 2).sessionCount ≠ 8 ∧ ((Tests.key 2).clientOf 1).locked = false ∧
    Tests.full8.keyOf 1 ≠ [] ∧ Tests.full8.sessionCount = 8 ∧
    (((Tests.key 1).setClient 1 { locked := true }).clientOf 1).locked = true := by decide +kernel
/-- Client 1 holds challenge 7 at privilege 0, and has failed this often. -/
def Tests.chal (fails : Nat) : State := (Tests.key 0).setClient 1 { chal := some (0, 7), fails := fails }
theorem test_HandshakeOpensSession_right : ((Tests.chal 0).clientOf 1).chal = some (0, 7) ∧ (Tests.chal 0).sessionOf 1 = none ∧
    (Tests.chal 0).freeSession ≠ none ∧ ∃ mac : List Byte, mac.length = 32 ∧ hmac ((Tests.chal 0).keyOf 0) (macMessage 7 1 0) = mac :=
  ⟨by decide +kernel, by decide +kernel, by decide +kernel, _, hmac_length _ _, rfl⟩
theorem test_HandshakeOpensSession_wrong : ((Tests.chal 4).clientOf 1).chal = some (0, 7) ∧
    (Tests.chal 4).obj (okey 0x2A10 3) ≤ ((Tests.chal 4).clientOf 1).fails + 1 ∧
    ¬((Tests.chal 3).obj (okey 0x2A10 3) ≤ ((Tests.chal 3).clientOf 1).fails + 1) ∧
    ∃ mac : List Byte, mac.length = 32 ∧ hmac ((Tests.chal 4).keyOf 0) (macMessage 7 1 0) ≠ mac := by
  refine ⟨by decide +kernel, by decide +kernel, by decide +kernel, ?_⟩
  by_cases h : hmac ((Tests.chal 4).keyOf 0) (macMessage 7 1 0) = List.replicate 32 0
  · exact ⟨List.replicate 32 1, by decide, by rw [h]; decide⟩
  · exact ⟨List.replicate 32 0, by decide, h⟩
/-- Sessions 1 (client 1) and 8 (client 2), and a download of client 2. -/
def Tests.two : State :=
  ({ State.reset with mgt := { sessions := [(1, some { cl := 1, priv := 3 }), (8, some { cl := 2, priv := 1 })] } }).setXfer 2 (some {})
theorem test_SessionsClose_met : (Tests.sess 1).serves 1 1 ∧ Tests.two.serves 1 3 ∧ (FMap.get none Tests.two.mgt.sessions 8).isSome = true ∧
    Tests.two.awake = true ∧ (Tests.two.xfer 2).isSome = true ∧ FMap.get none Tests.two.mgt.sessions 8 = some { cl := 2, priv := 1 } :=
  ⟨Tests.serves_of (by decide), Tests.serves_of (by decide), by decide⟩
theorem test_SessionsClose_other : ∀ m x, Tests.two.sessionOf 1 = some (m, x) → m ≠ 8 := by
  intro m x h
  have : Tests.two.sessionOf 1 = some (1, { cl := 1, priv := 3 }) := by decide
  rw [this] at h
  cases h; decide
theorem test_SessionsClose_key : (((16 : Byte).toNat = 0 ∧ 2 ≠ 3) ∨ (16 ≤ (16 : Byte).toNat ∧ (16 : Byte).toNat ≤ 64)) ∧
    ¬(((0 : Byte).toNat = 0 ∧ 3 ≠ 3) ∨ (16 ≤ (0 : Byte).toNat ∧ (0 : Byte).toNat ≤ 64)) ∧
    ¬(((65 : Byte).toNat = 0 ∧ 2 ≠ 3) ∨ (16 ≤ (65 : Byte).toNat ∧ (65 : Byte).toNat ≤ 64)) ∧ (List.replicate 64 (0 : Byte)).length = 64 := by
  decide
theorem test_WithoutSessionRefused_met : State.reset.reachable 1 = true ∧ State.reset.sessionOf 1 = none ∧
    ¬(0x2A01 = 0x2A01 ∧ 1 ≤ 5 ∧ 5 ≤ 4) ∧ (Tests.sess 1).reachable 1 = true ∧
    (Tests.sess 1).sessionOf 1 = some (1, { cl := 1, priv := 1 }) ∧ 1 < (levelOf 0x2190 1).writer := by decide +kernel
/-- The row of an object. -/
def Tests.row (i j : Nat) : ObjRow := (objRow i j).getD ⟨0, 0, .u8, .ro, .basic, 0, false⟩
/-- What `PlainWriteStores` asks of an object. -/
def Tests.plain (s : State) (i j : Nat) : Bool :=
  decide (objRow i j = some (Tests.row i j)) && decide ((Tests.row i j).acc = .rw) && !(Tests.row i j).sel && decide (j < 256) && indexExists i &&
    !((commandKeys ++ [0x300001, 0x2C9201, 0x1F0001]).contains (canonKey i j)) && decide (i ≠ 0x2A01) && decide (i ≠ 0x2A81) && decide (i ≠ 0x2A82) &&
    Tests.served s 1 (Tests.row i j).lvl.writer && decide (s.cfg.snap.state ≠ 2)
theorem test_PlainWriteStores_value : Tests.plain (Tests.sess 1) 0x2110 1 = true ∧ (Tests.row 0x2110 1).ty.size = 2 ∧
    (Tests.sess 1).valueBad (Tests.row 0x2110 1) 0x2110 1 0 = some 0x06090032 ∧
    (Tests.sess 1).valueBad (Tests.row 0x2110 1) 0x2110 1 65535 = none ∧ (Tests.sess 1).locked 0x2110 1 65535 = false := by decide +kernel
theorem test_PlainWriteStores_locked : let s := Tests.put (Tests.sess 3) [(6, .running)]
    Tests.plain s 0x2610 1 = true ∧ s.valueBad (Tests.row 0x2610 1) 0x2610 1 0 = none ∧ s.locked 0x2610 1 0 = true := by decide +kernel
theorem test_MessagesCarryTransfers_bus : State.reset.reachable 1 = true ∧ 16 = State.reset.ctl.nodeId ∧ State.reset.xfer 1 = none ∧
    17 ≠ State.reset.ctl.nodeId ∧ (State.reset.setObj (okey 0x1101 3) 2).reachable 1 = false := by decide
theorem test_MessagesCarryTransfers_mailbox : State.reset.awake = true ∧ State.reset.mbx 3 = {} ∧ State.reset.xfer (128 + 3) = none ∧
    (State.reset.setMbx 0 { resp := some (5, .confirm) }).mbx 0 = { req := none, resp := some (5, .confirm) } ∧
    (State.reset.setMbx 0 { req := some (6, 16, .download 0x1100 3 [0, 0]), resp := some (5, .confirm) }).mbx 0 =
      { req := some (6, State.reset.ctl.nodeId, .download 0x1100 3 [0, 0]), resp := some (5, .confirm) } := by decide
theorem test_MessagesCarryTransfers_segments : (Tests.sess 1).reachable 1 = true ∧ (Tests.sess 1).sessionOf 1 = some (1, { cl := 1, priv := 1 }) ∧
    (Tests.row 0x2410 1).lvl.writer ≤ 1 ∧ objRow 0x2410 1 = some (Tests.row 0x2410 1) ∧ indexExists 0x2410 = true ∧
    (Tests.row 0x2410 1).acc ≠ .ro ∧ (Tests.row 0x2410 1).acc ≠ .const ∧
    (List.replicate 7 (0 : Byte) ++ [0]).length = (Tests.row 0x2410 1).ty.size ∧ (Tests.sess 1).xfer 1 = none := by decide +kernel

-- hypotheses met: configuration, snapshot, single registers
/-- An image at 0x4000: of no record, or of one record. -/
def Tests.image (l : List BankRec) : State :=
  ((Tests.sess 2).wrBytes 0x4000 (makeImage 0 l.length (l.flatMap BankRec.bytes))).setObj (okey 0x2B80 2) 0x4000
def Tests.imageOf (s : State) : Nat × List BankRec :=
  imageCheck (s.rdBytes (s.obj (okey 0x2B80 2)) 64) (fun n => s.rdBytes (s.obj (okey 0x2B80 2) + 64) n)
theorem test_CaptureCommitErase_image : (Tests.sess 2).serves 1 2 ∧ (Tests.sess 2).cfg.snap.state = 0 ∧ (Tests.sess 2).cfg.commit.status ≠ 1 ∧
    (Tests.imageOf (Tests.sess 2)).1 ≠ 0 := ⟨Tests.serves_of (by decide), by decide +kernel⟩
theorem test_CaptureCommitErase_good : (Tests.image []).serves 1 2 ∧ (Tests.imageOf (Tests.image [])).1 = 0 ∧
    ((Tests.image []).countRequest 1).firstBad (((Tests.image []).countRequest 1).privOf 1) 0 (Tests.imageOf (Tests.image [])).2 = none :=
  ⟨Tests.serves_of (by decide +kernel), by decide +kernel, by decide +kernel⟩
theorem test_CaptureCommitErase_bad : let s := Tests.image [⟨0x1001, 0, [0]⟩]
    (Tests.imageOf s).1 = 0 ∧ ((s.countRequest 1).firstBad ((s.countRequest 1).privOf 1) 0 (Tests.imageOf s).2).isSome = true := by decide +kernel
/-- A commit (2) or an erase (3) in progress. -/
def Tests.storing (cmd : Nat) : State := State.reset.setCommit { status := 1, cmd := cmd }
theorem test_CaptureCommitErase_ends : (Tests.storing 2).awake = true ∧ (Tests.storing 2).cfg.commit.status = 1 ∧
    (Tests.storing 2).cfg.commit.cmd = 2 ∧ (Tests.storing 3).cfg.commit.cmd = 3 ∧ (Tests.storing 3).cfg.snap.state ≠ 2 := by decide
theorem test_SnapshotRows_met : (Tests.sess 2).serves 1 2 ∧ (Tests.snap (Tests.sess 2) 2).serves 1 2 ∧ (Tests.snap (Tests.sess 2) 1).serves 1 2 ∧
    (Tests.sess 2).cfg.snap.state = 0 ∧ (Tests.sess 2).cfg.commit.status ≠ 1 ∧ (Tests.storing 3).cfg.commit.cmd = 3 ∧
    (Tests.storing 2).cfg.commit.cmd ≠ 3 ∧ (Tests.snap (Tests.sess 2) 1).cfg.snap.state ≠ 0 ∧
    (Tests.snap (Tests.sess 2) 2).cfg.snap.state = 2 ∧ (Tests.snap (Tests.sess 2) 1).cfg.snap.state = 1 ∧
    (Tests.snap (Tests.sess 2) 1).allAtRest = true ∧ (Tests.snap (Tests.sess 2) 1).awake = true ∧
    (Tests.snap (Tests.sess 2) 1).win.frames = [] ∧ (Tests.snap (Tests.sess 2) 1).cfg.snap.flushed = false ∧ (Tests.sess 2).stock.waiting = [] :=
  ⟨Tests.serves_of (by decide), Tests.serves_of (by decide), Tests.serves_of (by decide), by decide⟩
theorem test_SingleRegisterRows_met : let s := (Tests.sess 2).setObj (okey 0x2C20 2) 1
    s.serves 1 2 ∧ s.cfg.snap.state ≠ 2 ∧ 0 < s.obj (okey 0x2C20 2) ∧ s.isWedged 12 = false ∧
    (∀ f, f = 4 ∨ f = 5 → (s.fn f).state ≠ .starting ∧ (s.fn f).state ≠ .running ∧ (s.fn f).state ≠ .stopping) ∧
    okey 0x2350 1 = 0x235001 ∧ okey 0x2210 4 ∈ [0x221002, 0x221003, 0x221004] ∧ s.obj (okey 0x2410 8) = 0 := by
  refine ⟨Tests.serves_of (by decide), by decide, by decide, by decide, ?_, by decide, by decide, by decide⟩
  rintro f (rfl | rfl) <;> decide
/-- Pan 64 (hub 1) with a crust. -/
def Tests.crusted : State := (Tests.sess 2).setPan 64 { state := .stopped, stopCause := 4, job := some (0, 0), crust0 := { hdr := 1 + 4 * 2 } }
theorem test_TestStopAndResume_met : Tests.crusted.serves 1 2 ∧ ((Tests.crusted.pan 64).newest.any (fun c => ckCause c.hdr = causeTest)) = true ∧
    (Tests.crusted.pan 64).state = .stopped ∧ (Tests.crusted.pan 64).job.isSome = true ∧ (Tests.crusted.hub 1).autonomous = false ∧ Tests.crusted.maskHoldsCrust 2 = true ∧ Tests.crusted.maskHoldsCrust 1 = false ∧
    Tests.crusted.anyWedged = false ∧ Tests.crusted.cfg.snap.state ≠ 2 := ⟨Tests.serves_of (by decide), by decide +kernel⟩

-- hypotheses met: DMA
/-- Channel 31 as given, function 2 Running. -/
def Tests.ch (x : Chan) : State := (Tests.put (Tests.sess 1) [(2, .running)]).setChan 31 x
/-- Channel 31 with its pacing mode 1 and LOW not below HIGH. -/
def Tests.badPace : State := ((Tests.ch {}).setObj (chKey 31 9) 1).setObj (chKey 31 0x0A) 48
/-- A write of channel 31 that has not arrived. -/
def Tests.dmaReq : Req := { hub := 62, write := true, who := .dma, addr := 0x2000, len := 1, data := [0] }
theorem test_ChannelControlRows_start : (Tests.ch {}).serves 1 1 ∧ Tests.badPace.serves 1 1 ∧ (Tests.ch {}).running 2 = true ∧ (Tests.ch {}).paceBad 31 = false ∧
    ((Tests.ch {}).chan 31).state = .idle ∧ ((Tests.ch {}).chan 31).pendStart = false ∧ (Tests.ch {}).dmaSwitch 31 false = true ∧
    ((Tests.ch { state := .aborting }).chan 31).state = .aborting ∧ ((Tests.ch { state := .halted }).chan 31).state ≠ .aborting ∧
    Tests.badPace.paceBad 31 = true ∧ ((Tests.ch { state := .aborting, pendStart := true }).chan 31).pendStart = true ∧
    (Tests.sess 1).running 2 = false ∧ (Tests.sess 1).paceBad 31 = false :=
  ⟨Tests.serves_of (by decide +kernel), Tests.serves_of (by decide +kernel), by decide +kernel⟩
theorem test_ChannelControlRows_abort : (Tests.ch { state := .active }).serves 1 1 ∧ ((Tests.ch { state := .active }).chan 31).haltCode = 0 ∧
    (Tests.ch { state := .paced }).dmaOpen 31 true = [] ∧ (Tests.ch { state := .paced }).dmaOpen 31 false = [] ∧
    ((Tests.ch { state := .paced }).setStrm { reqs := [Tests.dmaReq] }).dmaOpen 31 true ≠ [] ∧
    ((Tests.ch { state := .halted }).chan 31).state = .halted ∧ (Tests.ch {}).portReach 1 = true ∧
    (Tests.ch { state := .active, got := [(0, 1)] }).chanState 31 = .active ∧
    (Tests.put (Tests.sess 1) [(9, .wedged)]).serves 1 1 ∧ (Tests.put (Tests.sess 1) [(9, .wedged)]).portReach (chHalf 31) = false :=
  ⟨Tests.serves_of (by decide +kernel), by decide +kernel, by decide +kernel, by decide +kernel, by decide +kernel, by decide +kernel,
   by decide +kernel, by decide +kernel, Tests.serves_of (by decide +kernel), by decide +kernel⟩
/-- Every page of both halves that the tests use is translated. -/
def Tests.tlb (s : State) : State :=
  s.setStrm { s.strm with tlb := [{ half := 0, page := 0, large := false, write := true }, { half := 1, page := 0, large := false, write := true }] }
/-- A descriptor: 256 bytes from 0x1000 to 0x2000, with more fields. -/
def Tests.desc (x : Nat) : Nat := 0x2000 * 2 ^ 152 + 0x1000 * 2 ^ 100 + 256 * 2 ^ 68 + x
/-- Channel 31 Active on the descriptor at 0x100. -/
def Tests.atDesc (d : Nat) : State := (Tests.ch { state := .active, daddr := 0x100 }).wrN 0x100 32 d
/-- A write of channel 31 in flight. -/
def Tests.flies (s : State) (a : Nat) : State := s.setStrm { s.strm with tags := [{ no := 0, req := { Tests.dmaReq with addr := a } }] }
theorem test_DescriptorIsRead_met : (Tests.atDesc 0).awake = true ∧ (Tests.atDesc 0).live = true ∧ ((Tests.atDesc 0).chan 31).haveDesc = false ∧
    (Tests.atDesc 0).chanLacks 31 0x100 32 = some 0 ∧ (Tests.tlb (Tests.atDesc 0)).chanLacks 31 0x100 32 = none ∧
    (Tests.flies (Tests.tlb (Tests.atDesc 0)) 0x11F).strm.tags.any (fun t => t.req.write && overlaps t.req.addr t.req.len 0x100 32) = true ∧
    (Tests.tlb (Tests.atDesc 0)).chanReads 31 0x100 32 = true ∧
    (Tests.tlb (Tests.atDesc 0)).descBad 31 ((Tests.tlb (Tests.atDesc 0)).rdN 0x100 32) = true ∧
    (Tests.tlb (Tests.atDesc (Tests.desc 0))).descBad 31 ((Tests.tlb (Tests.atDesc (Tests.desc 0))).rdN 0x100 32) = false := by decide +kernel
theorem test_DescriptorIsRead_does : Tests.gives (exec (.descriptorRead 31) (Tests.atDesc 0)) (fun t => t.strm.misses == [(1, 0)] && (t.chan 31).asked == some 0) = true ∧
    Tests.gives (exec (.descriptorRead 31) (Tests.tlb (Tests.atDesc 0))) (fun t => (t.chan 31).state == .halted && t.out.contains (.event 0x0220)) = true := by
  decide +kernel
/-- Channel 31 with a descriptor in progress. -/
def Tests.moving (d off : Nat) : State := Tests.tlb (Tests.ch { state := .active, desc := d, haveDesc := true, off := off })
/-- A launder entry whose producer is the DMA engine, with this consumer, for channel 31. -/
def Tests.dmaEntry (cons : Nat) : Nat := 31 * 2 ^ 47 + cons * 2 ^ 38 + 2 * 2 ^ 36 + 2 ^ 27 + 24 * 2 ^ 16 + 64
/-- Launder 248 (hub 62) with such an entry. -/
def Tests.dmaLaunder (s : State) (cons : Nat) : State := s.setStrm { s.strm with lset := [(248, some (Tests.dmaEntry cons))] }
/-- What `BurstMovesBytes` asks of channel 31. -/
def Tests.bursts (s : State) : Bool :=
  let x := s.chan 31
  x.haveDesc && x.haltCode = 0 && !(s.chanBusy 31) && s.awake && s.live && s.dmaSwitch 31 x.switch
theorem test_BurstMovesBytes_reads : let s := Tests.moving (Tests.desc 0) 0
    Tests.bursts s = true ∧ ddStage (s.chan 31).desc = false ∧ (s.chan 31).got = [] ∧ (s.chan 31).rd < 256 ∧
    (s.chan 31).side false 0 256 = ([(0, 0x1000, 256)], .done) ∧ (s.setObj (chKey 31 9) 2).dmaSwitch 31 false = false ∧
    Tests.gives (exec (.burst 31) s) (fun t => t.strm.reqs.map (fun q => (q.hub, q.write, q.run, q.addr, q.len)) == [(62, false, 0, 0x1000, 256)] &&
      (t.chan 31).rd = 256) = true := by decide +kernel
theorem test_BurstMovesBytes_writes : let s := (Tests.moving (Tests.desc 0) 0).setChan 31 { state := .active, desc := Tests.desc 0, haveDesc := true, rd := 256, got := [(0, 7)] }
    Tests.bursts s = true ∧ (s.chan 31).got ≠ [] ∧ (s.chan 31).side true 0 256 = ([(0, 0x2000, 256)], .done) ∧
    (beats [(0, 0x2000, 256)]).all (fun b => (s.tlbHit 1 (pageOf b.2.1)).any (fun e => e.write) && (s.tlbHit 1 (pageOf (b.2.1 + b.2.2 - 1))).any (fun e => e.write)) = true ∧
    Tests.gives (exec (.burst 31) s) (fun t => t.strm.reqs.map (fun q => (q.write, q.addr, q.data.take 2, q.data.length)) == [(true, 0x2000, [7, 0], 256)]) = true := by
  decide +kernel
theorem test_BurstMovesBytes_stage : let s := Tests.dmaLaunder (Tests.moving (Tests.desc (2 ^ 46)) 0) 2
    Tests.bursts s = true ∧ ddStage (s.chan 31).desc = true ∧ s.stageLaunder 31 = some 248 ∧ s.stageFree 31 = true ∧ s.stagedBufs 31 = [] ∧
    0 < leBufmax (s.entry 248) ∧ (s.chan 31).side false 0 256 = ([(0, 0x1000, 256)], .done) ∧
    Tests.gives (exec (.burst 31) s) (fun t => (t.chan 31).rd = 256 && t.strm.bufs.any (fun b => b.staged 31)) = true := by decide +kernel
theorem test_DescriptorEnds_met : let s := Tests.moving (Tests.desc (2 ^ 37)) 256
    let g := Tests.dmaLaunder (Tests.moving (Tests.desc (2 ^ 47 + 248 * 2 ^ 48)) 256) 3
    (s.chan 31).off = ddLength (s.chan 31).desc ∧ s.descWrites 31 = [] ∧ ddGpush (s.chan 31).desc = false ∧ ddIfull (s.chan 31).desc = true ∧
    ddNext (s.chan 31).desc = 0 ∧ ddNext (Tests.desc (32 * 2 ^ 204)) ≠ 0 ∧ s.awake = true ∧ s.cfg.snap.state ≠ 2 ∧
    ddGpush (g.chan 31).desc = true ∧ (g.pushGate (g.chan 31).desc).isSome = true ∧
    ((Tests.dmaLaunder g 3).setQueue 248 { q := List.replicate 64 { kind := 0, seq := 0, len := 1, base := 0, buf := 0 } } |>.pushGate (g.chan 31).desc).isSome = false ∧
    ((Tests.ch { state := .aborting, pendStart := true }).chan 31).pendStart = true ∧ (Tests.ch { state := .aborting }).dmaOpen 31 true = [] ∧
    (Tests.ch { state := .aborting }).dmaOpen 31 false = [] ∧ (s.chan 31).haltCode = 0 := by decide +kernel
-- hypotheses met: streams
/-- A descriptor of two runs of 4,096 bytes, one unit a buffer, with more fields. -/
def Tests.sd (x : Nat) : Nat := 2 * 2 ^ 128 + 2 ^ 144 + 4096 * 2 ^ 384 + 2 * 2 ^ 480 + x
/-- A stream on launder 0. -/
def Tests.stream (d : Nat) (x : Stream) : State := Tests.up.setStrm { streams := [{ x with desc := d }] }
theorem test_FetchesFillBuffers_fetch : let s := Tests.stream (Tests.sd 0) {}
    (s.strm.streams.find? (fun x => x.launder = 0 && s.canFetch x)).isSome = true ∧ s.awake = true ∧ s.live = true ∧
    sdEpoch (Tests.sd 0) = false ∧ (∀ b ∈ s.strm.bufs, b.id ≤ s.strm.bufCount) ∧
    s.strm.streams.find? (fun x => x.launder = 255 && s.canFetch x) = none := by decide +kernel
theorem test_FetchesFillBuffers_ends : let s := Tests.stream (Tests.sd 0) { run := 2 }
    let x : Stream := { desc := Tests.sd 0, run := 2 }
    s.strm.streams.filter (fun x => x.launder = 0) = [x] ∧ s.canFetch x = false ∧ s.stream? x = some x ∧ s.filling x = [] ∧ x.more = false ∧
    s.receivers x = [0] ∧ s.depthLeft 0 = true ∧ s.awake = true ∧ s.live = true ∧
    Tests.gives (exec (.rakeFetch 0) s) (fun t => (t.queue 0).q.map Handle.kind == [2] && t.strm.streams.all Stream.ended) = true ∧
    Tests.gives (exec (.rakeFetch 0) (Tests.stream (Tests.sd 0) {})) (fun t => t.strm.bufs.map (fun b => (b.id, b.len, b.runs)) == [(1, 1, [(0, 4096)])] &&
      t.strm.reqs.map (fun q => (q.addr, q.len)) == pieces 0 4096 4096) = true := by decide +kernel
/-- A stream that waits for an even epoch at 0x600, with a buffer of so many tries. -/
def Tests.epoch (tries e : Nat) : State :=
  let s := Tests.stream (Tests.sd (2 ^ 141 + 0x600 * 2 ^ 192)) {}
  (s.setStrm { s.strm with bufs := [{ id := 1, len := 1, runs := [(0, 16)], waitEpoch := true, tries := tries }], bufCount := 1 }).wrN 0x600 8 e
theorem test_FetchesFillBuffers_epoch : let s := Tests.epoch 7 2
    s.live = true ∧ (s.strm.bufs.find? (fun b => b.launder = 0 && b.waitEpoch && !b.pushed)).isSome = true ∧
    (s.strm.streams.find? (fun x => x.is 0 0 0 0)).isSome = true ∧ s.stock.copies = [] ∧
    (s.buf? 1).isSome = true ∧ 7 < s.obj (okey 0x2190 1) ∧ s.rdN 0x600 8 % 2 = 0 ∧
    s.strm.streams.all (fun x => sdEpoch x.desc && decide (sdEpaddr x.desc = 0x600)) = true ∧ (Tests.epoch 7 1).rdN 0x600 8 % 2 = 1 ∧
    (Tests.epoch 8 1).obj (okey 0x2190 1) ≤ 8 ∧ ((Tests.epoch 8 1).fn 1).state = .running := by decide +kernel
/-- A read of buffer 1 in flight under tag 255 of hub 0. -/
def Tests.inFlight (again : Bool) : State :=
  let s := Tests.stream (Tests.sd 0) {}
  s.setStrm { s.strm with bufs := [{ id := 1, len := 1 }], bufCount := 1, tags := [{ no := 255, req := { addr := 0, len := 16, buf := 1, again := again } }] }
theorem test_FetchesFillBuffers_response : let s := Tests.inFlight false
    (s.tag? 0 255 false).isSome = true ∧ (s.buf? 1).isSome = true ∧ s.injected 2 0 = false ∧
    ((Tests.inFlight true).tag? 0 255 false).any (fun k => k.req.again) = true ∧
    s.strm.streams.all (fun x => !(sdEpoch x.desc)) = true := by decide +kernel
/-- A write waits at hub 63, and one is in flight under tag 0. -/
def Tests.port : State :=
  Tests.up.setStrm { reqs := [{ hub := 63, write := true, addr := 0x2000, len := 2, data := [1, 2] }],
                     tags := [{ no := 0, req := { hub := 63, write := true, addr := 0x3000, len := 1, data := [3] } }] }
/-- The same with a write of hub 62 too, whose turn is before. -/
def Tests.port2 : State :=
  Tests.port.setStrm { Tests.port.strm with reqs := { hub := 62, write := true, addr := 0x2000, len := 1, data := [1] } :: Tests.port.strm.reqs }
theorem test_PortsGrantByRank_met : (Tests.port.pick 63 true).isSome = true ∧ Tests.port.freeTag 63 true = some 1 ∧ Tests.port.pick 63 false = none ∧
    Tests.port.hubTurn 63 true = true ∧ Tests.port2.hubTurn 63 true = false ∧ (Tests.port.tag? 63 0 true).any (fun k => !(k.req.who == .dma) && !(Tests.port.behind k)) = true := by
  decide +kernel
theorem test_PortsGrantByRank_behind : let q : Req := { Tests.dmaReq with addr := 0x3000 }
    let s := Tests.up.setStrm { tags := [{ no := 0, req := q }, { no := 1, req := q }], invals := [{ half := 1, page := 0, tags := [tagKey 62 0] }] }
    (s.tag? 62 1 true).any (fun k => s.behind k) = true ∧ (s.tag? 62 0 true).any (fun k => !(s.behind k)) = true ∧
    Tests.gives (exec (.writeAcknowledged 62 0) s) (fun t => t.strm.invals.isEmpty && t.out.contains (.invalidated 1 0)) = true := by decide +kernel
/-- A read of buffer 1 and a write that wait for page 1 of the east half. -/
def Tests.missing : State :=
  Tests.up.setStrm { bufs := [{ id := 1, len := 1 }], bufCount := 1, streams := [{}], misses := [(1, 1)], reqs :=
      [{ hub := 63, addr := 0x10000, len := 1, buf := 1, xheld := true }, { hub := 63, write := true, addr := 0x10000, len := 1, xheld := true }] }
theorem test_TranslationsAndInvalidations_met : Tests.missing.strm.misses.any (fun m => m.1 = 1 && m.2 = 1) = true ∧
    Tests.missing.strm.reqs.all (fun q => q.half = 1 && q.xheld && q.pages.contains 1) = true ∧
    (Tests.missing.buf? 1).any (fun b => !b.hop && Tests.missing.strm.streams.any (fun x => x.is b.launder b.ring b.slot b.role)) = true ∧
    (Tests.missing.nextWrite 63 .output).any (fun q => !q.told && q.pages.contains 1) = true ∧
    Tests.missing.strm.misses.any (fun m => m.1 = 0 && m.2 = 1) = false ∧
    Tests.gives (exec (.translationResponse 1 1 .absent) Tests.missing) (fun t => t.strm.bufs.any (fun b => b.fault.isSome) &&
      t.strm.streams.all Stream.stopped && (FMap.get none t.strm.faultRecs 255).isSome && t.strm.reqs.all Req.write) = true := by decide +kernel
theorem test_TranslationsAndInvalidations_invalid : let s := Tests.flies (Tests.tlb (Tests.put (Tests.sess 1) [])) 0x100
    s.strm.tags.any (fun t => t.req.half = 1 && t.req.pages.any (fun p => s.strm.tlb.any (fun e => e.covers 1 0 && e.covers 1 p))) = true ∧
    Tests.gives (exec (.pageInvalidation 1 0) s) (fun t => t.strm.invals == [{ half := 1, page := 0, tags := [tagKey 62 0] }] && (t.tlbHit 1 0).isNone) = true ∧
    Tests.gives (exec (.pageInvalidation 1 0) (Tests.tlb State.reset)) (fun t => t.out.head? == some (.invalidated 1 0)) = true := by decide +kernel
/-- Launder 255 with one handle of a kind, and one held, for a buffer of a role; its stream is that of launder 252, Held or not. -/
def Tests.handles (kind role : Nat) (held : Bool) : State :=
  let h : Handle := { kind := kind, seq := 0, len := 1, base := 0, buf := 1 }
  let b : Buf := { id := 1, launder := 255, len := 1, role := role, pushed := true, fault := some 0x10000, runs := [(0x3000, 300)] }
  let x : Stream := { launder := 252, gated := true, held := held, desc := 4 * 2 ^ 138 }
  (Tests.one (Tests.sess 1) { phase := .admitted }).setStrm { queues := [(255, { q := [h], held := [h] })], bufs := [b], bufCount := 1, streams := [x] }
theorem test_HandlesGatesAndStreams_queue : let s := Tests.handles 0 0 false
    s.cfg.snap.state ≠ 2 ∧ ((s.queue 255).q.head?.any (fun h => h.kind = 0)) = true ∧ (s.buf? 1).any (fun b => b.stale = [] && b.pushed && b.ring ≠ dmaRing && b.role ≠ 3) = true ∧
    ((Tests.handles 0 3 false).buf? 1).any (fun b => b.role = 3 && !b.bad) = true ∧
    ((Tests.handles 2 0 false).queue 255).q.head?.any (fun h => h.kind = 2) = true ∧ ((Tests.handles 1 0 false).queue 255).q.head?.any (fun h => h.kind = 1) = true ∧
    (s.strm.streams.find? (fun x => x.ring = 0 && x.slot = 0 && x.role = 0 && s.reaches x (255 / 4))).any (fun x => !x.held) = true ∧ (s.order? 0 0).isSome = true ∧
    (s.queue 0).q = [] ∧ (s.queue 255).held ≠ [] ∧
    (s.strm.streams.find? (fun x => x.launder / 4 = 255 / 4 && x.gated && sdGate x.desc = 255 % 4 + 1)).isSome = true := by decide +kernel
theorem test_HandlesGatesAndStreams_pops : Tests.gives (exec (.handlePop 255 false) (Tests.handles 0 0 false)) (fun t => (t.queue 255).held.length = 2 && t.strm.reqs.isEmpty) = true ∧
    Tests.gives (exec (.handlePop 255 false) (Tests.handles 0 3 false)) (fun t => t.strm.reqs.map (fun q => (q.addr, q.len)) == pieces 0x3000 300 300) = true ∧
    Tests.gives (exec (.handlePop 255 true) (Tests.handles 0 3 false)) (fun t => t.strm.bufs.isEmpty && (t.queue 255).held.isEmpty) = true ∧
    Tests.gives (exec (.handlePop 255 false) (Tests.handles 1 0 false)) (fun t => t.strm.streams.all Stream.held && t.out.contains (.event 0x0110) &&
      (FMap.get none t.strm.faultRecs 252).any (fun f => f.faddr = 0x10000)) = true ∧
    Tests.gives (exec (.gatePop 255) (Tests.handles 2 0 false)) (fun t => t.strm.streams.all (fun x => !x.gated)) = true := by decide +kernel
/-- Streams on hub 0 that wait for credit: both reserve and pool are taken. -/
def Tests.noCredit : State :=
  (Tests.stream (Tests.sd 0) {}).setStrm { (Tests.stream (Tests.sd 0) {}).strm with bufs := [{ id := 1, launder := 1, len := 1536, pushed := true }], bufCount := 1 }
theorem test_HandlesGatesAndStreams_still : let s : State := { Tests.noCredit with timeUs := 10 ^ 9 }
    s.still 0 = true ∧ s.live = true ∧ (s.fn 1).state ≠ .off ∧ (s.fn 1).state ≠ .wedged ∧ s.obj (okey 0x2110 2) ≤ s.stillMs 0 ∧
    Tests.noCredit.still 63 = false := by decide +kernel
/-- A stream of launder 0 held, with its fault record. -/
def Tests.held : State := (Tests.one (Tests.sess 1) { phase := .admitted }).setStrm { streams := [{ held := true }], faultRecs := [(0, some { resume := 1 })] }
/-- A write of hub 0 of which software knows that it is Held. -/
def Tests.writeHeld : State := (Tests.sess 1).setStrm { reqs := [{ write := true, told := true, xheld := true }] }
theorem test_HandlesGatesAndStreams_resume : Tests.held.serves 1 1 ∧ (Tests.put (Tests.sess 1) [(1, .wedged)]).serves 1 1 ∧
    (Tests.put (Tests.sess 1) [(1, .wedged)]).isWedged 1 = true ∧ (Tests.sess 1).isHeld 0 = false ∧ Tests.held.isWedged 1 = false ∧
    (Tests.held.strm.streams.find? (fun x => x.launder = 0 && Tests.held.heldStream x)).isSome = true ∧ FMap.get none Tests.held.strm.faultRecs 0 ≠ none ∧
    Tests.held.cfg.snap.state ≠ 2 ∧ Tests.writeHeld.serves 1 1 ∧ Tests.writeHeld.isHeld 3 = true ∧ Tests.writeHeld.isWedged 1 = false ∧
    Tests.writeHeld.strm.streams = [] :=
  ⟨Tests.serves_of (by decide), Tests.serves_of (by decide), by decide, by decide, by decide, by decide, by decide, by decide,
   Tests.serves_of (by decide), by decide⟩

-- hypotheses met: pans
/-- A DX (T, I and O 16) of ring 0 whose tiled operands deliver zeros, on hub 0; pan 0 as given. -/
def Tests.dxRaw : Nat := Tests.wo 0x10 1 + 16 * 2 ^ 160 + 16 * 2 ^ 192 + 16 * 2 ^ 224 + 0x400 * 2 ^ 384 + 0x400 * 2 ^ 448 + 0x400 * 2 ^ 512
def Tests.dxAs (shape : Nat) : Order := { kind := .dx, raw := Tests.dxRaw + shape * 2 ^ 19, phase := .admitted }
def Tests.dxOrder : Order := Tests.dxAs 0
def Tests.onPanAs (shape : Nat) (x : Pan) : State :=
  ({ Tests.up.setOrders [Tests.dxAs shape] with pans := [(0, { x with job := some (0, 0), level := 16 })] } : State).wrN 0x400 128 (2 ^ 131)
def Tests.onPan (x : Pan) : State := Tests.onPanAs 0 x
/-- A running pan whose arrays have no ripple due and one load made, under tag 0. -/
def Tests.loaded (cells : FMap Cell) : Pan :=
  { state := .running, arrs := (List.range 4).map (fun a => (a, { rippleNext := false, loaded := 1, tag := 1, cells := if a = 0 then cells else [] })) }
theorem test_PansLoadAndCompute_load : let s := Tests.onPanAs 5 { state := .running }
    let y := (s.pan 0).arr 4
    s.panOrder 0 = some (Tests.dxAs 5) ∧ s.panOn (s.pan 0) = true ∧ s.ripples (s.pan 0) 4 = false ∧ y.cells.all (fun c => !c.2.full) = true ∧
    (s.loadOf (Tests.dxAs 5) ((Tests.dxAs 5).feeder 0) 4 y.next y.tag).isSome = true ∧
    Tests.gives (exec (.stationaryLoad 0 4) s) (fun t => ((t.pan 0).arr 4).loaded = 1 && (FMap.get ({} : Cell) ((t.pan 0).arr 4).cells 63).full) = true := by
  decide +kernel
theorem test_PansLoadAndCompute_ripple : let s := Tests.onPanAs 3 { state := .running }
    let x := s.pan 0
    (s.planAt (Tests.dxAs 3) 0 x.cur).any (fun p => (shapeArrays p.2.shape).filter (fun a => s.ripples x a) == [0]) = true ∧ 2 ≤ x.level ∧
    x.cur.beat = 0 ∧ x.quiet = true ∧ (x.arr 0).loaded = (x.arr 0).pass ∧ (x.arr 0).next = x.cur ∧
    (s.loadOf (Tests.dxAs 3) ((Tests.dxAs 3).feeder 0) 0 (x.arr 0).next (x.arr 0).tag).isSome = true ∧
    Tests.gives (exec (.rippleLoad 0) s) (fun t => !((t.pan 0).arr 0).rippleNext && ((t.pan 0).arr 0).loaded = 1) = true := by decide +kernel
/-- A beat with a tag, and a cell whose active register has tag 0. -/
def Tests.beat (tag : Nat) : Beat := { tag := tag, k := 0, m := 0, last := true, at_ := {} }
def Tests.cell1 (tag : Nat) : Cell := { act := { tag := 0, vals := [] }, slot := [Tests.beat tag] }
theorem test_PansLoadAndCompute_beat : let s := Tests.onPan (Tests.loaded [(255, Tests.cell1 0)])
    s.panOrder 0 = some Tests.dxOrder ∧ s.panOn (s.pan 0) = true ∧ (s.planAt Tests.dxOrder 0 {}).isSome = true ∧
    ((Tests.cell1 0).swap (Tests.beat 0)).isSome = true ∧ (Tests.cell1 1).swap (Tests.beat 1) = none ∧ (Tests.cell1 0).ended = false ∧
    Tests.gives (exec (.beat 0 0 255) s) (fun t => (FMap.get ({} : Cell) ((t.pan 0).arr 0).cells 255).ended) = true ∧
    Tests.gives (exec (.beat 0 0 255) (Tests.onPan (Tests.loaded [(255, Tests.cell1 1)]))) (fun t => (t.pan 0).state == .stopped && (t.pan 0).stopCause = 2) = true := by
  decide +kernel
/-- A thin-path pan that has made its first load. -/
def Tests.thin : State := Tests.onPanAs 5 { state := .running, arrs := [(4, { loaded := 1, tag := 1 })] }
theorem test_PansLoadAndCompute_issue :
    (Tests.thin.issueBeat (Tests.dxAs 5) 0 4 63).any (fun y => y.cur.beat = 1 && (FMap.get ({} : Cell) (y.arr 4).cells 63).slot.map (fun b => (b.tag, b.k)) == [(0, 0)]) = true := by
  decide +kernel
theorem test_PansLoadAndCompute_place : (Tests.thin.planAt (Tests.dxAs 5) 0 (Tests.thin.pan 0).cur).any (fun p => decide (63 < shapeCells p.2.shape)) = true ∧
    (Tests.thin.pan 0).cur.beat < 16 ∧ ((Tests.thin.pan 0).arr 4).lag = [] ∧ Tests.thin.panOrder 0 = some (Tests.dxAs 5) ∧
    (FMap.get ({} : Cell) ((Tests.thin.pan 0).arr 4).cells 63).slot = [] := by decide +kernel
theorem test_PansLoadAndCompute_none : (Tests.onPanAs 5 { state := .running }).beatFor (Tests.dxAs 5) 0 4 63 = none ∧
    (Tests.onPanAs 5 { state := .running }).heldFor 0 ((Tests.onPanAs 5 { state := .running }).pan 0) = false := by decide +kernel
/-- The cells of row 0, of which the first n have ended their chunk. -/
def Tests.endedRow (n : Nat) : FMap Cell := (List.range n).map (fun k => (k, { ended := true }))
theorem test_ChunksAreHandedOff_met : let s := Tests.onPan (Tests.loaded (Tests.endedRow 16))
    s.panOrder 0 = some Tests.dxOrder ∧ s.panOn (s.pan 0) = true ∧ s.live = true ∧
    (s.planAt Tests.dxOrder 0 (((s.pan 0).arr 0).rowHead 0).at_).any (fun p => rowCells p.2.shape = 16 && !p.2.toWindrow &&
      !(s.rowWaits Tests.dxOrder p.2 p.1 (rowKey 0 0 0) {})) = true ∧
    (List.range 16).all (fun k => (FMap.get ({} : Cell) ((s.pan 0).arr 0).cells k).ended) = true ∧
    (FMap.get ({} : Cell) (Tests.endedRow 15) 15).ended = false ∧
    Tests.gives (exec (.chunkHandoff 0 0 0) s) (fun t => ((t.pan 0).arr 0).cells.isEmpty) = true := by decide +kernel
/-- A DW (one chunk, I and O 1) of ring 0 into region 0, whose one group is resident at hub 0; so many promotions wait. -/
def Tests.dwOrder : Order :=
  { kind := .dw, raw := Tests.wo 0x11 1 + 16 * 2 ^ 160 + 1 * 2 ^ 192 + 1 * 2 ^ 224 + 0x400 * 2 ^ 384 + 0x400 * 2 ^ 448 + 0x400 * 2 ^ 512, phase := .admitted }
def Tests.promoted (n : Nat) : State :=
  let s : State := { Tests.up.setOrders [Tests.dwOrder] with
    win := { frames := [(0, {})], promos := (List.replicate n { ring := 0, slot := 0, event := 0, group := 0, elem := 0, ord := 0, v := .fin false 1 0 }) } }
  ((s.setObj (okey 0x2C20 1) 0x800).wrN 0x400 128 (2 ^ 131)).wrN 0x800 64 (2 ^ 192 + 2 ^ 212 + 2 ^ 243)
/-- The DW on a pan of hub 0 whose row 0 has ended, while an earlier chunk of it waits for its turn. -/
def Tests.dwPan : State :=
  let s := Tests.promoted 0
  { s with
    pans := [(0, { Tests.loaded (Tests.endedRow 16) with job := some (0, 0), level := 16 })]
    win := { promos := [{ ring := 0, slot := 0, event := 5, group := 0, elem := 0, ord := 0, v := .fin false 1 0, src := rowKey 0 0 0, part := 0 }] } }
/-- The drain unit still holds a chunk of row 0, for an event whose turn has not come. -/
theorem test_ChunksAreHandedOff_waits : let s := Tests.dwPan
    s.panOrder 0 = some Tests.dwOrder ∧ s.panOn (s.pan 0) = true ∧
    (s.planAt Tests.dwOrder 0 (((s.pan 0).arr 0).rowHead 0).at_).any (fun p => p.2.toWindrow && s.rowWaits Tests.dwOrder p.2 p.1 (rowKey 0 0 0) {}) = true ∧
    Tests.gives (exec (.chunkHandoff 0 0 0) s) (fun t => t.pans = s.pans) = true := by decide +kernel
theorem test_PromotionsReachTheGroup_met : let s := Tests.promoted 1
    s.order? 0 0 = some Tests.dwOrder ∧ Tests.dwOrder.live = true ∧ s.cfg.snap.state ≠ 2 ∧
    (s.target? Tests.dwOrder.raw).any (fun t => t.region = 0 && (match s.dwPlan? Tests.dwOrder with
      | some p => decide (s.groupFormed Tests.dwOrder p t 0 = [(0, 0)]) && decide (p.events (slabs .dw Tests.dwOrder.raw) 0 = [0]) &&
          decide (panAt (woMask Tests.dwOrder.raw) (p.setOf 0 0 * p.z % pansOf (woMask Tests.dwOrder.raw)) / 64 = 0)
      | none => false)) = true ∧
    (s.promosOf 0 0 0 0).length = 1 ∧ ((Tests.promoted 0).promosOf 0 0 0 0).length ≠ 1 ∧ s.frame? 0 = some {} ∧
    rgFbit (s.regionDesc 0) = false ∧ s.obj (okey 0x2C90 1) ≠ 1 ∧ (s.fn 12).state ≠ .faulted ∧
    ((s.promosOf 0 0 0 0).map Promo.elem).Nodup ∧ (∀ x ∈ s.promosOf 0 0 0 0, x.v.isNan = false) ∧ s.turnWaits Tests.dwOrder 0 = false := by decide +kernel
/-- The same, with an earlier DW of the ring that still owes the group its event. -/
def Tests.behind : State := (Tests.promoted 1).setOrders [{ Tests.dwOrder with slot := 1, seq := 0 }, { Tests.dwOrder with seq := 1 }]
theorem test_PromotionsReachTheGroup_waits : (Tests.behind.order? 0 0).any (fun q => Tests.behind.turnWaits q 0) = true ∧
    Tests.gives (exec (.promotionEvent 0 0 0) Tests.behind) (fun t => t.win = Tests.behind.win) = true ∧
    Tests.gives (exec (.promotionEvent 0 0 0) (Tests.promoted 1)) (fun t => t.win.promos.isEmpty && (t.frame? 0).any (fun f => gwCount f.gw = 1)) = true := by
  decide +kernel
theorem test_StopsAndCrusts_request : ({ crust0 := { hdr := 1 } } : Pan).crusts = 1 ∧ ({ crust0 := { hdr := 1 }, crust1 := { hdr := 1 } } : Pan).crusts = 2 ∧
    ({} : Pan).crusts = 0 := by decide
/-- A Stopping pan at its boundary; with `far` it has no part left. -/
def Tests.stopping (far : Bool) : State := Tests.onPan { state := .stopping, stopCause := 4, cur := { part := if far then 1000 else 0 } }
theorem test_StopsAndCrusts_save : let s := Tests.stopping false
    (s.pan 0).job = some (0, 0) ∧ s.order? 0 0 = some Tests.dxOrder ∧ (s.pan 0).cur.atBoundary = true ∧ (s.pan 0).crusts < 2 ∧
    (s.planAt Tests.dxOrder 0 (s.pan 0).cur).isSome = true ∧ s.atRest Tests.dxOrder 0 = true ∧
    (Tests.stopping true).planAt Tests.dxOrder 0 ((Tests.stopping true).pan 0).cur = none ∧ s.causeOver (s.pan 0) = false := by decide +kernel
theorem test_StopsAndCrusts_rest : let s := Tests.onPan { (Tests.loaded [(0, Tests.cell1 0)]) with state := .stopping, stopCause := 2 }
    (s.planAt Tests.dxOrder 0 (s.pan 0).cur).isSome = true ∧ s.atRest Tests.dxOrder 0 = false ∧ (s.pan 0).cur.atBoundary = true ∧
    (Tests.stopping false).anyWedged = false ∧ ((Tests.stopping false).hub 0).autonomous = false ∧
    (Tests.onPan { state := .stopping, stopCause := 2 }).causeOver ((Tests.onPan { state := .stopping, stopCause := 2 }).pan 0) = true := by decide +kernel
/-- A pan that runs a NORM, stopped or resuming. -/
def Tests.boilPan (x : Pan) : State := { Tests.one Tests.up { kind := .boil 1, phase := .admitted } with pans := [(0, { x with job := some (0, 0), level := 16 })] }
theorem test_StopsAndCrusts_boil : let s := Tests.boilPan { state := .stopping, stopCause := 4 }
    let t := Tests.boilPan { state := .resuming }
    (s.order? 0 0).any (fun o => !(o.kind.isProduct || o.kind == .boil 0)) = true ∧ s.causeOver (s.pan 0) = false ∧ (s.pan 0).cur.atBoundary = true ∧
    (t.order? 0 0).any (fun o => o.phase == .admitted) = true ∧ t.running 8 = true ∧
    Tests.gives (exec (.crustSave 0) s) (fun u => (u.pan 0).state == .stopped) = true ∧
    Tests.gives (exec (.crustResume 0 false) t) (fun u => (u.pan 0).state == .running) = true ∧
    (Tests.onPan { state := .resuming }).panOrder 0 = some Tests.dxOrder ∧ ((Tests.onPan { state := .resuming }).pan 0).newest = none := by decide +kernel
/-- A crust that no chunk preceded, of ring 0, slot 0, or of slot 1. -/
def Tests.crust (slot : Nat) : Crust := { hdr := 1 + slot * 2 ^ 36 + (2 ^ 32 - 1) * 2 ^ 64 }
def Tests.resuming (c : Crust) : State := Tests.onPan { state := .resuming, crust0 := c }
theorem test_StopsAndCrusts_resume : let s := Tests.resuming (Tests.crust 0)
    (s.pan 0).state = .resuming ∧ s.running 8 = true ∧ 2 ≤ (s.pan 0).level ∧ (s.pan 0).newest = some (Tests.crust 0) ∧
    s.crustOk Tests.dxOrder 0 (Tests.crust 0) = true ∧ (s.restore Tests.dxOrder 0 (Tests.crust 0)).isSome = true ∧
    (Tests.resuming (Tests.crust 1)).crustOk Tests.dxOrder 0 (Tests.crust 1) = false ∧ (Tests.crust 0).bad = false := by decide +kernel
theorem test_ParksRepairOrFail_met : let s := Tests.onPan (Tests.loaded [])
    (s.pan 0).job = some (0, 0) ∧ (s.pan 0).cur.atBoundary = true ∧ (s.pan 0).slotsEmpty = true ∧ (s.pan 0).newest = none ∧
    (let t := Tests.onPan { Tests.loaded [] with cur := { beat := 3 }, crust0 := { hdr := 1 }, crust1 := { hdr := 1 } }
     (t.pan 0).cur.atBoundary = false ∧ (t.pan 0).crusts = 2) ∧
    ((Tests.resuming (Tests.crust 0)).pan 0).newest ≠ none := by decide +kernel

-- hypotheses met: Stockpile and attention
/-- The header of an arrival for entry 1: 16 tokens of width 16, E4M3; and one of no token. -/
def Tests.arHdr (tokens : Nat) : List Byte := leBytes 64 (2 ^ 8 + tokens * 2 ^ 96 + 16 * 2 ^ 128)
def Tests.near (s : State) : State := s.setObj (okey 0x2410 2) 0x10000
theorem test_StockpileTakesArrivals_met : let s := Tests.near Tests.up
    s.running 4 = true ∧ s.arrivalBad (leNat (Tests.arHdr 0)) = true ∧ s.arrivalBad (leNat (Tests.arHdr 16)) = false ∧ s.live = true ∧
    s.stock.arriving = none ∧ s.stock.waiting = [] ∧ s.stock.backed = false ∧ s.isComing 1 = false ∧ arEntry (leNat (Tests.arHdr 16)) = 1 ∧ enState (s.entryRec 1) = enFree ∧
    s.allocFit 0 (arSize (leNat (Tests.arHdr 16))) = some 0 ∧ s.obj (okey 0x2410 8) = 0 := by decide +kernel
/-- An arrival is being written into entry 1; entry 2 is Spilling. -/
def Tests.arriving : State :=
  (Tests.near Tests.up).setStock { ents := [(1, enSetState (2 ^ 160) 1), (2, enSetState (2 ^ 160) 3)], arriving := some { hdr := leNat (Tests.arHdr 16), entry := 1 } }
theorem test_StockpileTakesArrivals_written : Tests.arriving.stock.arriving ≠ none ∧ Tests.arriving.stock.waiting = [] ∧
    Tests.arriving.obj (okey 0x2410 8) = 0 ∧ enState (Tests.arriving.entryRec 2) = enSpilling ∧ Memory.wf Tests.arriving.mem = true ∧
    Tests.arriving.stock.releasing.contains 2 = false ∧ (∀ o ∈ Tests.arriving.seq.orders, woEntin o.raw ≠ 2) ∧ State.reset.running 4 = false ∧ enState (Tests.arriving.entryRec 1) ≠ enSpilling := by decide +kernel
/-- An attention work order (1,024 query rows, one head of width 16, ring size n) on hub 0, with a revolution. -/
def Tests.attRaw (op n : Nat) : Nat :=
  op + 2 ^ 64 + 1024 * 2 ^ 160 + 16 * 2 ^ 183 + 2 ^ 377 + 0x2000 * 2 ^ 384 + (n - 1) * 2 ^ (8 * 64 + 52)
def Tests.att (k : Kind) (op : Nat) (v : Rev) : State :=
  ({ Tests.runs k (Tests.attRaw op v.size) with att := { rev := some v } })
def Tests.atts (v : Rev) : State := Tests.att (.boil 9) (0x20 + 9 * 2 ^ 11) v
def Tests.attb (v : Rev) : State := Tests.att .attb 0x30 v
theorem test_AttentionProcessesBlocks_met : let v : Rev := { blocks := [{}] }
    let s := Tests.atts v
    s.attOrder?.any (fun o => o.kind == .boil 9 && o.is 0 0 && s.pansUp o && attB o.raw = 1) = true ∧ s.cfg.snap.state ≠ 2 ∧ s.att.rev = some v ∧
    s.panUp { kind := .boil 9, slot := 0 } 0 = true ∧ attQbs (Tests.attRaw (0x20 + 9 * 2 ^ 11) 1) = 16 ∧ v.returned = [] ∧
    v.block? v.round 0 = some {} ∧ (v.inRound.filter (fun x => x.processed)).length = 0 ∧ v.drained = false ∧
    ({ v with blocks := [{ processed := true }] } : Rev).inRound.all (fun b => b.processed) = true ∧ v.round + 1 = v.size ∧
    (Tests.attb v).attOrder?.any (fun o => o.isB && (Tests.attb v).pansUp o) = true := by decide +kernel
theorem test_AttentionProcessesBlocks_kinds : let s := Tests.att (.boil 10) (0x20 + 10 * 2 ^ 11) { blocks := [{}] }
    s.attOrder?.any (fun o => o.kind == .boil 10 && o.is 0 0 && s.pansUp o) = true := by decide +kernel
/-- Two packages: this one holds its block 0, and has granted credit for slot 1. -/
def Tests.rev2 : Rev := { size := 2, blocks := [{ processed := true }], granted := [1, 2] }
/-- The header of the block that it expects in round 1, and of a rider that returns. -/
def Tests.blkHdr : List Byte := leBytes 64 (2 ^ 8 + 2 ^ 32 + 2 ^ 48)
def Tests.riderHdr : List Byte := leBytes 64 (2 + 2 * 2 ^ 32 + 2 ^ 48)
theorem test_BlocksGoRoundTheRing_met : let v := Tests.rev2
    let s := Tests.attb v
    s.attOrder?.any (fun o =>
      let h := leNat Tests.blkHdr
      let r := leNat Tests.riderHdr
      v.block? v.round 0 = some { processed := true } && decide (v.round + 1 ≠ v.size) && o.isB &&
      !(headerBad o v h 1 (hbHop h) (roundOwner v.size v.pos (hbHop h))) == false &&
      !(headerBad o v (h + 1) 1 (hbHop h) (roundOwner v.size v.pos (hbHop h))) && v.granted.contains (hbHop h) && (v.block? (hbHop h) (hbBlock h)).isNone &&
      !(headerBad o v r 2 v.size v.pos) && v.granted.contains v.size && decide (v.sendRound < v.size) && decide (v.returned.length + v.written < attB o.raw) &&
      !(v.waits o) && ({ v with round := 1, blocks := [] } : Rev).waits o) = true ∧ s.cfg.snap.state ≠ 2 := by decide +kernel
/-- Pages: 256 tokens of one head of width 16; entry 0 VALID (keys at 0, values at 0x1000), generation as given. -/
def Tests.pages (gen entry : Nat) : State :=
  ((Tests.atts {}).wrN 0x2000 8 gen).wrN 0x2040 16 entry
theorem test_WalksFetchBlocks_met : let w := Tests.attRaw (0x20 + 9 * 2 ^ 11) 1
    let s := Tests.pages 2 (2 ^ 63)
    let t : State := Tests.tlb (s.wrN 0x2008 8 (1 + 16 * 2 ^ 32))
    s.attOrder?.any (fun o => o.is 0 0 && o.raw = w) = true ∧ woPtbase w = 0x2000 ∧ s.att.odd = false ∧ s.att.tries < s.obj (okey 0x2590 4) ∧
    s.rdN (woPtbase w) 8 % 2 = 0 ∧ (Tests.pages 1 0).rdN (woPtbase w) 8 % 2 = 1 ∧ s.att.wlb = [] ∧
    ({ s with att := { s.att with odd := true, tries := 15 } } : State).obj (okey 0x2590 4) ≤ 15 + 1 ∧ t.att = s.att := by decide +kernel

-- hypotheses met: Weir, Causeway, frames
/-- Samples of the west half that change by more than 20 A, and by 20 A. -/
theorem test_RailsThrottleAndStop_met : Tests.up.awake = true ∧ 20000 < slewOf [20001, 0] ∧ slewOf [0] ≤ 20000 ∧ slewOf [20000, 0] ≤ 20000 ∧
    (Tests.up.fn 8).state = .running ∧ Tests.up.weir.episode = false ∧ Tests.up.weir.emergency = false ∧
    (List.range 64).any Tests.up.emgHub = false ∧ Tests.up.obj (okey 0x2880 3) = 0 ∧ Tests.up.weir.overCurrent = false ∧ Tests.up.anyTrigger = false ∧
    ({ Tests.up with weir := { railAlert := true } } : State).anyTrigger = true ∧
    (∃ h, h < 64 ∧ 2 ≤ ((Tests.up.setHub 63 { step := 2 }).hub h).step) ∧ (∀ e ∈ (Tests.up.setHub 63 { step := 1 }).hubs, e.1 < 64) ∧
    ({ Tests.up with weir := { emergency := true } } : State).weir.emergency = true := by
  refine ⟨by decide, by decide, by decide, by decide, by decide, by decide, by decide, by decide, by decide, by decide, by decide, by decide,
    ⟨63, by decide, by decide⟩, by decide, by decide⟩
/-- Pan 0 (west) and pan 2048 (east) below their demand, with a budget. -/
def Tests.grant (b : Int) : State := { Tests.up with pans := [(0, { state := .running, job := some (0, 0), demand := 16 })], weir := { budget0 := b } }
theorem test_ClocksLevelsAndHubs_grant : (Tests.grant 0).nextRaise 0 ≠ none ∧ (Tests.grant 0).nextRaise 1 = none ∧ (Tests.grant 0).nextLower 1 = none ∧
    (Tests.grant 0).awake = true ∧ ((Tests.grant 0).budget 0 + ((Tests.grant 0).twiceRate * 65536 * 0 / 2000 : Nat) < levelUnits) ∧
    ((levelUnits : Int) ≤ (Tests.grant levelUnits).budget 0 + ((Tests.grant levelUnits).twiceRate * 65536 * 0 / 2000 : Nat)) := by decide +kernel
theorem test_ClocksLevelsAndHubs_hubs : (Tests.up.hub 63).autonomous = false ∧ (Tests.up.hub 63).beatAt = 0 ∧ (Tests.up.fn 8).state = .running ∧
    ((Tests.up.setHub 0 { beatAt := 1 }).hub 0).beatAt + 8 ≤ ({ Tests.up with timeUs := 8 } : State).timeUs + 1 ∧
    ((Tests.up.setHub 0 { autonomous := true }).hub 0).autonomous = true ∧
    (∀ e ∈ (Tests.up.setHub 0 { autonomous := true }).pans, e.1 / 64 = 0 → e.2.state ≠ .stopping) := by decide +kernel
/-- Words of a flit with a header, its parity words made. -/
def Tests.flit (h : Nat) : List (BitVec 32) :=
  let l := [BitVec.ofNat 32 h, BitVec.ofNat 32 (h / 2 ^ 32)] ++ List.replicate 60 0
  let ones (x : BitVec 32) : Nat := ((List.range 32).filter (fun i => x.getLsbD i)).length
  let w62 : Nat := ((List.range 2).map (fun k => ones (l.getD k 0) % 2 * 2 ^ k)).sum
  let p62 : Nat := ones (BitVec.ofNat 32 w62) % 2
  l ++ [BitVec.ofNat 32 w62, BitVec.ofNat 32 (p62 * (2 ^ 30 + 2 ^ 31))]
theorem test_CausewayFlitsAndLinks_flit : flParityOk (Tests.flit 0) = true ∧ flReserved (flHeader (Tests.flit 0)) = false ∧
    flSeq (flHeader (Tests.flit 0)) = (((Tests.up.mod 15).dir true).last + 1) % 4096 ∧ Tests.up.linkUp 15 = true ∧ flType (flHeader (Tests.flit 0)) ≠ 3 ∧
    flParityOk (Tests.flit (2 ^ 35 + 1)) = true ∧ flAckv (flHeader (Tests.flit (2 ^ 35))) = true ∧
    flParityOk (List.replicate 64 1) = false ∧ flSeq (flHeader (Tests.flit (2 ^ 52))) ≠ 0 := by decide +kernel
/-- Function 9 Starting, its modules in training after n attempts. -/
def Tests.training (n : Nat) : State := (Tests.put (Tests.sess 1) [(9, .starting)]).setMods (fun _ _ => { state := 0, attempts := n })
theorem test_CausewayFlitsAndLinks_training : ((Tests.training 2).fn 9).state = .starting ∧ (Tests.training 2).awake = true ∧ (Tests.training 2).cfg.snap.state ≠ 2 ∧
    ((Tests.training 2).mod 0).attempts < (Tests.training 2).ctl.trainLimit ∧ (Tests.training 3).ctl.trainLimit ≤ ((Tests.training 3).mod 0).attempts ∧
    (Tests.training 2).linkUp 0 = false := by decide +kernel
/-- Module 0 with a flit not acknowledged, replayed n times. -/
def Tests.replayed (n : Nat) : State :=
  { Tests.up with link := { mods := [(0, { toEast := { next := 1, unacked := [(0, [])], replays := n } })] } }
theorem test_CausewayFlitsAndLinks_replay : (Tests.replayed 2).linkUp 0 = true ∧ ((Tests.replayed 2).mod 0 |>.dir true).unacked ≠ [] ∧
    ((Tests.replayed 2).mod 0 |>.dir true).replays ≠ 3 ∧ ((Tests.replayed 3).mod 0 |>.dir true).replays = 3 ∧ ((Tests.replayed 3).fn 9).state ≠ .off ∧
    ((Tests.replayed 2).mod 0 |>.dir false).unacked = [] := by decide +kernel
theorem test_CausewayFlitsAndLinks_links : (Tests.up.setLink (linkNo .controlNode) 3).linkFails (linkNo .controlNode) = 3 ∧
    (Tests.up.setLink 0 4).linkFails 0 = 4 ∧ Tests.up.linkFails 0 < 3 := by decide +kernel
theorem test_CommandsLeaveMemoryOrFunctions_met : storesNothing .heartbeat = true ∧ Tests.gives (exec .heartbeat State.reset) (fun _ => true) = true ∧
    leavesFunctions .admission = true ∧ Tests.gives (exec .admission State.reset) (fun _ => true) = true := by decide +kernel

/-- A plan of two E4M3 operands. -/
def Tests.e4m3 : Plan := (Tests.onPan {}).dxPlan Tests.dxOrder 0
theorem test_BrineSumsAreExact_met : (pairWeight Tests.e4m3.st.fmt Tests.e4m3.mv.fmt).isSome = true ∧ Tests.e4m3.win = false ∧
    pairWeight Tests.e4m3.st.fmt Tests.e4m3.mv.fmt = some (some Tests.e4m3.w) ∧ (List.replicate 4096 (0x7E, 0x3C)).length ≤ 4096 ∧
    (elemVal Tests.e4m3.st.fmt 0x3C).finite = true ∧ (elemVal Tests.e4m3.mv.fmt 0x3C).finite = true := by decide +kernel
/-- An entry of KIND 1 not acknowledged. -/
def Tests.logged : State := { Tests.sess 1 with flt := { log := [{ code := 0x0110, kind := 1 }] } }
theorem test_ErrorInterruptAndItsAcknowledgement_met : Tests.logged.serves 1 1 ∧ Tests.logged.cfg.snap.state ≠ 2 ∧
    (∃ e ∈ Tests.logged.flt.log, (e.kind = 1 ∨ e.kind = 2) ∧ e.acked = false) ∧
    Tests.gives (exec (.acknowledge 1 1) Tests.logged) (fun _ => true) = true :=
  ⟨Tests.serves_of (by decide), by decide, by decide, by decide +kernel⟩

-- examples and tables of the spec
/-- 1 + 2^-8 and its negative lie halfway between two BF16 values (R40, example). -/
theorem test_halfway_rounds_away : Fmt.bf16.rn (.fin false 257 (-8)) = 0x3F81 ∧ Fmt.bf16.rn (.fin true 257 (-8)) = 0xBF81 := by
  decide +kernel
/-- The two chunks of the example of chapter 02, "Large cancellations": plain and in bittern mode. -/
theorem test_large_cancellation :
    let a := Val.fin false (2 ^ 55 + 1) (-25)
    let b := Val.fin true (2 ^ 55 - 1) (-25)
    dec64 (promote64 (promote64 0 a) b) = dec64 0x3E60000000000000 ∧
    promoteBittern 0 0 a = (0x41D0000000000000, 0x3E60000000000000) ∧
    promoteBittern 0x41D0000000000000 0x3E60000000000000 b = (0x3E70000000000000, 0) := by decide +kernel
/-- Element (37, 150) of an 8-bit matrix of 200 columns (R65, example). -/
theorem test_tile_offset : tileOff 200 1 37 150 = 9046 := by decide
/-- The last two rows of the example of R189: -1.5 is a tie, 140 is clipped. -/
theorem test_class_i_int8 : (qInt8 0 0xBFC00000).q = 0xFE ∧ (qInt8 0 0x430C0000).q = 127 ∧ (qInt8 0 0x430C0000).clipped = true := by
  decide +kernel
/-- The learning-rate curve of chapter 08: 0 at 0, 1 at 1,000 (scaled by 2,500), held after the last point. -/
theorem test_curve : curveAt 500 [(0, 0), (1000, 0x3F800000)] = 0x3F000000 ∧
    curveAt 5000 [(0, 0), (1000, 0x3F800000)] = 0x3F800000 := by decide +kernel
/-- 2D10/00 reads 6, and 2D10/07 does not exist (R304, example). -/
theorem test_subindex_zero : let s := Tests.sess 1
    Tests.gives (exec (.usdoRequest 1 16 (.upload 0x2D10 0)) s) (fun t => t.out.any (fun o => o == .answer 1 (.data [6]))) = true ∧
    Tests.gives (exec (.usdoRequest 1 16 (.upload 0x2D10 7)) s) (fun t => t.out.any (fun o => o == .answer 1 (.abort 0x06090011))) = true := by
  decide +kernel
/-- The Harrow of the example of R325, an UPDATE admitted: Disable, a pending Enable, a refused Shut down, the stop's end. -/
theorem test_control_example : let running := (Tests.up).setOrders [{ kind := .update, raw := Tests.wo 0x50 1, phase := .admitted }]
    Tests.gives (exec (.disable 1 7) running) (fun t => t.stateWord 7 = 0x404) = true ∧
    Tests.gives (exec (.enable 1 7) (Tests.put Tests.up [(3, .running)] |>.setFn 7 { state := .stopping, target := .ready })) (fun t => t.stateWord 7 = 0x2404) = true ∧
    Tests.gives (exec (.shutDown 1 7) (Tests.up.setFn 7 { state := .stopping, target := .ready, pend := 2 })) (fun t =>
      t.stateWord 7 = 0x2404 && t.out.any (fun o => o == .answer 1 (.abort 0x0F000003))) = true ∧
    Tests.gives (exec (.stopComplete 7) (Tests.up.setFn 7 { state := .stopping, target := .ready, pend := 2 })) (fun t =>
      t.stateWord 7 = 0x603) = true := by decide +kernel
/-- The CRC-32C of the nine digits "123456789" is 0xE3069283 (R3, R343; the standard's check value). -/
theorem test_crc32c : crc32c [0x31, 0x32, 0x33, 0x34, 0x35, 0x36, 0x37, 0x38, 0x39] = 0xE3069283 := by decide +kernel
/-- HMAC-SHA-256 of "Hi There" under twenty bytes 0x0B (R3, R334; test case 1 of RFC 4231). -/
theorem test_hmac : hmac (List.replicate 20 0x0B) [0x48, 0x69, 0x20, 0x54, 0x68, 0x65, 0x72, 0x65] = [0xB0, 0x34, 0x4C, 0x61, 0xD8, 0xDB, 0x38, 0x53, 0x5C, 0xA8, 0xAF, 0xCE, 0xAF, 0x0B, 0xF1, 0x2B,
    0x88, 0x1D, 0xC2, 0x00, 0xC9, 0x83, 0x3D, 0xA7, 0x26, 0xE9, 0x37, 0x6C, 0x2E, 0x32, 0xCF, 0xF7] := by
  decide +kernel
/-- A page table of one page of one head of width 16. -/
def Tests.pagesOf (gen entry : Nat) : State := (Tests.pages gen entry).wrN 0x2008 8 (1 + 2 ^ 32 + 16 * 2 ^ 48)
theorem test_WalksFetchBlocks_pages : let w := Tests.attRaw (0x20 + 9 * 2 ^ 11) 1
    let v := Tests.tlb (Tests.pagesOf 2 (2 ^ 63))
    let n := Tests.tlb (Tests.pagesOf 2 0)
    (Tests.pagesOf 2 (2 ^ 63)).walkMisses w 0 = [0] ∧ v.walkMisses w 0 = [] ∧ v.blockPages w 0 = [0] ∧ (v.pageEntry w 0).2.1 = true ∧
    n.walkMisses w 0 = [] ∧ n.blockPages w 0 = [0] ∧ (n.pageEntry w 0).2.1 = false ∧ n.rdN (woPtbase w) 8 % 2 = 0 := by decide +kernel
/-- The block of round 0 may be sent once processed (two packages); of the last round only with credit for the return slot. -/
theorem test_BlocksGoRoundTheRing_send : let v := Tests.rev2
    let last : Rev := { blocks := [{ processed := true }] }
    v.block? v.sendRound 0 = some { processed := true } ∧ (v.train.filter (fun x => x.sent)).length = 0 ∧ v.sendRound + 1 ≠ v.size ∧
    v.block? v.sendRound 1 = none ∧ last.sendRound + 1 = last.size ∧ last.credit.contains 2 = false ∧ ({ last with credit := [2] } : Rev).credit.contains 2 = true ∧
    last.block? last.sendRound 0 = some { processed := true } := by decide
end

section
/-! The sum of a chunk in the brine (R27, R29, R31, R32): the grain and the reach of the element formats of the exact
pairs, their exact products, and the brine as the sum of the products' units. -/

namespace Sys2Proof.Machine

/-- A finite value that is a whole number, below 2^n in magnitude, of units of 2^q. -/
def Val.OnGrain (v : Val) (q : Int) (n : Nat) : Prop :=
  ∃ s m e, v = .fin s m e ∧ q ≤ e ∧ m * 2 ^ (e - q).toNat < 2 ^ n

/-- A finite code is a subnormal or a normal number (R27). -/
theorem Fmt.decode_finite (f : Fmt) (c : Nat) : (f.decode c).finite = true →
    f.decode c = .fin (bit c (f.eb + f.mb)) (bits c 0 f.mb) f.qmin ∨
    bits c f.mb f.eb ≠ 0 ∧ f.decode c = .fin (bit c (f.eb + f.mb)) (2 ^ f.mb + bits c 0 f.mb) (f.qmin + (bits c f.mb f.eb : Int) - 1) := by
  unfold Fmt.decode
  dsimp only
  split
  · split <;> (intro h; cases h)
  · split
    · intro h; cases h
    · split
      · exact fun _ => .inl rfl
      · next h0 => exact fun _ => .inr ⟨h0, rfl⟩

/-- A finite code of a binary format is on the grain of its least subnormal bit. -/
theorem Fmt.decode_onGrain (f : Fmt) (c : Nat) (h : (f.decode c).finite = true) :
    (f.decode c).OnGrain f.qmin (f.mb + 2 ^ f.eb - 1) := by
  have hex : bits c f.mb f.eb < 2 ^ f.eb := Nat.mod_lt _ (Nat.two_pow_pos _)
  have hma : bits c 0 f.mb < 2 ^ f.mb := Nat.mod_lt _ (Nat.two_pow_pos _)
  rcases f.decode_finite c h with hsub | ⟨h0, hnorm⟩
  · refine ⟨_, _, _, hsub, Int.le_refl _, ?_⟩
    rw [Int.sub_self, Int.toNat_zero, Nat.pow_zero, Nat.mul_one]
    exact Nat.lt_of_lt_of_le hma (Nat.pow_le_pow_right Nat.zero_lt_two (by omega))
  · refine ⟨_, _, _, hnorm, by omega, ?_⟩
    have hsh : (f.qmin + (bits c f.mb f.eb : Int) - 1 - f.qmin).toNat = bits c f.mb f.eb - 1 := by omega
    have hman : 2 ^ f.mb + bits c 0 f.mb < 2 ^ (f.mb + 1) := by rw [Nat.pow_succ]; omega
    rw [hsh]
    calc (2 ^ f.mb + bits c 0 f.mb) * 2 ^ (bits c f.mb f.eb - 1)
        < 2 ^ (f.mb + 1) * 2 ^ (bits c f.mb f.eb - 1) := (Nat.mul_lt_mul_right (Nat.two_pow_pos _)).2 hman
      _ = 2 ^ (f.mb + 1 + (bits c f.mb f.eb - 1)) := (Nat.pow_add ..).symm
      _ ≤ 2 ^ (f.mb + 2 ^ f.eb - 1) := Nat.pow_le_pow_right Nat.zero_lt_two (by omega)

/-- An eight-bit two's complement number lies on the grain of 1. -/
theorem ofInt_toSigned_onGrain (c : Nat) : (Val.ofInt (toSigned 8 c)).OnGrain 0 8 := by
  refine ⟨_, _, _, rfl, Int.le_refl _, ?_⟩
  have h : (toSigned 8 c).natAbs ≤ 128 := by unfold toSigned; split <;> omega
  rw [Int.sub_self, Int.toNat_zero, Nat.pow_zero, Nat.mul_one]
  omega

/-- An exact scaling by a power of two moves the grain. -/
theorem Val.OnGrain.mul_pow2 {v : Val} {q : Int} {n : Nat} (h : v.OnGrain q n) (k : Int) : (v.mul (.pow2 k)).OnGrain (q + k) n := by
  obtain ⟨s, m, e, rfl, hq, hm⟩ := h
  refine ⟨_, _, _, rfl, by omega, ?_⟩
  rw [Nat.mul_one, show e + k - (q + k) = e - q by omega]
  exact hm

/-- Exponent of the grain of an element format that takes part in an exact pair (R27, R29), and bits of its values there. -/
def grainOf (f : Nat) : Int := match baseFmt f with | 0 => -9 | 1 => -16 | 2 => 0 | _ => -6
def reachOf (f : Nat) : Nat := match baseFmt f with | 0 => 18 | 1 => 33 | _ => 8

/-- The codes of FORMAT that name the element formats of the exact pairs (R182). -/
theorem code_of_baseFmt {f : Nat} (hf : baseFmt f = 0 ∨ baseFmt f = 1 ∨ baseFmt f = 2 ∨ baseFmt f = 5) :
    f = 0 ∨ f = 3 ∨ f = 1 ∨ f = 4 ∨ f = 2 ∨ f = 5 := by
  by_cases h3 : f = 3
  · omega
  · by_cases h4 : f = 4
    · omega
    · rw [baseFmt, if_neg h3, if_neg h4] at hf
      omega

theorem elemVal_onGrain (f c : Nat) (hf : baseFmt f = 0 ∨ baseFmt f = 1 ∨ baseFmt f = 2 ∨ baseFmt f = 5)
    (h : (elemVal f c).finite = true) : (elemVal f c).OnGrain (grainOf f) (reachOf f) := by
  rcases code_of_baseFmt hf with rfl | rfl | rfl | rfl | rfl | rfl
  · exact Fmt.e4m3.decode_onGrain c h
  · exact Fmt.e4m3.decode_onGrain c h
  · exact Fmt.e5m2.decode_onGrain c h
  · exact Fmt.e5m2.decode_onGrain c h
  · exact ofInt_toSigned_onGrain c
  · exact (ofInt_toSigned_onGrain c).mul_pow2 (-6)

/-- The exact pairs of R29, with their bit-0 weights. -/
theorem pairWeight_cases {f g : Nat} {w : Int} (h : pairWeight f g = some (some w)) :
    baseFmt f = 0 ∧ baseFmt g = 1 ∧ w = -25 ∨ baseFmt f = 1 ∧ baseFmt g = 0 ∧ w = -25 ∨ baseFmt f = 0 ∧ baseFmt g = 0 ∧ w = -18 ∨
    baseFmt f = 2 ∧ baseFmt g = 2 ∧ w = 0 ∨ baseFmt f = 5 ∧ baseFmt g = 5 ∧ w = -12 := by
  unfold pairWeight at h
  dsimp only at h
  split at h
  · next h1 => cases h; omega
  · split at h
    · next h2 => cases h; omega
    · split at h
      · next h3 => cases h; omega
      · split at h
        · next h4 => cases h; omega
        · split at h <;> cases h

/-- Both formats of an exact pair have a grain, the bit-0 weight is the product of the grains, and a product stays below
2^51 units. -/
theorem pairWeight_exact {f g : Nat} {w : Int} (h : pairWeight f g = some (some w)) :
    (baseFmt f = 0 ∨ baseFmt f = 1 ∨ baseFmt f = 2 ∨ baseFmt f = 5) ∧
    (baseFmt g = 0 ∨ baseFmt g = 1 ∨ baseFmt g = 2 ∨ baseFmt g = 5) ∧
    w = grainOf f + grainOf g ∧ reachOf f + reachOf g ≤ 51 := by
  unfold grainOf reachOf
  rcases pairWeight_cases h with ⟨hf, hg, rfl⟩ | ⟨hf, hg, rfl⟩ | ⟨hf, hg, rfl⟩ | ⟨hf, hg, rfl⟩ | ⟨hf, hg, rfl⟩ <;>
    (rw [hf, hg]; decide)

/-- The product of two values on their grains is a whole number of units of the product of the grains. -/
theorem valUnits_onGrain {x y : Val} {q r : Int} {a b : Nat} (hx : x.OnGrain q a) (hy : y.OnGrain r b) :
    ∃ s m e t n f, x = .fin s m e ∧ y = .fin t n f ∧ q + r ≤ e + f ∧ m * n * 2 ^ (e + f - (q + r)).toNat < 2 ^ (a + b) ∧
      valUnits x y (q + r) = some ((if s != t then -1 else 1) * ((m * n * 2 ^ (e + f - (q + r)).toNat : Nat) : Int)) := by
  obtain ⟨s, m, e, rfl, hq, hm⟩ := hx
  obtain ⟨t, n, f, rfl, hr, hn⟩ := hy
  have hle : q + r ≤ e + f := by omega
  have hexp : (e + f - (q + r)).toNat = (e - q).toNat + (f - r).toNat := by omega
  refine ⟨s, m, e, t, n, f, rfl, rfl, hle, ?_, ?_⟩
  · calc m * n * 2 ^ (e + f - (q + r)).toNat = (m * 2 ^ (e - q).toNat) * (n * 2 ^ (f - r).toNat) := by
          rw [hexp, Nat.pow_add, Nat.mul_mul_mul_comm]
      _ < 2 ^ a * 2 ^ b := Nat.mul_lt_mul'' hm hn
      _ = 2 ^ (a + b) := (Nat.pow_add ..).symm
  · simp only [valUnits, quant, if_pos hle, Nat.shiftLeft_eq]
    by_cases hst : (s != t) = true
    · rw [if_pos hst, if_pos hst, Int.neg_one_mul]
    · rw [if_neg hst, if_neg hst, Int.one_mul]

/-- The codes of the stationary and of the moving element that a register and a beat bring to a cell (R60, R77). -/
def Plan.sides (p : Plan) (x : Nat × Nat) : Nat × Nat := if p.shape = 5 then (x.2, x.1) else x

/-- The product of a register's element and a beat's, in units of 2^w. -/
def Plan.units (p : Plan) (w : Int) (x : Nat × Nat) : Option Int := productUnits p.st.fmt p.mv.fmt (p.sides x).1 (p.sides x).2 w

/-- Exponent of bit 0 of a cell's brine: that of its window, or of the exact pair (R29, R55). -/
def Cell.weight (c : Cell) (p : Plan) : Int := if p.win then c.anchor - 49 else p.w

/-- What a beat changes in a cell: the sums of its codes and, where the output is formed, the brine by the units of the
product, or the mark of a product that is not finite (R31, R33, R186). -/
theorem Cell.add_eq (c : Cell) (p : Plan) (real formed : Bool) (reg beat : Nat) :
    c.add p real formed reg beat = { c with
      sumA := if real then c.sumA + toSigned 8 (p.sides (reg, beat)).1 else c.sumA
      sumB := if real then c.sumB + toSigned 8 (p.sides (reg, beat)).2 else c.sumB
      cnt := if real then c.cnt + 1 else c.cnt
      brine := if formed then c.brine + BitVec.ofInt 64 ((p.units (c.weight p) (reg, beat)).getD 0) else c.brine
      nonfin := c.nonfin || (formed && (p.units (c.weight p) (reg, beat)).isNone) } := by
  have hadd : c.add p real formed reg beat =
      (let sums : Cell := if real then { c with
          sumA := c.sumA + toSigned 8 (p.sides (reg, beat)).1
          sumB := c.sumB + toSigned 8 (p.sides (reg, beat)).2
          cnt := c.cnt + 1 } else c
       if !formed then sums
       else match p.units (c.weight p) (reg, beat) with
         | some u => { sums with brine := sums.brine + BitVec.ofInt 64 u }
         | none => { sums with nonfin := true }) := by
    unfold Cell.add Plan.units Plan.sides Cell.weight
    by_cases hs : p.shape = 5 <;> simp only [hs, if_true, if_false] <;> rfl
  rw [hadd]
  cases formed
  · cases real <;> simp
  · cases p.units (c.weight p) (reg, beat) <;> cases real <;> simp

/-- Beats one after another add the sum of their units, modulo 2^64. -/
theorem Cell.foldl_add_units (p : Plan) (hwin : p.win = false) (l : List (Nat × Nat)) (c : Cell)
    (hl : ∀ x ∈ l, (p.units p.w x).isSome = true) :
    (l.foldl (fun (c : Cell) x => c.add p true true x.1 x.2) c).brine =
      c.brine + BitVec.ofInt 64 (l.map (fun x => (p.units p.w x).getD 0)).sum ∧
    (l.foldl (fun (c : Cell) x => c.add p true true x.1 x.2) c).nonfin = c.nonfin := by
  induction l generalizing c with
  | nil => simp
  | cons x l ih =>
    obtain ⟨ihb, ihn⟩ := ih (c.add p true true x.1 x.2) (fun y hy => hl y (List.mem_cons_of_mem _ hy))
    have hx : (p.units p.w x).isNone = false := by simpa using hl x List.mem_cons_self
    have hw : c.weight p = p.w := if_neg (by simp [hwin])
    rw [Cell.add_eq, hw] at ihb ihn
    constructor
    · rw [List.foldl_cons, Cell.add_eq, hw, ihb, List.map_cons, List.sum_cons, BitVec.ofInt_add, ← BitVec.add_assoc]
      rfl
    · rw [List.foldl_cons, Cell.add_eq, hw, ihn]
      simp [hx]

/-- A sum is bounded by the count of its terms. -/
theorem natAbs_sum_le (l : List Int) (n : Nat) (h : ∀ v ∈ l, v.natAbs ≤ n) : l.sum.natAbs ≤ l.length * n := by
  induction l with
  | nil => exact Nat.zero_le _
  | cons v l ih =>
    have hv := h v List.mem_cons_self
    have hl := ih (fun u hu => h u (List.mem_cons_of_mem _ hu))
    have hadd := Int.natAbs_add_le v l.sum
    rw [List.sum_cons, List.length_cons, Nat.succ_mul]
    omega

/-- At most 4,096 numbers below 2^51 in magnitude have a sum that a signed 64-bit word holds. -/
theorem toInt_ofInt_sum (l : List Int) (hlen : l.length ≤ 4096) (h : ∀ v ∈ l, v.natAbs < 2 ^ 51) : (BitVec.ofInt 64 l.sum).toInt = l.sum := by
  have hsum := natAbs_sum_le l (2 ^ 51 - 1) (fun v hv => Nat.le_sub_one_of_lt (h v hv))
  have hmax := Nat.mul_le_mul_right (2 ^ 51 - 1) hlen
  exact BitVec.toInt_ofInt_eq_self (by omega) (by omega) (by omega)

/-- The units of a product of finite codes of an exact pair: below 2^51, and no bit of the product lies under bit 0 (R32). -/
theorem Plan.units_exact (p : Plan) (x : Nat × Nat) (hw : pairWeight p.st.fmt p.mv.fmt = some (some p.w))
    (hst : (elemVal p.st.fmt (p.sides x).1).finite = true) (hmv : (elemVal p.mv.fmt (p.sides x).2).finite = true) :
    ∃ s m e t n f, elemVal p.st.fmt (p.sides x).1 = .fin s m e ∧ elemVal p.mv.fmt (p.sides x).2 = .fin t n f ∧ p.w ≤ e + f ∧
      m * n * 2 ^ (e + f - p.w).toNat < 2 ^ 51 ∧
      p.units p.w x = some ((if s != t then -1 else 1) * ((m * n * 2 ^ (e + f - p.w).toNat : Nat) : Int)) := by
  obtain ⟨hf, hg, hwq, hreach⟩ := pairWeight_exact hw
  obtain ⟨s, m, e, t, n, f, hx, hy, hle, hlt, hu⟩ := valUnits_onGrain (elemVal_onGrain _ _ hf hst) (elemVal_onGrain _ _ hg hmv)
  rw [← hwq] at hle hlt hu
  exact ⟨s, m, e, t, n, f, hx, hy, hle, Nat.lt_of_lt_of_le hlt (Nat.pow_le_pow_right Nat.zero_lt_two hreach), hu⟩

/-- So each product of finite codes counts, by less than 2^51 units. -/
theorem Plan.units_natAbs_lt (p : Plan) (x : Nat × Nat) (hw : pairWeight p.st.fmt p.mv.fmt = some (some p.w))
    (hst : (elemVal p.st.fmt (p.sides x).1).finite = true) (hmv : (elemVal p.mv.fmt (p.sides x).2).finite = true) :
    (p.units p.w x).isSome = true ∧ ((p.units p.w x).getD 0).natAbs < 2 ^ 51 := by
  obtain ⟨s, m, e, t, n, f, -, -, -, hlt, hu⟩ := p.units_exact x hw hst hmv
  rw [hu]
  refine ⟨rfl, ?_⟩
  rw [Option.getD_some, Int.natAbs_mul, Int.natAbs_natCast]
  have hsign : (if s != t then -1 else 1 : Int).natAbs = 1 := by split <;> rfl
  rw [hsign, Nat.one_mul]
  exact hlt

/-- Settles O59: each product is a whole number of units below 2^51, and 4,096 of them stay below 2^63. -/
theorem brineSumsAreExact : Obligations.BrineSumsAreExact := by
  unfold Obligations.BrineSumsAreExact
  intro p l hw hwin hlen pick hfin units c
  have hlt (x) (hx : x ∈ l) := p.units_natAbs_lt x hw (hfin x hx).1 (hfin x hx).2
  obtain ⟨hbrine, hnonfin⟩ := Cell.foldl_add_units p hwin l {} (fun x hx => (hlt x hx).1)
  refine ⟨hnonfin, ?_, ?_⟩
  · have hbound : ∀ v ∈ l.map units, v.natAbs < 2 ^ 51 := by
      intro v hv
      obtain ⟨x, hx, rfl⟩ := List.mem_map.1 hv
      exact (hlt x hx).2
    calc c.brine.toInt = (0#64 + BitVec.ofInt 64 (l.map units).sum).toInt := congrArg BitVec.toInt hbrine
      _ = (BitVec.ofInt 64 (l.map units).sum).toInt := by rw [BitVec.zero_add]
      _ = (l.map units).sum := toInt_ofInt_sum _ (by simpa using hlen) hbound
  · intro x hx
    obtain ⟨s, m, e, t, n, f, hst, hmv, hle, -, hu⟩ := p.units_exact x hw (hfin x hx).1 (hfin x hx).2
    change elemVal p.st.fmt (pick x).1 = _ at hst
    change elemVal p.mv.fmt (pick x).2 = _ at hmv
    rw [hst, hmv]
    exact ⟨hle, congrArg (Option.getD · 0) hu⟩

end Sys2Proof.Machine
end

section
/-! Promotion events (R41, R44, R45, R48, R98): what the sparse map of the frames reads after a write, the count in the
group word, the words of a group after an event of plain promotions, and the event at its home hub. -/

namespace Sys2Proof

theorem FMap.find?_ins_self {α : Type} (m : FMap α) (i : Nat) (v : α) (h : ∀ e ∈ m, e.1 ≠ i) :
    (FMap.ins i v m).find? (fun e => e.1 = i) = some (i, v) := by
  induction m with
  | nil => simp [FMap.ins]
  | cons e t ih =>
    have he : e.1 ≠ i := h e List.mem_cons_self
    by_cases hl : i < e.1
    · simp [FMap.ins, hl]
    · simp [FMap.ins, hl, he, ih (fun x hx => h x (List.mem_cons_of_mem _ hx))]

theorem FMap.find?_ins_ne {α : Type} (m : FMap α) (v : α) {i k : Nat} (h : k ≠ i) :
    (FMap.ins i v m).find? (fun e => e.1 = k) = m.find? (fun e => e.1 = k) := by
  induction m with
  | nil => simp [FMap.ins, h.symm]
  | cons e t ih =>
    by_cases hl : i < e.1
    · simp [FMap.ins, hl, h.symm]
    · simp [FMap.ins, hl, List.find?_cons, ih]

theorem FMap.find?_drop_ne {α : Type} (m : FMap α) {i k : Nat} (h : k ≠ i) :
    (FMap.drop m i).find? (fun e => e.1 = k) = m.find? (fun e => e.1 = k) := by
  rw [FMap.drop, List.find?_filter]
  congr 1
  funext e
  by_cases he : e.1 = k <;> simp [he, h]

end Sys2Proof

namespace Sys2Proof.Machine

/-- The group written is resident, if its frame is no empty one. -/
theorem State.frame?_putFrame (s : State) (k : Nat) (f : Frame) (hf : f ≠ {}) : (s.putFrame k f).frame? k = some f := by
  show ((FMap.put {} s.win.frames k f).find? (fun e => e.1 = k)).map Prod.snd = some f
  rw [FMap.put, if_neg hf, FMap.find?_ins_self _ _ _ (by simp [FMap.drop])]
  rfl

/-- Every other group is as it was. -/
theorem State.frame?_putFrame_ne (s : State) (f : Frame) {k i : Nat} (h : i ≠ k) : (s.putFrame k f).frame? i = s.frame? i := by
  show ((FMap.put {} s.win.frames k f).find? (fun e => e.1 = i)).map Prod.snd = (s.win.frames.find? (fun e => e.1 = i)).map Prod.snd
  rw [FMap.put]
  split
  · rw [FMap.find?_drop_ne _ h]
  · rw [FMap.find?_ins_ne _ _ h, FMap.find?_drop_ne _ h]

/-- BITTERN of a group word as made (R45). -/
theorem gwBittern_gwMake (nonfin deep bittern lapse : Bool) (pre cnt : Nat) : gwBittern (gwMake nonfin deep bittern lapse pre cnt) = bittern := by
  have hp : pre % 2 ^ 20 < 2 ^ 20 := Nat.mod_lt _ (Nat.two_pow_pos _)
  have hc : cnt % 2 ^ 32 < 2 ^ 32 := Nat.mod_lt _ (Nat.two_pow_pos _)
  unfold gwBittern bit gwMake pack
  rw [Nat.testBit_eq_decide_div_mod_eq]
  simp only [Nat.shiftLeft_eq]
  cases nonfin <;> cases deep <;> cases bittern <;> cases lapse <;> simp [b2n] <;> omega

/-- An event at a group without bittern mode, not forced and below 2^29, adds one to the count (R48). -/
theorem countEvent_plain (gw : Nat) (enable : Bool) (hb : gwBittern gw = false) (hc : gwCount gw < 2 ^ 29) :
    countEvent gw false enable = (gwMake (gwNonfin gw) false false (gwLapse gw) 0 (gwCount gw + 1), false, false, false) := by
  have hne : gwCount gw ≠ 2 ^ 29 := by omega
  have hmin : min (gwCount gw + 1) (2 ^ 32 - 1) = gwCount gw + 1 := by omega
  unfold countEvent
  dsimp only
  rw [if_neg (by simp [hb]), if_neg (by simp), if_neg hne, hmin]

/-- The hi words of a group after plain promotions, one after another (R41). -/
def promoteHi (hi : FMap Nat) (l : List (Nat × Val)) : FMap Nat :=
  l.foldl (fun m x => FMap.put 0 m x.1 (promote64 (FMap.get 0 m x.1) x.2)) hi

/-- Without bittern mode promotions change the hi words alone. -/
theorem Frame.foldl_promote_plain (f : Frame) (l : List (Nat × Val)) (hb : gwBittern f.gw = false) :
    l.foldl Frame.promote f = { f with hi := promoteHi f.hi l } := by
  induction l generalizing f with
  | nil => rfl
  | cons x l ih =>
    have hx : f.promote x = { f with hi := FMap.put 0 f.hi x.1 (promote64 (FMap.get 0 f.hi x.1) x.2) } := if_neg (by simp [hb])
    rw [List.foldl_cons, hx]
    exact ih _ hb

/-- Promotions of different elements replace each element promoted by its sum, and leave every other. -/
theorem get_promoteHi (hi : FMap Nat) (ps : List Promo) (e : Nat) (hnd : (ps.map Promo.elem).Nodup) :
    FMap.get 0 (promoteHi hi (ps.map (fun x => (x.elem, x.v)))) e =
      (ps.find? (fun x => x.elem = e)).elim (FMap.get 0 hi e) (fun x => promote64 (FMap.get 0 hi e) x.v) := by
  induction ps generalizing hi with
  | nil => rfl
  | cons x ps ih =>
    rw [List.map_cons, List.nodup_cons] at hnd
    obtain ⟨hx, hnd⟩ := hnd
    have hstep : promoteHi hi ((x :: ps).map (fun x => (x.elem, x.v))) =
        promoteHi (FMap.put 0 hi x.elem (promote64 (FMap.get 0 hi x.elem) x.v)) (ps.map (fun x => (x.elem, x.v))) := rfl
    rw [hstep, ih _ hnd]
    by_cases he : x.elem = e
    · have hnone : ps.find? (fun y => y.elem = e) = none :=
        List.find?_eq_none.2 (fun y hy => by simpa using fun h => hx (List.mem_map.2 ⟨y, hy, h.trans he.symm⟩))
      subst he
      simp [hnone]
    · rw [FMap.get_put_ne 0 hi _ (Ne.symm he), List.find?_cons_of_neg (by simpa using he)]

/-- The frame of a group after an event of plain promotions: its words, its group word, its stamp. -/
theorem State.putPromoted_plain (s : State) (hub key : Nat) (f : Frame) (vals : List (Nat × Val)) (hb : gwBittern f.gw = false) :
    ∃ f', (s.putPromoted hub key f vals).frame? key = some f' ∧ f'.hub = f.hub ∧ f'.gw = f.gw ∧ f'.hi = promoteHi f.hi vals ∧
      (s.putPromoted hub key f vals).win.promos = s.win.promos ∧
      ∀ k, k ≠ key → (s.putPromoted hub key f vals).frame? k = s.frame? k := by
  let inj := s.injected 3 hub
  let u : State := if inj then s.disarm else s
  let f' : Frame := { f with stamp := s.win.stamp + 1, bad := inj, hi := promoteHi f.hi vals }
  have hwin : u.win = s.win := by show (if inj then s.disarm else s).win = s.win; split <;> rfl
  have hput : s.putPromoted hub key f vals = ({ u with win := { u.win with stamp := u.win.stamp + 1 } }).putFrame key f' := by
    have hfold := Frame.foldl_promote_plain { f with stamp := s.win.stamp + 1, bad := inj } vals hb
    unfold State.putPromoted
    dsimp only
    rw [hfold]
  have hne : f' ≠ {} := fun h => absurd (congrArg Frame.stamp h) (Nat.succ_ne_zero _)
  refine ⟨f', ?_, rfl, rfl, rfl, ?_, ?_⟩
  · rw [hput, State.frame?_putFrame _ _ _ hne]
  · rw [hput, ← hwin]
    rfl
  · intro k hk
    rw [hput, State.frame?_putFrame_ne _ _ hk]
    show (u.win.frames.find? _).map _ = (s.win.frames.find? _).map _
    rw [hwin]

/-- An event that sets no flag and brings no NaN counts nothing beside the group word. -/
theorem State.countPromotion_none (s : State) (r slot : Nat) : s.countPromotion r slot false false false 0 = s := rfl

/-- An event of numbers at a resident group, without bittern mode, a forced bittern or a parity error, and with a count below 2^29. -/
theorem State.promoteEvent_plain (s : State) (r slot key : Nat) (f : Frame) (vals : List (Nat × Val)) (hne : vals ≠ [])
    (hf : s.frame? key = some f) (hbad : f.bad = false) (hb : gwBittern f.gw = false) (hc : gwCount f.gw < 2 ^ 29)
    (hF : rgFbit (s.regionDesc (key / 2 ^ 20)) = false) (hforce : s.obj (okey 0x2C90 1) ≠ 1) (hdown : (s.fn 12).state ≠ .faulted)
    (hnan : ∀ x ∈ vals, x.2.isNan = false) :
    s.promoteEvent r slot f.hub key vals =
      s.putPromoted f.hub key { f with gw := gwMake (gwNonfin f.gw) false false (gwLapse f.gw) 0 (gwCount f.gw + 1) } vals := by
  have hload : s.loadGroup f.hub key = s := by simp [State.loadGroup, hf]
  have hup : s.windrowDown = false := by simpa [State.windrowDown] using hdown
  have hnf : vals.filter (fun x => x.2.isNan) = [] := List.filter_eq_nil_iff.2 (fun x hx => by simp [hnan x hx])
  have hempty : vals.isEmpty = false := by simpa using hne
  unfold State.promoteEvent
  simp only [hempty, hload, hf, hbad, hF, decide_eq_false hforce, Bool.or_self, countEvent_plain _ _ hb hc, hup, hnf,
    Bool.false_and, Bool.false_eq_true, if_false, List.length_nil, ne_eq, not_true_eq_false]
  exact State.countPromotion_none _ _ _

/-- The work order found in a slot of a ring is of that ring and slot. -/
theorem State.order?_place {s : State} {r slot : Nat} {o : Order} (h : s.order? r slot = some o) : o.ring = r ∧ o.slot = slot := by
  simpa [Order.is] using List.find?_some h

/-- The state that has taken an event's promotions from those that wait, and noted the event as the last applied to the group. -/
def State.takeEvent (s : State) (r slot key ev : Nat) : State :=
  ({ s with win := { s.win with promos := s.win.promos.filter (fun x =>
    !(x.ring = r && x.slot = slot && x.group = key && x.event = ev)) } }).updOrder r slot
      (fun o => { o with applied := FMap.put 0 o.applied key (ev + 1) })

theorem State.applyEvent_eq (s : State) (r slot hub key ev : Nat) (vals : List (Nat × Val)) :
    s.applyEvent r slot hub key ev vals = (s.takeEvent r slot key ev).promoteEvent r slot hub key vals := rfl

/-- No promotion of the event waits any longer. -/
theorem State.takeEvent_promos (s : State) (r slot key ev : Nat) :
    ∀ x ∈ (s.takeEvent r slot key ev).win.promos, ¬ (x.ring = r ∧ x.slot = slot ∧ x.group = key ∧ x.event = ev) := by
  intro x hx hmine
  have := (List.mem_filter.1 hx).2
  simp [hmine] at this

/-- The next event of a group of a work order's target region: applied at its home hub once complete, else left (R98). -/
theorem State.promoStep_target (s : State) (o : Order) (g : Nat) (p : Plan) (tg : Target) (i j ev : Nat) (els : List (Nat × Nat)) (evs : List Nat)
    (hp : s.dwPlan? o = some p) (ht : s.target? o.raw = some tg) (hg : tg.region = g / 2 ^ 20)
    (hels : s.groupFormed o p tg (g % 2 ^ 20) = (i, j) :: els)
    (hev : p.events (slabs o.kind o.raw) (FMap.get 0 o.applied g) = ev :: evs) :
    s.promoStep o g =
      if (s.promosOf o.ring o.slot g ev).length = els.length + 1 then
        s.applyEvent o.ring o.slot (panAt (woMask o.raw) (p.setOf i j * p.z % pansOf (woMask o.raw)) / 64) g ev
          ((s.promosOf o.ring o.slot g ev).map (fun x => (x.elem, x.v)))
      else s := by
  simp only [State.promoStep, hp, ht, hg, if_true, State.targetEvent, hels, hev, List.head?_cons, List.length_cons]

/-- A work order's event is applied in its turn alone, outside Quiesced. -/
theorem exec_promotionEvent (r : RingNo) (slot g : Nat) (s : State) (o : Order) (ho : s.order? r.val slot = some o) :
    exec (.promotionEvent r slot g) s =
      if o.live && s.cfg.snap.state ≠ 2 && !(s.turnWaits o g) then .next (s.promoStep o g) else .next s := by
  show execPromotionEvent r slot g s = _
  unfold execPromotionEvent
  rw [ho]

/-- Settles O48: a complete event is applied by `promoteEvent_plain`, on the state that has taken its promotions. -/
theorem promotionsReachTheGroup : Obligations.PromotionsReachTheGroup := by
  unfold Obligations.PromotionsReachTheGroup
  intro r slot g s o p tg i j ev els evs ho hlive hsnap hturn hp ht hg hels hev ps hub
  obtain ⟨hring, hslot⟩ := State.order?_place ho
  have hstep := s.promoStep_target o g p tg i j ev els evs hp ht hg hels hev
  rw [hring, hslot] at hstep
  have hexec : exec (.promotionEvent r slot g) s = .next (s.promoStep o g) := by
    rw [exec_promotionEvent r slot g s o ho, if_pos (by simp [hlive, hsnap, hturn])]
  refine ⟨fun hlen => ?_, ?_, fun q hq hw => ?_⟩
  · rw [hexec, hstep, if_neg hlen]
  · intro f hlen hf hhub hbad hb hc hF hforce hdown hnd hnan
    let vals := ps.map (fun x => (x.elem, x.v))
    let s1 : State := s.takeEvent r.val slot g ev
    let f1 : Frame := { f with gw := gwMake (gwNonfin f.gw) false false (gwLapse f.gw) 0 (gwCount f.gw + 1) }
    have hne : vals ≠ [] := by
      intro h
      have : ps.length = 0 := by simpa [vals] using h
      omega
    have happly : s.promoStep o g = s1.putPromoted f.hub g f1 vals := by
      rw [hstep, if_pos hlen]
      rw [State.applyEvent_eq]
      change s1.promoteEvent r.val slot hub g vals = _
      rw [← hhub]
      exact s1.promoteEvent_plain r.val slot g f vals hne hf hbad hb hc hF hforce hdown
        (fun x hx => by obtain ⟨y, hy, rfl⟩ := List.mem_map.1 hx; exact hnan y hy)
    obtain ⟨f', hframe, hhub', hgw, hhi, hpromos, hother⟩ := s1.putPromoted_plain f.hub g f1 vals (gwBittern_gwMake ..)
    refine ⟨_, f', by rw [hexec, happly], hframe, hhub'.trans hhub, State.putPromoted_mem .., State.putPromoted_fns .., hgw, ?_, ?_, hother⟩
    · intro e
      rw [hhi, get_promoteHi f.hi ps e hnd]
      cases ps.find? (fun x => x.elem = e) <;> rfl
    · rw [hpromos]
      exact s.takeEvent_promos r.val slot g ev
  · obtain rfl : o = q := Option.some.inj (ho.symm.trans hq)
    rw [hw] at hturn
    exact absurd hturn (by simp)

end Sys2Proof.Machine
end

section
/-! Loads and beats of the pans (R63, R67 to R75): arrays and cells after a write, a ripple of several arrays, a beat in
the lanes of an array, and what a fault leaves of the pan at which it is raised. -/

namespace Sys2Proof

/-- A map listed over a range of keys, without the values that are the default. -/
theorem FMap.get_filterMap_range' {α : Type} [DecidableEq α] (d : α) (f : Nat → α) (lo cnt n : Nat) :
    FMap.get d ((List.range' lo cnt).filterMap (fun k => if f k = d then none else some (k, f k))) n =
      if lo ≤ n ∧ n < lo + cnt then f n else d := by
  induction cnt generalizing lo with
  | zero => exact (if_neg (by omega)).symm
  | succ cnt ih =>
    rw [List.range'_succ, List.filterMap_cons]
    by_cases hn : lo = n
    · subst hn
      by_cases hd : f lo = d <;> simp [hd, FMap.get_cons, ih]
    · have hiff : (lo + 1 ≤ n ∧ n < lo + 1 + cnt) ↔ (lo ≤ n ∧ n < lo + (cnt + 1)) := by omega
      by_cases hd : f lo = d <;> simp only [hd, if_true, if_false, FMap.get_cons, hn, ih, hiff]

end Sys2Proof

namespace Sys2Proof.Machine

@[simp] theorem Pan.arr_setArr (x : Pan) (a : Nat) (y : Arr) : (x.setArr a y).arr a = y := FMap.get_put_self _ _ _ _
@[simp] theorem Pan.setArr_cur (x : Pan) (a : Nat) (y : Arr) : (x.setArr a y).cur = x.cur := rfl
theorem Pan.arr_setArr_ne (x : Pan) (y : Arr) {a b : Nat} (h : b ≠ a) : (x.setArr a y).arr b = x.arr b := FMap.get_put_ne _ _ _ h

/-- A cell of an array whose cells have all been mapped. -/
theorem get_mapCells (m : FMap Cell) (f : Nat → Cell → Cell) {cnt n : Nat} (h : n < cnt) :
    FMap.get {} (mapCells cnt m f) n = f n (FMap.get {} m n) := by
  have := FMap.get_filterMap_range' ({} : Cell) (fun k => f k (FMap.get {} m k)) 0 cnt n
  rw [if_pos ⟨Nat.zero_le n, by omega⟩, ← List.range_eq_range'] at this
  exact this

/-- Arrays changed one after another, each by what it was: every array once. -/
theorem Pan.foldl_setArr (g : Cursor → Nat → Arr → Arr) (l : List Nat) (x : Pan) (hl : l.Nodup) :
    (l.foldl (fun x a => x.setArr a (g x.cur a (x.arr a))) x).cur = x.cur ∧
    ∀ b, (l.foldl (fun x a => x.setArr a (g x.cur a (x.arr a))) x).arr b = if b ∈ l then g x.cur b (x.arr b) else x.arr b := by
  induction l generalizing x with
  | nil => simp
  | cons a l ih =>
    obtain ⟨ha, hl⟩ := List.nodup_cons.1 hl
    obtain ⟨hcur, harr⟩ := ih (x.setArr a (g x.cur a (x.arr a))) hl
    refine ⟨hcur, fun b => ?_⟩
    rw [List.foldl_cons, harr b]
    by_cases hb : b = a
    · subst hb; simp [ha]
    · simp [hb, Pan.arr_setArr_ne _ _ hb]

theorem shapeArrays_nodup (shape : Nat) : (shapeArrays shape).Nodup := by
  unfold shapeArrays
  split
  · decide
  · split <;> decide

@[simp] theorem State.bump_pan (s : State) (w k n p : Nat) : (s.bump w k n).pan p = s.pan p := by rw [State.bump_eq]; rfl
@[simp] theorem State.bump32_pan (s : State) (k p : Nat) : (s.bump32 k).pan p = s.pan p := s.bump_pan 32 k 1 p
@[simp] theorem State.bump64_pan (s : State) (k p : Nat) : (s.bump64 k).pan p = s.pan p := s.bump_pan 64 k 1 p

/-! STATIONARY_LOAD and RIPPLE_LOAD -/

theorem State.loadedArr_cells (s : State) (o : Order) (pn a : Nat) (y : Arr) (m : FMap Cell) : (s.loadedArr o pn a y m).cells = m := rfl

/-- A load with its operands at hand writes the shadows (R67). -/
theorem exec_stationaryLoad (p : PanNo) (a : Fin 5) (s : State) (o : Order) (l : List Reg) (ho : s.panOrder p.val = some o)
    (hon : s.panOn (s.pan p.val) = true) (hr : s.ripples (s.pan p.val) a.val = false)
    (hfree : ((s.pan p.val).arr a.val).cells.all (fun c => !c.2.full) = true)
    (hload : s.loadOf o (o.feeder p.val) a.val ((s.pan p.val).arr a.val).next ((s.pan p.val).arr a.val).tag = some l) :
    exec (.stationaryLoad p a) s = .next (s.setPan p.val ((s.pan p.val).setArr a.val
      (s.loadedArr o p.val a.val ((s.pan p.val).arr a.val)
        (mapCells l.length ((s.pan p.val).arr a.val).cells (fun n c => { c with shd := l.getD n {}, full := true }))))) := by
  show execStationaryLoad p a s = _
  simp [execStationaryLoad, ho, hon, hr, hfree, hload]

/-- An array after a ripple load of the registers `l` (R73, R74). -/
def State.rippled (s : State) (o : Order) (pn a : Nat) (y : Arr) (l : List Reg) : Arr :=
  { s.loadedArr o pn a y (mapCells l.length y.cells (fun n c => { c with act := l.getD n {}, full := false, brine := 0 })) with
    rippleNext := false }

theorem State.rippled_cells (s : State) (o : Order) (pn a : Nat) (y : Arr) (l : List Reg) :
    (s.rippled o pn a y l).cells = mapCells l.length y.cells (fun n c => { c with act := l.getD n {}, full := false, brine := 0 }) := rfl

theorem State.rippleArray_some (s : State) (o : Order) (f : Feeder) (a : Nat) (x : Pan) (l : List Reg)
    (h : s.loadOf o f a (x.arr a).next (x.arr a).tag = some l) :
    s.rippleArray o f a x = some (x.setArr a (s.rippled o f.pan a (x.arr a) l)) := by
  simp [State.rippleArray, h, State.rippled]

/-- A ripple load whose operands are all at hand loads each array of the list, and no other. -/
theorem State.rippleArrays_some (s : State) (o : Order) (f : Feeder) (regs : Nat → List Reg) (l : List Nat) (x : Pan) (hl : l.Nodup)
    (h : ∀ a ∈ l, s.loadOf o f a (x.arr a).next (x.arr a).tag = some (regs a)) :
    ∃ y, s.rippleArrays o f l x = some y ∧ ∀ a ∈ l, y.arr a = s.rippled o f.pan a (x.arr a) (regs a) := by
  suffices hall : ∃ y, s.rippleArrays o f l x = some y ∧
      ∀ a, y.arr a = if a ∈ l then s.rippled o f.pan a (x.arr a) (regs a) else x.arr a by
    obtain ⟨y, hy, harr⟩ := hall
    exact ⟨y, hy, fun a ha => by rw [harr, if_pos ha]⟩
  induction l generalizing x with
  | nil => exact ⟨x, rfl, fun a => by simp⟩
  | cons a l ih =>
    obtain ⟨ha, hl⟩ := List.nodup_cons.1 hl
    have hstep := s.rippleArray_some o f a x (regs a) (h a List.mem_cons_self)
    have hne : ∀ b ∈ l, b ≠ a := fun b hb hba => ha (hba ▸ hb)
    obtain ⟨y, hy, harr⟩ := ih (x.setArr a (s.rippled o f.pan a (x.arr a) (regs a))) hl (fun b hb => by
      rw [Pan.arr_setArr_ne _ _ (hne b hb)]
      exact h b (List.mem_cons_of_mem _ hb))
    refine ⟨y, ?_, fun b => ?_⟩
    · rw [← hy]
      show l.foldl _ (s.rippleArray o f a x) = _
      rw [hstep]
      rfl
    · rw [harr]
      by_cases hb : b = a
      · subst hb; simp [ha]
      · simp [hb, Pan.arr_setArr_ne _ _ hb]

/-- A ripple load of the arrays that ripple, once the old pass has ended (R72). -/
theorem exec_rippleLoad (p : PanNo) (s : State) (o : Order) (pt : Part) (pl : Plan) (y : Pan) (ho : s.panOrder p.val = some o)
    (hon : s.panOn (s.pan p.val) = true) (hplan : s.planAt o p.val (s.pan p.val).cur = some (pt, pl))
    (hne : (shapeArrays pl.shape).filter (fun a => s.ripples (s.pan p.val) a) ≠ []) (hlevel : 2 ≤ (s.pan p.val).level)
    (hbeat : (s.pan p.val).cur.beat = 0) (hquiet : (s.pan p.val).quiet = true)
    (hturn : ∀ a ∈ (shapeArrays pl.shape).filter (fun a => s.ripples (s.pan p.val) a),
      ((s.pan p.val).arr a).loaded = ((s.pan p.val).arr a).pass ∧ ((s.pan p.val).arr a).next = (s.pan p.val).cur)
    (hy : s.rippleArrays o (o.feeder p.val) ((shapeArrays pl.shape).filter (fun a => s.ripples (s.pan p.val) a)) (s.pan p.val) = some y) :
    ∃ k, exec (.rippleLoad p) s = .next (((s.setPan p.val y).bump64 (okey 0x2D10 6)).bump 64 (okey 0x2D10 6) k) := by
  have hall : ((shapeArrays pl.shape).filter (fun a => s.ripples (s.pan p.val) a)).all (fun a =>
      ((s.pan p.val).arr a).loaded = ((s.pan p.val).arr a).pass && ((s.pan p.val).arr a).next == (s.pan p.val).cur) = true := by
    rw [List.all_eq_true]
    intro a ha
    simp [hturn a ha]
  have hempty : ((shapeArrays pl.shape).filter (fun a => s.ripples (s.pan p.val) a)).isEmpty = false := by simpa using hne
  refine ⟨((shapeArrays pl.shape).filter (fun a => s.ripples (s.pan p.val) a)).length - 1, ?_⟩
  show execRippleLoad p s = _
  unfold execRippleLoad
  simp only [ho, hplan, hon, hempty, hlevel, hbeat, hquiet, hall, hy, decide_true, Bool.not_false, Bool.and_self, if_true]

/-! What a fault keeps (R316) -/

@[simp] theorem State.disturb_fn (s : State) (n : Nat) : s.disturb.fn n = s.fn n := by unfold State.disturb; split <;> rfl
@[simp] theorem State.disturb_obj (s : State) (k : Nat) : s.disturb.obj k = s.obj k := by unfold State.disturb; split <;> rfl
@[simp] theorem State.disturb_pan (s : State) (p : Nat) : s.disturb.pan p = s.pan p := by unfold State.disturb; split <;> rfl
@[simp] theorem State.eventIf_fn (s : State) (b : Bool) (code n : Nat) : (s.eventIf b code).fn n = s.fn n := by cases b <;> rfl
@[simp] theorem State.eventIf_obj (s : State) (b : Bool) (code k : Nat) : (s.eventIf b code).obj k = s.obj k := by cases b <;> rfl
@[simp] theorem State.eventIf_pan (s : State) (b : Bool) (code p : Nat) : (s.eventIf b code).pan p = s.pan p := by cases b <;> rfl
@[simp] theorem State.bump_fn (s : State) (w k n i : Nat) : (s.bump w k n).fn i = s.fn i := by rw [State.bump_eq]; rfl
@[simp] theorem State.enterFn_fn (s : State) (n : Nat) (st tgt : FnState) (code : Nat) :
    ((s.enterFn n st tgt code).fn n).state = st := by simp [State.enterFn, State.bump32]
@[simp] theorem State.enterFn_pan (s : State) (n : Nat) (st tgt : FnState) (code p : Nat) : (s.enterFn n st tgt code).pan p = s.pan p := by
  simp [State.enterFn]
theorem State.enterFn_obj_ne (s : State) (n : Nat) (st tgt : FnState) (code k : Nat) (h : k ≠ fnKey n 5) :
    (s.enterFn n st tgt code).obj k = s.obj k := by
  rw [State.enterFn, State.bump32, State.bump_obj_ne _ _ _ _ _ h, State.setFn_obj]
@[simp] theorem State.logFault_fn (s : State) (e : LogEnt) (n : Nat) : (s.logFault e).fn n = s.fn n := by
  rw [State.logFault, State.bump32, State.bump_fn]; rfl
@[simp] theorem State.logFault_pan (s : State) (e : LogEnt) (p : Nat) : (s.logFault e).pan p = s.pan p := by
  rw [State.logFault, State.bump32_pan]; rfl
theorem State.logFault_obj_ne (s : State) (e : LogEnt) (k : Nat) (h : k ≠ okey 0x2E20 1) : (s.logFault e).obj k = s.obj k := by
  rw [State.logFault, State.bump32, State.bump_obj_ne _ _ _ _ _ h]; rfl
@[simp] theorem State.failOrders_fn (s : State) (p : Order → Bool) (code n : Nat) : (s.failOrders p code).fn n = s.fn n := rfl
@[simp] theorem State.failOrders_obj (s : State) (p : Order → Bool) (code k : Nat) : (s.failOrders p code).obj k = s.obj k := rfl
@[simp] theorem State.failOrders_pan (s : State) (p : Order → Bool) (code q : Nat) : (s.failOrders p code).pan q = s.pan q := rfl
@[simp] theorem State.stopPans_fn (s : State) (p : Nat → Pan → Bool) (cause n : Nat) : (s.stopPans p cause).fn n = s.fn n := rfl
@[simp] theorem State.stopPans_obj (s : State) (p : Nat → Pan → Bool) (cause k : Nat) : (s.stopPans p cause).obj k = s.obj k := rfl

/-- Stop requests reach every pan by what it is; on an unlisted pan they have no effect. -/
theorem State.stopPans_pan (s : State) (p : Nat → Pan → Bool) (cause q : Nat) :
    (s.stopPans p cause).pan q = if p q (s.pan q) then (s.pan q).request cause else s.pan q := by
  show FMap.get ({} : Pan) (s.pans.map _) q = _
  unfold State.pan
  induction s.pans with
  | nil => by_cases hp : p q (FMap.get {} [] q) = true <;> simp only [hp, if_true] <;> rfl
  | cons e t ih =>
    rw [List.map_cons, FMap.get_cons, FMap.get_cons, ih]
    by_cases he : e.1 = q
    · subst he
      by_cases hp : p e.1 e.2 = true <;> simp [hp]
    · have hkey : (if p e.1 e.2 = true then (e.1, e.2.request cause) else e).1 = e.1 := by split <;> rfl
      rw [hkey, if_neg he, if_neg he]

/-- A pan with no beats to give is not touched by a fault. -/
theorem State.fault_pan_of_not_active (s : State) (n code : Nat) (l : Loc) (q : Nat) (h : (s.pan q).active = false) :
    (s.fault n code l).pan q = s.pan q := by
  unfold State.fault
  dsimp only
  split
  · rw [State.stopPans_pan]
    simp [h]
  · simp

/-- The code of a fault stands in 2n00/04. -/
theorem State.fault_obj_code (s : State) (n code : Nat) (l : Loc) : (s.fault n code l).obj (fnKey n 4) = code := by
  have h5 : fnKey n 4 ≠ fnKey n 5 := by simp [fnKey, okey]
  have hlog : fnKey n 4 ≠ okey 0x2E20 1 := by unfold fnKey okey; omega
  unfold State.fault
  dsimp only
  split <;> simp [State.enterFn_obj_ne _ _ _ _ _ _ h5, State.logFault_obj_ne _ _ _ hlog]

/-- Beside its code a fault writes the count of transitions and that of the log. -/
theorem State.fault_obj_ne (s : State) (n code : Nat) (l : Loc) (k : Nat) (h4 : k ≠ fnKey n 4) (h5 : k ≠ fnKey n 5) (hlog : k ≠ okey 0x2E20 1) :
    (s.fault n code l).obj k = s.obj k := by
  unfold State.fault
  dsimp only
  split <;> simp [State.enterFn_obj_ne _ _ _ _ _ _ h5, State.logFault_obj_ne _ _ _ hlog, State.obj_setObj_ne _ _ _ _ h4]

/-- A fault takes a Running function that is not permanent to Faulted. -/
theorem State.fault_fn_of_running (s : State) (n code : Nat) (l : Loc) (hp : isPermanent n = false) (hr : (s.fn n).state = .running) :
    ((s.fault n code l).fn n).state = .faulted := by
  unfold State.fault
  simp [hp, hr]

/-! BEAT -/

/-- A beat at a cell whose slot is not empty is consumed. -/
theorem exec_beat_consume (p : PanNo) (a : Fin 5) (n : Fin 256) (s : State) (o : Order) (ho : s.panOrder p.val = some o)
    (hon : s.panOn (s.pan p.val) = true) (hslot : (FMap.get {} ((s.pan p.val).arr a.val).cells n.val).slot ≠ []) :
    exec (.beat p a n) s = .next (s.consume o p.val a.val n.val) := by
  show execBeat p a n s = _
  unfold execBeat
  simp only [ho, hon, List.isEmpty_eq_false_iff.2 hslot, Bool.not_true, Bool.false_eq_true, if_false]

/-- At a cell with an empty slot the feeder gives a beat, which is consumed, or nothing beyond a Held stream's notice is done. -/
theorem exec_beat_feed (p : PanNo) (a : Fin 5) (n : Fin 256) (s : State) (o : Order) (ho : s.panOrder p.val = some o)
    (hon : s.panOn (s.pan p.val) = true) (hslot : (FMap.get {} ((s.pan p.val).arr a.val).cells n.val).slot = []) :
    exec (.beat p a n) s = .next ((s.beatFor o p.val a.val n.val).elim (s.starve o p.val)
      (fun x => (s.setPan p.val x).consume o p.val a.val n.val)) := by
  show execBeat p a n s = _
  unfold execBeat
  simp only [ho, hon, hslot]
  cases s.beatFor o p.val a.val n.val <;> rfl

/-- A beat whose tag is of neither register of its cell is fault 0x0D20 (R68). -/
theorem State.consume_mismatch (s : State) (o : Order) (pn a n : Nat) (b : Beat) (rest : List Beat) (pt : Part) (pl : Plan)
    (hslot : (FMap.get {} ((s.pan pn).arr a).cells n).slot = b :: rest) (hend : (FMap.get {} ((s.pan pn).arr a).cells n).ended = false)
    (hplan : s.planAt o pn b.at_ = some (pt, pl)) (hswap : (FMap.get {} ((s.pan pn).arr a).cells n).swap b = none) :
    s.consume o pn a n = s.tagMismatch o pn a := by
  unfold State.consume
  simp only [hslot, hend, hplan, hswap]
  rfl

/-- A cell after it has consumed a beat, its registers being those of `c`. -/
def State.afterBeat (s : State) (o : Order) (pt : Part) (pl : Plan) (a n : Nat) (b : Beat) (rest : List Beat) (c : Cell) : Cell :=
  ({ c with anchor := b.anchor, slot := rest, ended := b.last, at_ := b.at_ } : Cell).add pl
    (decide (pl.redAt b.at_ + b.k < pl.red0 + pl.k))
    (s.formed o pl (pl.outAt pt a n b.at_).1 (pl.outAt pt a n b.at_).2 && !(pl.toWindrow && s.flakeAt pl (pl.outAt pt a n b.at_).1 0))
    (c.act.vals.getD b.k 0) b.m

/-- A beat whose tag is that of the active register, or of the shadow, changes its cell, and nothing else of the array. -/
theorem State.consume_swap (s : State) (o : Order) (pn a n : Nat) (b : Beat) (rest : List Beat) (pt : Part) (pl : Plan) (c : Cell)
    (hslot : (FMap.get {} ((s.pan pn).arr a).cells n).slot = b :: rest) (hend : (FMap.get {} ((s.pan pn).arr a).cells n).ended = false)
    (hplan : s.planAt o pn b.at_ = some (pt, pl)) (hswap : (FMap.get {} ((s.pan pn).arr a).cells n).swap b = some c) :
    (s.consume o pn a n).mem = s.mem ∧ (s.consume o pn a n).fns = s.fns ∧
    FMap.get {} (((s.consume o pn a n).pan pn).arr a).cells n = s.afterBeat o pt pl a n b rest c ∧
    ∀ m, m ≠ n → FMap.get {} (((s.consume o pn a n).pan pn).arr a).cells m = FMap.get ({} : Cell) ((s.pan pn).arr a).cells m := by
  have ht : s.consume o pn a n = s.setPan pn ((s.pan pn).setArr a { (s.pan pn).arr a with
      cells := FMap.put {} ((s.pan pn).arr a).cells n (s.afterBeat o pt pl a n b rest c) }) := by
    unfold State.consume
    simp only [hslot, hend, hplan, hswap]
    rfl
  rw [ht, State.pan_setPan, Pan.arr_setArr]
  exact ⟨rfl, rfl, FMap.get_put_self .., fun m hm => FMap.get_put_ne _ _ _ hm⟩

/-- A swap changes the registers alone. -/
theorem Cell.swap_keeps {c d : Cell} {b : Beat} (h : c.swap b = some d) : d.brine = c.brine ∧ d.nonfin = c.nonfin := by
  unfold Cell.swap at h
  split at h
  · cases h
    exact ⟨rfl, rfl⟩
  · split at h <;> cases h
    exact ⟨rfl, rfl⟩

/-- The tag mismatch stops its pan, counts in 2D10/05 and faults function D (R68, R93). -/
theorem State.tagMismatch_effect (s : State) (o : Order) (pn a : Nat) :
    ((s.tagMismatch o pn a).pan pn).state = .stopped ∧ ((s.tagMismatch o pn a).pan pn).stopCause = causeFault ∧
    (s.tagMismatch o pn a).obj (okey 0x2D10 5) = satAdd 32 (s.obj (okey 0x2D10 5)) 1 ∧ (s.tagMismatch o pn a).obj (fnKey 13 4) = 0x0D20 ∧
    ((s.fn 13).state = .running → ((s.tagMismatch o pn a).fn 13).state = .faulted) := by
  let y := { (s.pan pn).clear.setArr a { (s.pan pn).clear.arr a with rippleNext := true } with
    job := (s.pan pn).job, state := .stopped, stopCause := causeFault }
  let u := (s.setPan pn y).bump32 (okey 0x2D10 5)
  have hu : s.tagMismatch o pn a = u.fault 13 0x0D20 { kind := 1, num := pn, slot := o.slot, ring := o.ring } := rfl
  have hpan : u.pan pn = y := by rw [State.bump32_pan, State.pan_setPan]
  have hstay : (s.tagMismatch o pn a).pan pn = y := by
    rw [hu, State.fault_pan_of_not_active _ _ _ _ _ (by rw [hpan]; rfl), hpan]
  refine ⟨by rw [hstay], by rw [hstay], ?_, State.fault_obj_code .., fun hr => ?_⟩
  · rw [hu, State.fault_obj_ne _ _ _ _ _ (by decide) (by decide) (by decide)]
    exact State.bump_obj (s.setPan pn y) 32 _ 1 Nat.one_ne_zero
  · rw [hu]
    exact State.fault_fn_of_running _ _ _ _ rfl ((congrArg FnRec.state ((s.setPan pn y).bump_fn 32 (okey 0x2D10 5) 1 13)).trans hr)

/-- The pass that follows begins at beat 0 (R97). -/
theorem State.nextPass_beat (s : State) (o : Order) (u n : Nat) (c : Cursor) (pt : Part) (h : s.partAt o u n c.part = some pt) :
    (s.nextPass o u n c).beat = 0 := by
  have hstart : ∀ k, (s.startOf o u n k).beat = 0 := by
    intro k
    unfold State.startOf
    dsimp only
    split <;> rfl
  unfold State.nextPass
  simp only [h]
  split
  · rfl
  · split
    · rfl
    · split
      · rfl
      · exact hstart _

/-- What a lane of an array needs to take a beat, beside the anchor that it carries on: a register loaded for the pass, room in
every slot of the lane, the chunk and the tile at hand (R69, R70). -/
structure State.LaneReady (s : State) (f : Feeder) (pt : Part) (p : Plan) (a lane : Nat) (c : Cursor) (pass : Nat) (y : Arr) : Prop where
  loaded : pass < y.loaded
  room : ∀ n < shapeCells p.shape, laneOf p.shape n = lane → (FMap.get ({} : Cell) y.cells n).slot.length < 4
  chunk : ∀ old, (s.beatAnchor f pt p a c old).isSome = true
  tile : (s.beatOf f p ((p.blockAt pt c).1 + (cellPlace p.shape a (laneHead p.shape lane)).1)
    ((p.blockAt pt c).2 + (cellPlace p.shape a (laneHead p.shape lane)).2) (p.redAt c + c.beat)).isSome = true

/-- Whether the chunk is at hand does not depend on the anchor carried on (R54). -/
theorem State.beatAnchor_isSome (s : State) (f : Feeder) (pt : Part) (p : Plan) (a : Nat) (c : Cursor) (old new : Int)
    (h : (s.beatAnchor f pt p a c old).isSome = true) : (s.beatAnchor f pt p a c new).isSome = true := by
  unfold State.beatAnchor at h ⊢
  by_cases hwin : (!p.win) = true
  · rw [if_pos hwin]
    rfl
  · by_cases hfirst : c.pass = 0 ∧ c.beat = 0
    · rw [if_neg hwin, if_pos hfirst] at h ⊢
      exact h
    · rw [if_neg hwin, if_neg hfirst]
      rfl

theorem State.laneReady_of_isSome (s : State) (f : Feeder) (pt : Part) (p : Plan) (a lane : Nat) (l : Lag) (y : Arr)
    (h : (s.laneBeat f pt p a lane l y).isSome = true) : s.LaneReady f pt p a lane l.cur l.pass y := by
  unfold State.laneBeat at h
  dsimp only at h
  split at h
  · exact absurd h (by simp)
  · next hc =>
    simp only [Bool.not_eq_true', Bool.not_eq_false, Bool.and_eq_true, decide_eq_true_eq, List.all_eq_true, List.mem_range,
      Bool.or_eq_true, decide_eq_false_iff_not] at hc
    split at h
    · next an m han hm =>
      refine ⟨hc.1, fun n hn hl => (hc.2 n hn).resolve_left (Decidable.not_not.2 hl), fun old => ?_, Option.isSome_iff_exists.2 ⟨m, hm⟩⟩
      exact s.beatAnchor_isSome f pt p a l.cur _ old (Option.isSome_iff_exists.2 ⟨an, han⟩)
    · exact absurd h (by simp)

/-- The beat of code m that a lane takes at its place, under the tag of its array's pass (R63). -/
def Plan.beatAt (p : Plan) (l : Lag) (y : Arr) (m : Nat) (an : Int) : Beat :=
  { tag := y.tagOf l.pass, k := l.cur.beat, m := m, last := l.cur.beat = 15 && l.cur.pass + 1 = p.passes l.cur.chunk,
    anchor := an, at_ := { l.cur with beat := 0 } }

/-- The slots of a lane's cells take a beat. -/
def Arr.pushLane (y : Arr) (shape lane : Nat) (b : Beat) : Arr :=
  { y with cells := mapCells (shapeCells shape) y.cells (fun n d => if laneOf shape n = lane then { d with slot := d.slot ++ [b] } else d) }

theorem State.laneBeat_of_ready (s : State) (f : Feeder) (pt : Part) (p : Plan) (a lane : Nat) (l : Lag) (y : Arr)
    (h : s.LaneReady f pt p a lane l.cur l.pass y) :
    ∃ b an, s.laneBeat f pt p a lane l y = some (y.pushLane p.shape lane b, an) ∧ b.k = l.cur.beat ∧ b.tag = y.tagOf l.pass := by
  obtain ⟨an, han⟩ := Option.isSome_iff_exists.1 (h.chunk l.anchor)
  obtain ⟨m, hm⟩ := Option.isSome_iff_exists.1 h.tile
  have hroom : (List.range (shapeCells p.shape)).all (fun n =>
      !(decide (laneOf p.shape n = lane)) || decide ((FMap.get ({} : Cell) y.cells n).slot.length < 4)) = true := by
    simp only [List.all_eq_true, List.mem_range, Bool.or_eq_true, Bool.not_eq_true', decide_eq_false_iff_not, decide_eq_true_eq]
    exact fun n hn => Decidable.or_iff_not_imp_left.2 (fun hl => h.room n hn (Decidable.not_not.1 hl))
  refine ⟨p.beatAt l y m an, an, ?_, rfl, rfl⟩
  unfold State.laneBeat
  simp only [h.loaded, hroom, han, hm, decide_true, Bool.and_self, Bool.not_true, Bool.false_eq_true, if_false, Arr.pushLane, decide_eq_true_eq]
  rfl

/-- One lane's part in a beat of the broadcast: it takes the beat, or lags behind from here (R70). -/
def State.castLane (s : State) (f : Feeder) (pt : Part) (p : Plan) (c : Cursor) (a : Nat) (y : Arr) (lane : Nat) : Arr :=
  if (FMap.get none y.lag lane).isSome then y
  else match s.laneBeat f pt p a lane { cur := c, pass := y.pass, anchor := y.anchor } y with
    | some (y', an) => { y' with anchor := an }
    | none => { y with lag := FMap.put none y.lag lane (some { cur := c, pass := y.pass, anchor := y.anchor }) }

theorem State.arrayBeat_eq (s : State) (f : Feeder) (pt : Part) (p : Plan) (c : Cursor) (a : Nat) (y : Arr) :
    s.arrayBeat f pt p c a y = (List.range (laneCount p.shape)).foldl (s.castLane f pt p c a) y := by
  unfold State.arrayBeat
  congr 1

/-- Two stages of an array between which a lane has taken no beat. -/
structure Arr.SameLane (shape lane : Nat) (y z : Arr) : Prop where
  pass : z.pass = y.pass
  loaded : z.loaded = y.loaded
  tag : z.tag = y.tag
  lag : FMap.get none z.lag lane = FMap.get none y.lag lane
  cells : ∀ n < shapeCells shape, laneOf shape n = lane → FMap.get ({} : Cell) z.cells n = FMap.get {} y.cells n

theorem Arr.SameLane.refl (shape lane : Nat) (y : Arr) : y.SameLane shape lane y := ⟨rfl, rfl, rfl, rfl, fun _ _ _ => rfl⟩

theorem Arr.SameLane.trans {shape lane : Nat} {x y z : Arr} (h : x.SameLane shape lane y) (k : y.SameLane shape lane z) : x.SameLane shape lane z :=
  ⟨k.pass.trans h.pass, k.loaded.trans h.loaded, k.tag.trans h.tag, k.lag.trans h.lag, fun n hn hl => (k.cells n hn hl).trans (h.cells n hn hl)⟩

/-- A lane that is ready stays ready while other lanes take their beats. -/
theorem State.LaneReady.of_sameLane {s : State} {f : Feeder} {pt : Part} {p : Plan} {a lane pass : Nat} {c : Cursor} {y z : Arr}
    (h : s.LaneReady f pt p a lane c pass y) (k : y.SameLane p.shape lane z) : s.LaneReady f pt p a lane c pass z :=
  ⟨k.loaded ▸ h.loaded, fun n hn hl => by rw [k.cells n hn hl]; exact h.room n hn hl, h.chunk, h.tile⟩

/-- A lane's beat leaves every other lane. -/
theorem State.castLane_sameLane (s : State) (f : Feeder) (pt : Part) (p : Plan) (c : Cursor) (a : Nat) (y : Arr) {lane other : Nat}
    (h : lane ≠ other) : y.SameLane p.shape lane (s.castLane f pt p c a y other) := by
  unfold State.castLane
  split
  · exact .refl ..
  · cases hb : s.laneBeat f pt p a other { cur := c, pass := y.pass, anchor := y.anchor } y with
    | none =>
      dsimp only
      refine ⟨rfl, rfl, rfl, ?_, fun _ _ _ => rfl⟩
      exact FMap.get_put_ne none y.lag (some { cur := c, pass := y.pass, anchor := y.anchor }) h
    | some r =>
      have hready := s.laneReady_of_isSome f pt p a other _ y (by rw [hb]; rfl)
      obtain ⟨b, an, hpush, -, -⟩ := s.laneBeat_of_ready f pt p a other _ y hready
      obtain rfl := Option.some.inj (hb.symm.trans hpush)
      refine ⟨rfl, rfl, rfl, rfl, fun n hn hl => ?_⟩
      show FMap.get {} (mapCells _ _ _) n = _
      rw [get_mapCells _ _ hn, if_neg (by rw [hl]; exact h)]

theorem State.foldl_castLane_sameLane (s : State) (f : Feeder) (pt : Part) (p : Plan) (c : Cursor) (a lane : Nat) (l : List Nat) (y : Arr)
    (h : lane ∉ l) : y.SameLane p.shape lane (l.foldl (s.castLane f pt p c a) y) := by
  induction l generalizing y with
  | nil => exact .refl ..
  | cons k l ih =>
    obtain ⟨hk, hl⟩ := not_or.1 (fun hm => h (List.mem_cons.2 hm))
    exact (s.castLane_sameLane f pt p c a y hk).trans (ih _ hl)

/-- A lane that does not lag and is ready takes the beat of the broadcast into the slots of its cells. -/
theorem State.arrayBeat_ready (s : State) (f : Feeder) (pt : Part) (p : Plan) (c : Cursor) (a n : Nat) (y : Arr) (hn : n < shapeCells p.shape)
    (hlane : laneOf p.shape n < laneCount p.shape) (hlag : y.lag = []) (h : s.LaneReady f pt p a (laneOf p.shape n) c y.pass y) :
    ∃ b, (FMap.get ({} : Cell) (s.arrayBeat f pt p c a y).cells n).slot = (FMap.get ({} : Cell) y.cells n).slot ++ [b] ∧
      b.k = c.beat ∧ b.tag = y.tagOf y.pass := by
  obtain ⟨l1, l2, hl⟩ := List.append_of_mem (List.mem_range.2 hlane)
  have hrange : (l1 ++ laneOf p.shape n :: l2).Nodup := hl ▸ List.nodup_range
  obtain ⟨-, hnd, hdisj⟩ := List.nodup_append.1 hrange
  have h1 : laneOf p.shape n ∉ l1 := fun hm => hdisj _ hm _ List.mem_cons_self rfl
  have h2 : laneOf p.shape n ∉ l2 := (List.nodup_cons.1 hnd).1
  let y1 := l1.foldl (s.castLane f pt p c a) y
  have hs1 : y.SameLane p.shape (laneOf p.shape n) y1 := s.foldl_castLane_sameLane f pt p c a _ l1 y h1
  have hready : s.LaneReady f pt p a (laneOf p.shape n) c y1.pass y1 := by rw [hs1.pass]; exact h.of_sameLane hs1
  obtain ⟨b, an, hpush, hk, htag⟩ := s.laneBeat_of_ready f pt p a (laneOf p.shape n) { cur := c, pass := y1.pass, anchor := y1.anchor } y1 hready
  have hcast : s.castLane f pt p c a y1 (laneOf p.shape n) = { y1.pushLane p.shape (laneOf p.shape n) b with anchor := an } := by
    rw [State.castLane, if_neg (by rw [hs1.lag, hlag]; simp), hpush]
  have hs2 := s.foldl_castLane_sameLane f pt p c a (laneOf p.shape n) l2 (s.castLane f pt p c a y1 (laneOf p.shape n)) h2
  refine ⟨b, ?_, hk, ?_⟩
  · rw [State.arrayBeat_eq, hl, List.foldl_append, List.foldl_cons, hs2.cells n hn rfl, hcast]
    show (FMap.get ({} : Cell) (mapCells _ _ _) n).slot = _
    rw [get_mapCells _ _ hn, if_pos rfl, ← hs1.cells n hn rfl]
  · rw [htag]
    show (y1.tag + 256 - (y1.loaded - y1.pass) % 256) % 256 = _
    rw [hs1.tag, hs1.loaded, hs1.pass]
    rfl

theorem laneOf_lt_laneCount (shape n : Nat) (h : n < 256) : laneOf shape n < laneCount shape := by
  unfold laneOf laneCount
  split
  · omega
  · split <;> omega

/-- The broadcast moves on to its next beat, or to the first of the next pass. -/
theorem State.issueBeat_some (s : State) (o : Order) (pn a n : Nat) (y : Pan) (pt : Part) (pl : Plan)
    (hplan : s.planAt o pn (s.pan pn).cur = some (pt, pl)) (h : s.issueBeat o pn a n = some y) :
    a ∈ shapeArrays pl.shape ∧
    s.LaneReady (o.feeder pn) pt pl a (laneOf pl.shape n) (s.pan pn).cur ((s.pan pn).arr a).pass ((s.pan pn).arr a) ∧
    (y.arr a).cells = (s.arrayBeat (o.feeder pn) pt pl (s.pan pn).cur a ((s.pan pn).arr a)).cells ∧
    y.cur = (if (s.pan pn).cur.beat < 15 then { (s.pan pn).cur with beat := (s.pan pn).cur.beat + 1 }
      else s.nextPass o (o.place pn) o.pans (s.pan pn).cur) := by
  have hnd := shapeArrays_nodup pl.shape
  obtain ⟨hcur, harr⟩ := Pan.foldl_setArr (fun c b z => s.arrayBeat (o.feeder pn) pt pl c b z) (shapeArrays pl.shape) (s.pan pn) hnd
  unfold State.issueBeat at h
  simp only [hplan] at h
  split at h
  · exact absurd h (by simp)
  · next hc =>
    simp only [Bool.or_eq_true, Bool.not_eq_true', Bool.and_eq_true, List.contains_iff_mem, not_or, Bool.not_eq_false,
      Option.isNone_iff_eq_none] at hc
    obtain ⟨⟨⟨-, ha⟩, -⟩, hready⟩ := hc
    refine ⟨ha, s.laneReady_of_isSome _ _ _ _ _ _ _ (Option.isSome_iff_ne_none.2 hready), ?_⟩
    rw [hcur] at h
    split at h
    · next hb =>
      obtain rfl := Option.some.inj h
      refine ⟨?_, by rw [if_pos hb]⟩
      exact congrArg Arr.cells ((harr a).trans (if_pos ha))
    · next hb =>
      obtain rfl := Option.some.inj h
      refine ⟨?_, by rw [if_neg hb]⟩
      let z := (shapeArrays pl.shape).foldl (fun x b => x.setArr b (s.arrayBeat (o.feeder pn) pt pl x.cur b (x.arr b))) (s.pan pn)
      obtain ⟨-, harr'⟩ := Pan.foldl_setArr (fun _ _ y => { y with pass := y.pass + 1 }) (shapeArrays pl.shape) z hnd
      have hpass := congrArg Arr.cells ((harr' a).trans (if_pos ha))
      have hbeat := congrArg Arr.cells ((harr a).trans (if_pos ha))
      exact hpass.trans hbeat

/-- A broadcast beat: the place moves on by one beat, and the beat stands in the empty slot of the cell. -/
theorem State.issueBeat_gives (s : State) (o : Order) (pn a n : Nat) (y : Pan) (pt : Part) (pl : Plan) (hn : n < 256)
    (hplan : s.planAt o pn (s.pan pn).cur = some (pt, pl)) (hlag : ((s.pan pn).arr a).lag = []) (hcell : n < shapeCells pl.shape)
    (hbeat : (s.pan pn).cur.beat < 16) (hslot : (FMap.get ({} : Cell) ((s.pan pn).arr a).cells n).slot = [])
    (h : s.issueBeat o pn a n = some y) :
    y.cur.beat = ((s.pan pn).cur.beat + 1) % 16 ∧
    ∃ b, (FMap.get ({} : Cell) (y.arr a).cells n).slot = [b] ∧ b.k = (s.pan pn).cur.beat ∧
      b.tag = ((s.pan pn).arr a).tagOf ((s.pan pn).arr a).pass := by
  obtain ⟨-, hready, hcells, hcur⟩ := s.issueBeat_some o pn a n y pt pl hplan h
  constructor
  · rw [hcur]
    split
    · next hb => exact (Nat.mod_eq_of_lt (show (s.pan pn).cur.beat + 1 < 16 by omega)).symm
    · next hb =>
      obtain ⟨part, hpart, -⟩ := Option.map_eq_some_iff.1 hplan
      rw [State.nextPass_beat _ _ _ _ _ _ hpart, show (s.pan pn).cur.beat = 15 by omega]
  · obtain ⟨b, hb, hk, htag⟩ := s.arrayBeat_ready _ pt pl _ a n _ hcell (laneOf_lt_laneCount _ _ hn) hlag hready
    exact ⟨b, by rw [hcells, hb, hslot, List.nil_append], hk, htag⟩

/-- Where no lane of an array lags, the feeder's next beat for its cells is the broadcast's. -/
theorem State.beatFor_of_lag_nil (s : State) (o : Order) (pn a n : Nat) (h : ((s.pan pn).arr a).lag = []) :
    s.beatFor o pn a n = s.issueBeat o pn a n := by
  have hlag : s.lagOf o pn a n = none := by rw [State.lagOf, h]; rfl
  rw [State.beatFor, hlag]

/-- On the thin path the beat brings the stationary element (R77). -/
theorem Plan.units_eq (p : Plan) (w : Int) (reg beat : Nat) :
    p.units w (reg, beat) =
      if p.shape = 5 then productUnits p.st.fmt p.mv.fmt beat reg w else productUnits p.st.fmt p.mv.fmt reg beat w := by
  unfold Plan.units Plan.sides
  by_cases hs : p.shape = 5 <;> simp only [hs, if_true, if_false]

/-- What a cell keeps and what it takes when it consumes a beat (R31, R33, R60). -/
theorem State.afterBeat_eq (s : State) (o : Order) (pt : Part) (pl : Plan) (a n : Nat) (b : Beat) (rest : List Beat) (c : Cell) :
    let w : Int := if pl.win then b.anchor - 49 else pl.w
    let u := pl.units w (c.act.vals.getD b.k 0, b.m)
    let forms : Bool := s.formed o pl (pl.outAt pt a n b.at_).1 (pl.outAt pt a n b.at_).2 &&
      !(pl.toWindrow && s.flakeAt pl (pl.outAt pt a n b.at_).1 0)
    let d := s.afterBeat o pt pl a n b rest c
    d.slot = rest ∧ d.ended = b.last ∧ d.act = c.act ∧ d.shd = c.shd ∧ d.full = c.full ∧
    d.brine = (if forms then c.brine + BitVec.ofInt 64 (u.getD 0) else c.brine) ∧ d.nonfin = (c.nonfin || (forms && u.isNone)) := by
  intro w u forms d
  have hd := Cell.add_eq ({ c with anchor := b.anchor, slot := rest, ended := b.last, at_ := b.at_ } : Cell) pl
    (decide (pl.redAt b.at_ + b.k < pl.red0 + pl.k)) forms (c.act.vals.getD b.k 0) b.m
  change d = _ at hd
  rw [hd]
  exact ⟨rfl, rfl, rfl, rfl, rfl, rfl, rfl⟩

/-- Settles O46, command by command: `exec_stationaryLoad`, `exec_rippleLoad`, `exec_beat_consume` and `exec_beat_feed`. -/
theorem pansLoadAndCompute : Obligations.PansLoadAndCompute := by
  unfold Obligations.PansLoadAndCompute
  intro p o s ho hon cell x f
  refine ⟨?load, ?ripple, ?consume, ?feed⟩
  case load =>
    intro a l hr hfree hload
    refine ⟨_, exec_stationaryLoad p a s o l ho hon hr hfree hload, rfl, ?_⟩
    rw [State.pan_setPan, Pan.arr_setArr]
    refine ⟨rfl, rfl, fun n hn => ?_, fun q hq => State.pan_setPan_ne _ _ _ _ hq, fun b hb => Pan.arr_setArr_ne _ _ hb⟩
    show FMap.get {} ((State.pan _ _).arr _).cells n = _
    rw [State.pan_setPan, Pan.arr_setArr, State.loadedArr_cells, get_mapCells _ _ hn]
  case ripple =>
    intro pt pl regs hplan l hne hlevel hbeat hquiet hturn
    have hnd : l.Nodup := (shapeArrays_nodup pl.shape).filter _
    obtain ⟨y, hy, harr⟩ := s.rippleArrays_some o f regs l x hnd (fun a ha => (hturn a ha).2.2)
    obtain ⟨k, hexec⟩ := exec_rippleLoad p s o pt pl y ho hon hplan hne hlevel hbeat hquiet
      (fun a ha => ⟨(hturn a ha).1, (hturn a ha).2.1⟩) hy
    refine ⟨_, hexec, ?_, fun q hq => ?_, fun a ha => ?_⟩
    · rw [State.bump_mem, State.bump64_mem, State.setPan_mem]
    · rw [State.bump_pan, State.bump64_pan, State.pan_setPan_ne _ _ _ _ hq]
    · have hpan : (((s.setPan p.val y).bump64 (okey 0x2D10 6)).bump 64 (okey 0x2D10 6) k).pan p.val = y := by
        rw [State.bump_pan, State.bump64_pan, State.pan_setPan]
      rw [hpan, harr a ha]
      refine ⟨rfl, rfl, fun n hn => ?_⟩
      show FMap.get {} ((State.pan _ _).arr _).cells n = _
      rw [hpan, harr a ha, State.rippled_cells, get_mapCells _ _ hn]
  case consume =>
    intro a n b rest pt pl hslot hend hplan
    have hexec := exec_beat_consume p a n s o ho hon (by
      show (cell s a.val n.val).slot ≠ []
      rw [hslot]
      exact List.cons_ne_nil _ _)
    refine ⟨fun hswap => ?_, fun c hswap => ?_⟩
    · rw [State.consume_mismatch s o p.val a.val n.val b rest pt pl hslot hend hplan hswap] at hexec
      exact ⟨_, hexec, s.tagMismatch_effect o p.val a.val⟩
    · intro r w u i forms
      obtain ⟨hmem, hfns, hcell, hothers⟩ := State.consume_swap s o p.val a.val n.val b rest pt pl c hslot hend hplan hswap
      obtain ⟨hslot', hend', hact, hshd, hfull, hbrine, hnonfin⟩ := s.afterBeat_eq o pt pl a.val n.val b rest c
      obtain ⟨hb0, hn0⟩ := Cell.swap_keeps hswap
      have hu : pl.units w (r, b.m) = u := pl.units_eq w r b.m
      change _ = (if forms then c.brine + BitVec.ofInt 64 ((pl.units w (r, b.m)).getD 0) else c.brine) at hbrine
      change _ = (c.nonfin || (forms && (pl.units w (r, b.m)).isNone)) at hnonfin
      rw [hu, hb0] at hbrine
      rw [hu, hn0] at hnonfin
      refine ⟨_, hexec, hmem, hfns, hothers, ?_⟩
      rw [show cell (s.consume o p.val a.val n.val) a.val n.val = _ from hcell]
      refine ⟨hslot', hend', hact, hshd, hfull, ?_, hnonfin⟩
      rw [hbrine]
      cases forms
      · rfl
      · cases u
        · exact BitVec.add_zero _
        · rfl
  case feed =>
    intro a n hslot
    have hexec := exec_beat_feed p a n s o ho hon hslot
    refine ⟨fun hnone hheld => ?_, fun y pt pl hplan hlag hcell hbeat hissue => ?_⟩
    · rw [hexec, hnone]
      have : s.starve o p.val = s := if_neg (by simp [show s.heldFor p.val (s.pan p.val) = false from hheld])
      rw [Option.elim_none, this]
    · rw [hexec, s.beatFor_of_lag_nil o p.val a.val n.val (hlag a.val), hissue]
      exact ⟨rfl, s.issueBeat_gives o p.val a.val n.val y pt pl n.isLt hplan (hlag a.val) hcell hbeat hslot hissue⟩

end Sys2Proof.Machine
end

section
/-! The test stop and the test resume (R92): the write of a hub mask to 2D90, and the pans that it reaches. -/

namespace Sys2Proof

/-- A value changed in place reads as changed, where neither the key's value nor an unlisted one becomes unlisted by it. -/
theorem FMap.get_mapv {α : Type} [DecidableEq α] (d : α) (m : FMap α) (f : Nat → α → α) (i : Nat) (hd : f i d = d)
    (h : f i (FMap.get d m i) ≠ d) : FMap.get d (FMap.mapv d m f) i = f i (FMap.get d m i) := by
  induction m with
  | nil => exact hd.symm
  | cons e t ih =>
    obtain ⟨k, v⟩ := e
    have hcons : FMap.mapv d ((k, v) :: t) f = if f k v = d then FMap.mapv d t f else (k, f k v) :: FMap.mapv d t f := by
      by_cases hv : f k v = d <;> simp [FMap.mapv, hv]
    rw [FMap.get_cons] at h ⊢
    rw [hcons]
    by_cases hk : k = i
    · subst hk
      simp only [if_true] at h ⊢
      rw [if_neg h, FMap.get_cons, if_pos rfl]
    · simp only [hk, if_false] at h ⊢
      split
      · exact ih h
      · rw [FMap.get_cons, if_neg hk]
        exact ih h

end Sys2Proof

namespace Sys2Proof.Machine

@[simp] theorem length_leBytes (n x : Nat) : (leBytes n x).length = n := by
  induction n generalizing x with
  | zero => rfl
  | succ n ih => simp [leBytes, ih]

/-- The bytes of a number, read again, are the number in their width. -/
theorem leNat_leBytes (n x : Nat) : leNat (leBytes n x) = x % 256 ^ n := by
  induction n generalizing x with
  | zero => simp [leBytes, leNat, Nat.mod_one]
  | succ n ih =>
    have hpow : 256 ^ (n + 1) = 256 * 256 ^ n := Nat.pow_succ'
    simp only [leBytes, leNat, ih, BitVec.toNat_ofNat, hpow, Nat.mod_mul, Nat.reducePow]

@[simp] theorem State.answer_pans (s : State) (cl : Nat) (a : Answer) : (s.answer cl a).pans = s.pans := by rw [State.answer_eq]
@[simp] theorem State.asked_pans (s : State) (cl i j : Nat) (data : List Byte) : (s.asked cl i j data).pans = s.pans := by
  rw [State.asked_eq]
@[simp] theorem State.answer_pan (s : State) (cl : Nat) (a : Answer) (p : Nat) : (s.answer cl a).pan p = s.pan p := by
  rw [State.answer_eq]
  rfl
@[simp] theorem State.asked_pan (s : State) (cl i j : Nat) (data : List Byte) (p : Nat) : (s.asked cl i j data).pan p = s.pan p := by
  rw [State.asked_eq]
  rfl
@[simp] theorem State.asked_hubs (s : State) (cl i j : Nat) (data : List Byte) : (s.asked cl i j data).hubs = s.hubs := by
  rw [State.asked_eq]

/-- The last thing sent is the answer. -/
theorem State.answer_said (s : State) (cl : Nat) (a : Answer) : (s.answer cl a).said cl a := by
  rw [State.answer_eq]
  rfl

/-- The test stop and test resume masks are 64-bit objects of level Expert (R92). -/
theorem objRow_hubMask (j : Nat) (hj : j = 2 ∨ j = 3) : objRow 0x2D90 j = some ⟨0x2D90, j, .u64, .rw, .expert, 0, false⟩ := by
  obtain rfl | rfl := hj <;> decide +kernel

/-- Every mask may be written: neither a range nor an alignment is asked of it. -/
theorem State.hubMask_valid (s : State) (j v : Nat) (hj : j = 2 ∨ j = 3) :
    (s.valueBad ⟨0x2D90, j, .u64, .rw, .expert, 0, false⟩ 0x2D90 j v).or (s.codeBad (canonKey 0x2D90 j) 0x2D90 v) = none := by
  obtain rfl | rfl := hj <;>
    simp [State.valueBad, State.codeBad, canonKey, canonIndex, okey, ranges, alignments, FMap.get, Nat.mod_one]

/-- A write of a hub mask to 2D90 by an Expert session, outside Quiesced, has its own effect and then its answer. -/
theorem State.write_hubMask (s : State) (cl j : Nat) (mask : BitVec 64) (y : State × Answer) (hj : j = 2 ∨ j = 3) (hs : s.serves cl 2)
    (hq : s.cfg.snap.state ≠ 2)
    (hy : (s.asked cl 0x2D90 j (leBytes 8 mask.toNat)).writeSpecial cl ((s.asked cl 0x2D90 j (leBytes 8 mask.toNat)).privOf cl)
      (canonKey 0x2D90 j) 0x2D90 mask.toNat (leBytes 8 mask.toNat) = some y) :
    s.writeNum cl 0x2D90 j 8 mask.toNat = .next (y.1.answer cl y.2) := by
  have hv : leNat (leBytes 8 mask.toNat) = mask.toNat := by
    rw [leNat_leBytes]
    exact Nat.mod_eq_of_lt mask.isLt
  exact congrArg Host.Outcome.next (s.write_special cl 0x2D90 j 2 _ {} _ y hs hq (objRow_hubMask j hj) (by decide +kernel) (Nat.le_refl 2)
    ⟨Acc.noConfusion, Acc.noConfusion⟩ (length_leBytes _ _) (State.hubMask_valid _ _ _ hj) (by rw [hv]; exact hy) (by decide))

/-- TEST_STOP, by what the pans of the mask hold (R92). -/
theorem exec_testStop (cl : ClientNo) (mask : BitVec 64) (s : State) (hs : s.serves cl.val 2) (hq : s.cfg.snap.state ≠ 2) :
    exec (.testStop cl mask) s = .next (if s.maskHoldsCrust mask.toNat
      then (s.asked cl.val 0x2D90 2 (leBytes 8 mask.toNat)).answer cl.val (.abort abState)
      else ((s.asked cl.val 0x2D90 2 (leBytes 8 mask.toNat)).testStop mask.toNat).answer cl.val .confirm) := by
  have hholds : (s.asked cl.val 0x2D90 2 (leBytes 8 mask.toNat)).maskHoldsCrust mask.toNat = s.maskHoldsCrust mask.toNat := by
    simp [State.maskHoldsCrust]
  show s.writeNum cl.val 0x2D90 2 8 mask.toNat = _
  rw [s.write_hubMask cl.val 2 mask _ (.inl rfl) hs hq rfl, hholds]
  split <;> rfl

/-- TEST_RESUME is always confirmed (R92). -/
theorem exec_testResume (cl : ClientNo) (mask : BitVec 64) (s : State) (hs : s.serves cl.val 2) (hq : s.cfg.snap.state ≠ 2) :
    exec (.testResume cl mask) s =
      .next (((s.asked cl.val 0x2D90 3 (leBytes 8 mask.toNat)).testResume mask.toNat).answer cl.val .confirm) := by
  show s.writeNum cl.val 0x2D90 3 8 mask.toNat = _
  rw [s.write_hubMask cl.val 3 mask _ (.inr rfl) hs hq rfl]

/-- A test resume reaches a Stopped pan of its hubs, outside autonomous mode, with a work order and a newest crust that a test
stop saved (R92). -/
def State.testSaved (s : State) (mask p : Nat) (x : Pan) : Bool :=
  bit mask (p / 64) && !(s.hub (p / 64)).autonomous && x.state == .stopped && x.job.isSome &&
    x.newest.any (fun c => ckCause c.hdr = causeTest)

theorem State.testSaved_iff (s : State) (mask p : Nat) (x : Pan) : s.testSaved mask p x = true ↔
    bit mask (p / 64) = true ∧ (s.hub (p / 64)).autonomous = false ∧ x.state = .stopped ∧ x.job.isSome = true ∧
      ∃ c, x.newest = some c ∧ ckCause c.hdr = causeTest := by
  simp [State.testSaved, Option.any_eq_true, and_assoc]

theorem State.testResume_wedged (s : State) (mask : Nat) (h : s.anyWedged = true) : s.testResume mask = s := if_pos h

/-- A pan that is not Idle after a test resume. -/
theorem State.testResume_pan (s : State) (mask p : Nat) (h : s.anyWedged = false) (hp : (s.pan p).state ≠ .idle) :
    (s.testResume mask).pan p = if s.testSaved mask p (s.pan p) then (s.pan p).resuming else s.pan p := by
  have hpan : (s.testResume mask).pan p =
      FMap.get {} (FMap.mapv {} s.pans (fun n x => if s.testSaved mask n x then x.resuming else x)) p := by
    rw [State.testResume, if_neg (by simp [h])]
    rfl
  rw [hpan]
  refine FMap.get_mapv ({} : Pan) s.pans _ p ?_ fun hidle => hp ?_
  · exact if_neg (by simp [State.testSaved])
  · change (if s.testSaved mask p (s.pan p) then (s.pan p).resuming else s.pan p) = {} at hidle
    split at hidle
    · exact absurd (congrArg Pan.state hidle) (by simp [Pan.resuming])
    · rw [hidle]

/-- Settles O37: TEST_STOP by `exec_testStop` and `State.stopPans_pan`, TEST_RESUME by `exec_testResume` and
`State.testResume_pan`. -/
theorem testStopAndResume : Obligations.TestStopAndResume := by
  unfold Obligations.TestStopAndResume
  intro cl mask s hs hq
  have hstop := exec_testStop cl mask s hs hq
  refine ⟨fun hfree => ?confirmed, fun hholds => ?refused, ?resume⟩
  case confirmed =>
    rw [hfree] at hstop
    refine ⟨_, hstop, State.answer_said .., by simp, by simp, fun p => ?_⟩
    simp [State.testStop, State.stopPans_pan]
  case refused =>
    rw [hholds] at hstop
    exact ⟨_, hstop, State.answer_said .., by simp⟩
  case resume =>
    let u := s.asked cl.val 0x2D90 3 (leBytes 8 mask.toNat)
    have hwedged : u.anyWedged = s.anyWedged := by simp [u, State.anyWedged]
    refine ⟨_, exec_testResume cl mask s hs hq, State.answer_said .., by simp, by simp, fun hw => ?_, fun hw p hidle => ?_⟩
    · rw [State.testResume_wedged _ _ (hwedged.trans hw), State.answer_pans, State.asked_pans]
    · have hpan : u.pan p = s.pan p := State.asked_pan ..
      have hsaved : u.testSaved mask.toNat p (s.pan p) = s.testSaved mask.toNat p (s.pan p) := by
        simp [u, State.testSaved, State.hub]
      have hto := u.testResume_pan mask.toNat p (hwedged.trans hw) (by rwa [hpan])
      rw [hpan, hsaved] at hto
      rw [State.answer_pan, hto]
      exact ⟨fun h => if_pos ((s.testSaved_iff ..).2 h), fun h => if_neg fun hs => h ((s.testSaved_iff ..).1 hs)⟩

end Sys2Proof.Machine
end

section
/-! Stops and crusts (R81 to R93): what the hand-off of rows leaves of the pans, the header and the slot of a crust, and the
commands STOP_REQUEST, CRUST_SAVE and CRUST_RESUME. -/

namespace Sys2Proof.Machine

/-! What a hand-off leaves of the pans (R37, R82) -/

theorem State.pan_of_pans {s t : State} (h : t.pans = s.pans) (q : Nat) : t.pan q = s.pan q := by simp only [State.pan, h]

@[simp] theorem State.bump_pans (s : State) (w k n : Nat) : (s.bump w k n).pans = s.pans := by rw [State.bump_eq]
@[simp] theorem State.repace_pans (s : State) (c : Nat) : (s.repace c).pans = s.pans := by
  unfold State.repace
  dsimp only
  split <;> simp

@[simp] theorem State.repaceAll_pans (s : State) (l : Nat) : (s.repaceAll l).pans = s.pans :=
  List.foldlRecOn _ _ (motive := fun t : State => t.pans = s.pans) rfl fun _ ht _ _ => (State.repace_pans ..).trans ht

@[simp] theorem State.pushHandle_pans (s : State) (l : Nat) (h : Handle) : (s.pushHandle l h).pans = s.pans :=
  State.repaceAll_pans ..

@[simp] theorem State.output_pans (s : State) (hub r slot : Nat) (ws : List (Nat × List Byte)) : (s.output hub r slot ws).pans = s.pans := by
  unfold State.output
  dsimp only
  split
  · rfl
  · rw [State.pushHandle_pans, State.setStrm_pans]
    split <;> rfl

@[simp] theorem State.handPromo_pans (s : State) (o : Order) (p : Plan) (pt : Part) (src a n : Nat) (c : Cursor) (v : Val) :
    (s.handPromo o p pt src a n c v).pans = s.pans := by
  unfold State.handPromo
  split <;> rfl

@[simp] theorem State.handFlake_pans (s : State) (o : Order) (p : Plan) (pt : Part) (src a n : Nat) (c : Cursor) :
    (s.handFlake o p pt src a n c).pans = s.pans := by
  unfold State.handFlake
  split <;> simp

@[simp] theorem State.scalePromo_pans (s : State) (o : Order) (p : Plan) (ev ord i j : Nat) (v : Val) :
    (s.scalePromo o p ev ord i j v).pans = s.pans := by
  unfold State.scalePromo
  split
  · rfl
  · dsimp only
    split <;> rfl

@[simp] theorem State.countNonfinite_pans (s : State) (r slot : Nat) (v : Val) : (s.countNonfinite r slot v).pans = s.pans := by
  unfold State.countNonfinite
  split
  · exact State.bump_pans ..
  · rfl

@[simp] theorem State.countOut_pans (s : State) (r slot sub : Nat) : (s.countOut r slot sub).pans = s.pans := by
  unfold State.countOut
  dsimp only
  split
  · rfl
  · split
    · exact State.bump_pans ..
    · split <;> exact State.bump_pans ..

/-- A cell's hand-off changes no pan: the drain registers are written with its row. -/
@[simp] theorem State.handCell_pans (s : State) (o : Order) (p : Plan) (pt : Part) (src a n : Nat) (thin : Bool) (c : Cell) (drain : FMap Nat) :
    (s.handCell o p pt src a n thin c drain).1.pans = s.pans := by
  unfold State.handCell
  dsimp only
  split
  · rfl
  · split
    · split
      · split <;> simp
      · simp
    · split <;> split <;> simp

/-- Two stages of a pan between which only its arrays and its drain registers have changed. -/
def Pan.SamePlace (x y : Pan) : Prop := y = { x with arrs := y.arrs, drain := y.drain }

theorem Pan.SamePlace.refl (x : Pan) : x.SamePlace x := rfl

theorem Pan.SamePlace.trans {x y z : Pan} (h : x.SamePlace y) (k : y.SamePlace z) : x.SamePlace z := by
  unfold Pan.SamePlace at *
  rw [k, h]

/-- Two states between which rows of one pan have been handed off, as far as the pans go. -/
structure State.HandsOff (pn : Nat) (s t : State) : Prop where
  mine : (s.pan pn).SamePlace (t.pan pn)
  others : ∀ q, q ≠ pn → t.pan q = s.pan q

theorem State.HandsOff.refl (pn : Nat) (s : State) : s.HandsOff pn s := ⟨.refl _, fun _ _ => rfl⟩

theorem State.HandsOff.trans {pn : Nat} {s t u : State} (h : s.HandsOff pn t) (k : t.HandsOff pn u) : s.HandsOff pn u :=
  ⟨h.mine.trans k.mine, fun q hq => (k.others q hq).trans (h.others q hq)⟩

/-- The cells of a row are emptied, the drain registers written and the output sent. -/
theorem State.handsOff_row {s t : State} (h : t.pans = s.pans) (pn a hub r slot : Nat) (y : Arr) (d : FMap Nat) (ws : List (Nat × List Byte)) :
    s.HandsOff pn ((t.setPan pn { (t.pan pn).setArr a y with drain := d }).output hub r slot ws) := by
  refine ⟨?_, fun q hq => ?_⟩
  · rw [State.pan_of_pans (State.output_pans ..), State.pan_setPan, State.pan_of_pans h]
    rfl
  · rw [State.pan_of_pans (State.output_pans ..), State.pan_setPan_ne _ _ _ _ hq, State.pan_of_pans h]

/-- A row's hand-off empties cells and writes drain registers of its pan (R37). -/
theorem State.handRow_handsOff (s : State) (o : Order) (pn a row : Nat) (thin : Bool) : s.HandsOff pn (s.handRow o pn a row thin) := by
  unfold State.handRow
  dsimp only
  split
  · exact .refl ..
  · refine State.handsOff_row (List.foldlRecOn _ _ (motive := fun t : State × FMap Nat × List (Nat × List Byte) => t.1.pans = s.pans) rfl
      fun _ ht _ _ => ?_) ..
    exact (State.handCell_pans ..).trans ht

/-- Step 4 of R88 hands off rows of its pan alone. -/
theorem State.handKept_handsOff (s : State) (o : Order) (pn hdr : Nat) : s.HandsOff pn (s.handKept o pn hdr) := by
  refine List.foldlRecOn _ _ (motive := fun t : State => s.HandsOff pn t) (.refl ..) fun t ht a _ => ?_
  split
  · refine List.foldlRecOn _ _ (motive := fun t : State => s.HandsOff pn t) ht fun u hu row _ => ?_
    split
    · exact hu.trans (u.handRow_handsOff ..)
    · exact hu
  · exact ht

/-- Two states between which no pan has changed and no save been counted: promotions wait, objects and draws may differ. -/
structure State.SameSaves (s t : State) : Prop where
  frame : t = { s with objs := t.objs, win := t.win, draws := t.draws }
  saves : t.obj (okey 0x2D10 1) = s.obj (okey 0x2D10 1)

theorem State.SameSaves.refl (s : State) : s.SameSaves s := ⟨rfl, rfl⟩

theorem State.SameSaves.trans {s t u : State} (h : s.SameSaves t) (k : t.SameSaves u) : s.SameSaves u :=
  ⟨by rw [k.frame, h.frame], k.saves.trans h.saves⟩

theorem State.setObj_sameSaves (s : State) (k v : Nat) (h : okey 0x2D10 1 ≠ k) : s.SameSaves (s.setObj k v) :=
  ⟨rfl, State.obj_setObj_ne _ _ _ _ h⟩

theorem State.handPromo_sameSaves (s : State) (o : Order) (p : Plan) (pt : Part) (src a n : Nat) (c : Cursor) (v : Val) :
    s.SameSaves (s.handPromo o p pt src a n c v) := by
  unfold State.handPromo
  split
  · exact .refl s
  · exact ⟨rfl, rfl⟩

theorem State.handFlake_sameSaves (s : State) (o : Order) (p : Plan) (pt : Part) (src a n : Nat) (c : Cursor) :
    s.SameSaves (s.handFlake o p pt src a n c) := by
  unfold State.handFlake
  split
  · exact .refl s
  · next f _ =>
    have hbump : s.SameSaves (s.bump 64 (okey 0x2611 8) f.2) := by
      unfold State.bump
      split
      · exact .refl s
      · exact s.setObj_sameSaves _ _ (by decide)
    exact hbump.trans (State.handPromo_sameSaves ..)

/-- The flake rows of a kept chunk go to the Windrow (R82). -/
theorem State.handFlakes_sameSaves (s : State) (o : Order) (pn : Nat) : s.SameSaves (s.handFlakes o pn) := by
  refine List.foldlRecOn _ _ (motive := fun t : State => s.SameSaves t) (.refl s) fun t ht a _ => ?_
  refine List.foldlRecOn _ _ (motive := fun t : State => s.SameSaves t) ht fun u hu n _ => ?_
  dsimp only
  split
  · split
    · exact hu.trans (State.handFlake_sameSaves ..)
    · exact hu
  · exact hu

theorem State.disarmIf_sameSaves (s : State) (b : Bool) : s.SameSaves (if b then s.disarm else s) := by
  cases b
  · exact .refl s
  · exact s.setObj_sameSaves _ _ (by decide)

/-! The header and the slot of a crust (R85, R86) -/

/-- The fields of a header below its array bits, read from a word in which they lie beside other bits. -/
theorem crust_fields (cause m lcode ring slot h : Nat) (hcause : cause < 8) (hm : m < 2 ^ 12) (hlcode : lcode < 8) (hring : ring < 16)
    (hslot : slot < 2 ^ 16) :
    let w := 1 + 2 * cause + 2 ^ 4 * m + 2 ^ 16 * lcode + 2 ^ 32 * ring + 2 ^ 36 * slot + 2 ^ 64 * h
    ckValid w = true ∧ ckCause w = cause ∧ ckLcode w = lcode ∧ ckRing w = ring ∧ ckSlot w = slot := by
  intro w
  simp only [ckValid, ckCause, ckLcode, ckRing, ckSlot, bit, bits, Nat.testBit_eq_decide_div_mod_eq, Nat.shiftRight_eq_div_pow,
    decide_eq_true_eq, w]
  refine ⟨?_, ?_, ?_, ?_, ?_⟩ <;> omega

theorem pack_eq (lo w v : Nat) : pack lo w v = v % 2 ^ w * 2 ^ lo := Nat.shiftLeft_eq _ _

/-- A field that begins at bit 64 or higher leaves the bits below. -/
theorem dvd_pack {lo : Nat} (w v : Nat) (h : 64 ≤ lo) : 2 ^ 64 ∣ pack lo w v := by
  rw [pack_eq]
  exact Nat.dvd_mul_left_of_dvd (Nat.pow_dvd_pow 2 h) _

/-- TAGS stand above the fields that name the work order. -/
theorem dvd_tags (f : Nat → Nat) : 2 ^ 64 ∣ ((List.range 4).map (fun a => pack (128 + 8 * a) 8 (f a))).sum := by
  have hfield : ∀ a, 2 ^ 64 ∣ pack (128 + 8 * a) 8 (f a) := fun a => dvd_pack _ _ (by omega)
  exact Nat.dvd_add (hfield 0) (Nat.dvd_add (hfield 1) (Nat.dvd_add (hfield 2) (Nat.dvd_add (hfield 3) (Nat.dvd_zero _))))

/-- The base of a header, alone or with the fields that its part and its plan give (R85). -/
theorem State.crustHeader_split (s : State) (o : Order) (pn : Nat) :
    ∃ m h, m < 2 ^ 12 ∧ s.crustHeader o pn = 1 + 2 * ((s.pan pn).stopCause % 8) + 2 ^ 4 * m + 2 ^ 16 * (woLcode o.raw % 8) +
      2 ^ 32 * (o.ring % 16) + 2 ^ 36 * (o.slot % 65536) + 2 ^ 64 * h := by
  obtain ⟨t, ht⟩ := dvd_tags fun a => ((s.pan pn).arr a).tagOf ((s.pan pn).arr a).pass
  unfold State.crustHeader
  dsimp only
  rw [ht]
  generalize (if (s.pan pn).issued then s.lastChunk o pn (s.pan pn).cur else ((s.pan pn).cur.part, 0)) = kj
  generalize Config.unstated 51 [s.draws] = lat
  simp only [pack_eq]
  split
  · exact ⟨0, t + lat % 2 ^ 16 * 2 ^ 128, by omega, by omega⟩
  · next pt p _ =>
    generalize (if (p.toWindrow && (s.pan pn).issued) = true then
      ((List.range 4).map (fun a => if ((s.pan pn).arr a).holdsChunk then 2 ^ a else 0)).sum else 0) = keep
    generalize (if p.toWindrow then 0 else sectionBits p.shape) = drain
    generalize (if (s.pan pn).issued then kj.2 else 2 ^ 32 - 1) = chunk
    generalize (if (s.pan pn).issued then p.passesTo pt kj.2 else 0) = pass
    exact ⟨keep % 2 ^ 4 + drain % 2 ^ 4 * 2 ^ 4 + b2n p.win % 2 ^ 1 * 2 ^ 8 + p.shape % 2 ^ 3 * 2 ^ 9,
      t + lat % 2 ^ 16 * 2 ^ 128 + chunk % 2 ^ 32 + kj.1 % 2 ^ 32 * 2 ^ 32 + pass % 2 ^ 32 * 2 ^ 96, by omega, by omega⟩

/-- A header names the cause, the LCODE, and the work order of its pan (R85). -/
theorem State.crustHeader_fields (s : State) (o : Order) (pn : Nat) :
    ckValid (s.crustHeader o pn) = true ∧ ckCause (s.crustHeader o pn) = (s.pan pn).stopCause % 8 ∧
    ckLcode (s.crustHeader o pn) = woLcode o.raw % 8 ∧ ckRing (s.crustHeader o pn) = o.ring % 16 ∧
    ckSlot (s.crustHeader o pn) = o.slot % 65536 := by
  obtain ⟨m, h, hm, hw⟩ := s.crustHeader_split o pn
  rw [hw]
  exact crust_fields _ m _ _ _ h (Nat.mod_lt _ (by decide)) hm (Nat.mod_lt _ (by decide)) (Nat.mod_lt _ (by decide))
    (Nat.mod_lt _ (by decide))

/-- A crust goes into the lowest free slot, and is then the newest (R86). -/
theorem Pan.putCrust_newest (x : Pan) (c : Crust) (hc : c.valid = true) (hfree : x.crusts < 2) :
    ∃ g, (x.putCrust c).newest = some { c with gen := g } ∧
      (x.crust0.valid = false → (x.putCrust c).crust0 = { c with gen := g } ∧ (x.putCrust c).crust1 = x.crust1) ∧
      (x.crust0.valid = true → (x.putCrust c).crust0 = x.crust0 ∧ (x.putCrust c).crust1 = { c with gen := g }) := by
  have hgen : ∀ g, ({ c with gen := g } : Crust).valid = true := fun _ => hc
  cases h0 : x.crust0.valid
  · refine ⟨if x.crust1.valid then x.crust1.gen + 1 else 0, ?_⟩
    have hlater : ¬ x.crust1.gen + 1 < x.crust1.gen := by omega
    cases h1 : x.crust1.valid <;> simp [Pan.putCrust, Pan.newest, h0, h1, hgen, hlater]
  · have h1 : x.crust1.valid = false := by
      cases h1 : x.crust1.valid
      · rfl
      · exact absurd hfree (by rw [Pan.crusts, h0, h1]; decide)
    exact ⟨x.crust0.gen + 1, by simp [Pan.putCrust, Pan.newest, h0, hgen]⟩

/-- A crust put away leaves the pan's place, arrays and drain registers. -/
theorem Pan.putCrust_keeps (x : Pan) (c : Crust) :
    (x.putCrust c).job = x.job ∧ (x.putCrust c).stopCause = x.stopCause ∧ (x.putCrust c).arrs = x.arrs ∧ (x.putCrust c).drain = x.drain := by
  unfold Pan.putCrust
  split <;> exact ⟨rfl, rfl, rfl, rfl⟩

/-! What is left of a stop when its cause is over (R376, R377) -/

/-- Whether the cause of a stop is over depends on the pan's work order and cause, the work orders, the functions and the Weir. -/
theorem State.causeOver_congr {s t : State} {x y : Pan} (hseq : t.seq = s.seq) (hfns : t.fns = s.fns) (hweir : t.weir = s.weir)
    (hjob : y.job = x.job) (hcause : y.stopCause = x.stopCause) : t.causeOver y = s.causeOver x := by
  simp only [State.causeOver, State.order?, State.running, State.fn, hseq, hfns, hweir, hjob, hcause]

@[simp] theorem State.settleStop_obj (s : State) (pn k : Nat) : (s.settleStop pn).obj k = s.obj k := by
  unfold State.settleStop
  dsimp only
  split <;> rfl

theorem State.settleStop_pan_ne (s : State) {pn q : Nat} (h : q ≠ pn) : (s.settleStop pn).pan q = s.pan q := by
  unfold State.settleStop
  dsimp only
  split
  · exact State.pan_setPan_ne _ _ _ _ h
  · rfl

/-- A stop whose cause goes on is left as it is. -/
theorem State.settleStop_of_cause (s : State) (pn : Nat) (h : s.causeOver (s.pan pn) = false) : s.settleStop pn = s := by
  simp [State.settleStop, h]

/-- A pan at rest begins to resume or stays as it is. -/
theorem State.settleStop_pan (s : State) (pn : Nat) :
    (s.settleStop pn).pan pn = s.pan pn ∨ (s.settleStop pn).pan pn = (s.pan pn).resuming := by
  unfold State.settleStop
  dsimp only
  split
  · exact .inr (State.pan_setPan ..)
  · exact .inl rfl

/-- A Stopped pan whose cause is over begins to resume, outside autonomous mode and with no function Wedged. -/
theorem State.settleStop_of_over (s : State) (pn : Nat) (hst : (s.pan pn).state = .stopped) (hover : s.causeOver (s.pan pn) = true)
    (hw : s.anyWedged = false) (ha : (s.hub (pn / 64)).autonomous = false) : (s.settleStop pn).pan pn = (s.pan pn).resuming := by
  simp [State.settleStop, hst, hover, hw, ha]

/-! STOP_REQUEST -/

theorem Pan.request_running (x : Pan) (cause : Nat) (h : x.state = .running) :
    x.request cause = { x with state := .stopping, stopCause := cause } := by simp [Pan.request, h]

theorem Pan.request_resuming (x : Pan) (cause : Nat) (h : x.state = .resuming) :
    x.request cause = { x with state := .stopped, stopCause := cause } := by simp [Pan.request, h]

/-- A Held pan remembers the first cause (R91). -/
theorem Pan.request_held (x : Pan) (cause : Nat) (h : x.state = .held) :
    x.request cause = { x with stopCause := if x.stopCause = 0 then cause else x.stopCause } := by
  have hheld : x.request cause = if x.stopCause = 0 then { x with stopCause := cause } else x := by rw [Pan.request, h]
  rw [hheld]
  split <;> rfl

theorem Pan.request_resting (x : Pan) (cause : Nat) (h : x.state = .idle ∨ x.state = .stopping ∨ x.state = .stopped) :
    x.request cause = x := by
  obtain h | h | h := h <;> simp [Pan.request, h]

/-- A request that the pan takes. -/
theorem exec_stopRequest (p : PanNo) (cause : Nat) (s : State) (h1 : 1 ≤ cause) (h4 : cause ≤ 4)
    (h : ¬ ((cause = 1 ∨ cause = 4) ∧ (s.pan p.val).crusts ≠ 0)) :
    exec (.stopRequest p cause) s = .next (s.setPan p.val ((s.pan p.val).request cause)) := by
  show execStopRequest p cause s = _
  exact if_pos (by omega)

/-- A pan that holds a crust takes no request for pre-emption or test (R86). -/
theorem exec_stopRequest_crusted (p : PanNo) (cause : Nat) (s : State) (h : cause = 1 ∨ cause = 4) (hc : (s.pan p.val).crusts ≠ 0) :
    exec (.stopRequest p cause) s = .next s := by
  show execStopRequest p cause s = _
  exact if_neg (by omega)

/-! CRUST_SAVE -/

/-- The kinds of work order whose pans save crusts: products and, as a whole, the forward product of a Boiler phase. -/
def Order.crusts (o : Order) : Bool := o.kind.isProduct || o.kind == .boil 0

/-- A Stopping pan of a work order at its boundary, with a free slot. -/
theorem exec_crustSave (p : PanNo) (s : State) (r slot : Nat) (o : Order) (hj : (s.pan p.val).job = some (r, slot))
    (ho : s.order? r slot = some o) (hst : (s.pan p.val).state = .stopping) (hb : (s.pan p.val).cur.atBoundary = true)
    (hfree : (s.pan p.val).crusts < 2) :
    exec (.crustSave p) s = .next (
      if o.crusts then
        if (s.planAt o p.val (s.pan p.val).cur).isNone then s.setPan p.val { s.pan p.val with state := .running, stopCause := 0 }
        else if s.atRest o p.val then s.saveCrust o p.val else s
      else (s.setPan p.val { s.pan p.val with state := .stopped, demand := 0 }).settleStop p.val) := by
  show execCrustSave p s = _
  unfold execCrustSave
  simp only [hj, ho, hst, hb, decide_eq_false (Nat.not_le.2 hfree)]
  cases hk : (o.kind.isProduct || o.kind == .boil 0)
  · simp [Order.crusts, hk]
  · cases hp : s.planAt o p.val (s.pan p.val).cur
    · simp [Order.crusts, hk]
    · simp only [Order.crusts, hk]
      cases s.atRest o p.val <;> rfl

theorem State.draw_sameSaves (s : State) : s.SameSaves s.draw := ⟨rfl, rfl⟩

/-- The crust that a pan saves: header, arrays, drain registers and place, and a word inverted where an injection waits (R85, R398). -/
def State.crustOf (s : State) (o : Order) (pn : Nat) : Crust :=
  { hdr := s.crustHeader o pn, arrs := (s.pan pn).arrs, drain := (s.pan pn).drain, cur := (s.pan pn).cur, bad := s.injected 5 pn }

/-- The pan as its save leaves it. -/
def State.savedPan (s : State) (o : Order) (pn : Nat) : Pan := { (s.pan pn).putCrust (s.crustOf o pn) with state := .stopped, demand := 0 }

/-- A save puts the crust away and counts it; then the pan is at rest (R83, R86). -/
theorem State.saveCrust_eq (s : State) (o : Order) (pn : Nat) :
    ∃ t u : State, s.SameSaves t ∧ ((t.setPan pn (s.savedPan o pn)).bump64 (okey 0x2D10 1)).SameSaves u ∧
      s.saveCrust o pn = u.settleStop pn := by
  let t := (if s.injected 5 pn then s.disarm else s).handFlakes o pn
  let b := (t.setPan pn (s.savedPan o pn)).bump64 (okey 0x2D10 1)
  let u := b.setObj (okey 0x2D10 4) (max (b.obj (okey 0x2D10 4)) (bits (s.crustHeader o pn) 192 16))
  have hu : b.SameSaves u := b.setObj_sameSaves _ _ (by decide)
  have ht : s.SameSaves t := (s.disarmIf_sameSaves _).trans (State.handFlakes_sameSaves ..)
  have hdraw : b.SameSaves u.draw := hu.trans u.draw_sameSaves
  refine ⟨t, u.draw, ht, hdraw, ?_⟩
  unfold State.saveCrust
  rfl

/-- The state in which a pan that has saved its crust comes to rest: the crust counted, every other pan as it was. -/
theorem State.saveCrust_settles (s : State) (o : Order) (pn : Nat) :
    ∃ u : State, s.saveCrust o pn = u.settleStop pn ∧ u.pan pn = s.savedPan o pn ∧ (∀ q, q ≠ pn → u.pan q = s.pan q) ∧
      u.obj (okey 0x2D10 1) = satAdd 64 (s.obj (okey 0x2D10 1)) 1 ∧ u.causeOver (s.savedPan o pn) = s.causeOver (s.pan pn) ∧
      u.anyWedged = s.anyWedged ∧ u.hub (pn / 64) = s.hub (pn / 64) := by
  obtain ⟨t, u, hst, htu, heq⟩ := s.saveCrust_eq o pn
  have hbump : ((t.setPan pn (s.savedPan o pn)).bump64 (okey 0x2D10 1)) = { t.setPan pn (s.savedPan o pn) with
      objs := ((t.setPan pn (s.savedPan o pn)).bump64 (okey 0x2D10 1)).objs } := State.bump_eq ..
  obtain ⟨hjob, hcause, -, -⟩ := (s.pan pn).putCrust_keeps (s.crustOf o pn)
  have hpan : ∀ q, u.pan q = (t.setPan pn (s.savedPan o pn)).pan q := fun q => by
    rw [htu.frame, hbump]
    rfl
  have hseq : u.seq = s.seq := by rw [htu.frame, hbump, hst.frame]; rfl
  have hfns : u.fns = s.fns := by rw [htu.frame, hbump, hst.frame]; rfl
  have hweir : u.weir = s.weir := by rw [htu.frame, hbump, hst.frame]; rfl
  have hhubs : u.hubs = s.hubs := by rw [htu.frame, hbump, hst.frame]; rfl
  refine ⟨u, heq, ?_, fun q hq => ?_, ?_, ?_, ?_, ?_⟩
  · rw [hpan, State.pan_setPan]
  · rw [hpan, State.pan_setPan_ne _ _ _ _ hq, hst.frame]
    rfl
  · rw [htu.saves, ← hst.saves]
    exact State.bump_obj (t.setPan pn (s.savedPan o pn)) 64 _ 1 Nat.one_ne_zero
  · exact State.causeOver_congr hseq hfns hweir hjob hcause
  · simp only [State.anyWedged, hfns]
  · simp only [State.hub, hhubs]

theorem State.saveCrust_pan_ne (s : State) (o : Order) {pn q : Nat} (h : q ≠ pn) : (s.saveCrust o pn).pan q = s.pan q := by
  obtain ⟨u, hu, -, hothers, -⟩ := s.saveCrust_settles o pn
  rw [hu, State.settleStop_pan_ne _ h, hothers q h]

/-- Every save counts in 2D10/01. -/
theorem State.saveCrust_obj_saves (s : State) (o : Order) (pn : Nat) :
    (s.saveCrust o pn).obj (okey 0x2D10 1) = satAdd 64 (s.obj (okey 0x2D10 1)) 1 := by
  obtain ⟨u, hu, -, -, hcount, -⟩ := s.saveCrust_settles o pn
  rw [hu, State.settleStop_obj, hcount]

/-- After its save a pan is at rest, or resumes at once (R83; log entry 25). -/
theorem State.saveCrust_pan (s : State) (o : Order) (pn : Nat) :
    (s.saveCrust o pn).pan pn = s.savedPan o pn ∨ (s.saveCrust o pn).pan pn = (s.savedPan o pn).resuming := by
  obtain ⟨u, hu, hmine, -⟩ := s.saveCrust_settles o pn
  rw [hu, ← hmine]
  exact u.settleStop_pan pn

theorem State.saveCrust_stops (s : State) (o : Order) (pn : Nat) (h : s.causeOver (s.pan pn) = false) :
    (s.saveCrust o pn).pan pn = s.savedPan o pn := by
  obtain ⟨u, hu, hmine, -, -, hover, -⟩ := s.saveCrust_settles o pn
  rw [hu, State.settleStop_of_cause _ _ (by rw [hmine, hover, h]), hmine]

theorem State.saveCrust_resumes (s : State) (o : Order) (pn : Nat) (h : s.causeOver (s.pan pn) = true) (hw : s.anyWedged = false)
    (ha : (s.hub (pn / 64)).autonomous = false) : (s.saveCrust o pn).pan pn = (s.savedPan o pn).resuming := by
  obtain ⟨u, hu, hmine, -, -, hover, hwedged, hhub⟩ := s.saveCrust_settles o pn
  rw [hu, State.settleStop_of_over _ _ (by rw [hmine]; rfl) (by rw [hmine, hover, h]) (hwedged.trans hw) (by rw [hhub, ha]), hmine]

/-- The pan keeps its cells, its drain registers and its work order, and holds the crust in its lowest free slot (R83, R86). -/
theorem State.saveCrust_holds (s : State) (o : Order) (pn : Nat) (hfree : (s.pan pn).crusts < 2) :
    let x := s.pan pn
    let z := (s.saveCrust o pn).pan pn
    z.job = x.job ∧ z.arrs = x.arrs ∧ z.drain = x.drain ∧
    ∃ g, z.newest = some { s.crustOf o pn with gen := g } ∧
      (x.crust0.valid = false → z.crust0 = { s.crustOf o pn with gen := g } ∧ z.crust1 = x.crust1) ∧
      (x.crust0.valid = true → z.crust0 = x.crust0 ∧ z.crust1 = { s.crustOf o pn with gen := g }) := by
  intro x z
  obtain ⟨hjob, -, harrs, hdrain⟩ := x.putCrust_keeps (s.crustOf o pn)
  obtain ⟨hvalid, -⟩ := s.crustHeader_fields o pn
  have hput := x.putCrust_newest (s.crustOf o pn) hvalid hfree
  have hz : z = s.savedPan o pn ∨ z = (s.savedPan o pn).resuming := s.saveCrust_pan o pn
  obtain hz | hz := hz <;> rw [hz] <;> exact ⟨hjob, harrs, hdrain, hput⟩

/-! CRUST_RESUME -/

theorem State.rippleArray_samePlace {s : State} {o : Order} {f : Feeder} {a : Nat} {x y : Pan} (h : s.rippleArray o f a x = some y) :
    x.SamePlace y := by
  unfold State.rippleArray at h
  dsimp only at h
  split at h
  · cases h
  · cases h
    rfl

theorem State.rippleArrays_samePlace {s : State} {o : Order} {f : Feeder} {l : List Nat} {x y : Pan} (h : s.rippleArrays o f l x = some y) :
    x.SamePlace y := by
  have hall : ∀ z ∈ s.rippleArrays o f l x, x.SamePlace z := by
    refine List.foldlRecOn _ _ (motive := fun acc : Option Pan => ∀ z ∈ acc, x.SamePlace z) ?_ fun acc hacc a _ z hz => ?_
    · rintro _ ⟨⟩
      exact .refl x
    · obtain ⟨w, hw, hstep⟩ := Option.bind_eq_some_iff.1 hz
      exact (hacc w hw).trans (State.rippleArray_samePlace hstep)
  exact hall y h

/-- A pan at the place of its newest crust, which it has given up (R88). -/
def Pan.resumedAt (x : Pan) (c : Crust) (demand : Nat) : Pan :=
  { x.dropNewest with cur := c.cur, state := .running, stopCause := 0, issued := decide (ckChunk c.hdr ≠ 2 ^ 32 - 1), demand := demand }

/-- A restore takes the pan to the place of its crust and reaches no other pan (R88). -/
theorem State.restore_some {s t : State} {o : Order} {pn : Nat} {c : Crust} (h : s.restore o pn c = some t) :
    ∃ demand, ((s.pan pn).resumedAt c demand).SamePlace (t.pan pn) ∧ (∀ q, q ≠ pn → t.pan q = s.pan q) ∧ t.mem = s.mem := by
  unfold State.restore at h
  dsimp only at h
  split at h
  · cases h
  · next p _ =>
    split at h
    · cases h
    · next x' hx =>
      cases h
      generalize hy : ({ (s.pan pn).dropNewest with
          arrs := _, drain := c.drain, cur := c.cur, state := .running, stopCause := 0,
          issued := decide (ckChunk c.hdr ≠ 2 ^ 32 - 1), demand := shapeDemand p.shape } : Pan) = y at hx ⊢
      have hplace : ((s.pan pn).resumedAt c (shapeDemand p.shape)).SamePlace y := by
        rw [← hy]
        rfl
      have hkept := (s.setPan pn y).handKept_handsOff o pn c.hdr
      have hmine := hkept.mine
      rw [State.pan_setPan] at hmine
      refine ⟨shapeDemand p.shape, ?_, fun q hq => ?_, by simp⟩
      · rw [State.bump_pan, State.bump64_pan, State.pan_setPan]
        exact (hplace.trans hmine).trans (State.rippleArrays_samePlace hx)
      · rw [State.bump_pan, State.bump64_pan, State.pan_setPan_ne _ _ _ _ hq, hkept.others q hq, State.pan_setPan_ne _ _ _ _ hq]

/-- A Resuming pan of an admitted work order at level 2, function 8 Running. -/
theorem exec_crustResume (p : PanNo) (bad : Bool) (s : State) (r slot : Nat) (o : Order) (hj : (s.pan p.val).job = some (r, slot))
    (ho : s.order? r slot = some o) (hst : (s.pan p.val).state = .resuming) (h8 : s.running 8 = true) (hlevel : 2 ≤ (s.pan p.val).level)
    (hadm : o.phase = .admitted) :
    exec (.crustResume p bad) s = .next (
      if o.crusts then
        (s.pan p.val).newest.elim (s.setPan p.val { s.pan p.val with state := .running, stopCause := 0 }) (fun c =>
          if bad || c.bad then s.crustLost o p.val
          else if !(s.crustOk o p.val c) then
            (s.setPan p.val { s.pan p.val with state := .stopped, stopCause := causeFault }).fault 13 0x0D21
              { kind := 1, num := p.val, slot := o.slot, ring := o.ring }
          else (s.restore o p.val c).getD (if s.heldFor p.val (s.pan p.val) then s.setPan p.val (s.pan p.val).hold else s))
      else s.setPan p.val { s.pan p.val with state := .running, stopCause := 0, demand := o.boilDemand }) := by
  show execCrustResume p bad s = _
  have hgo : (!((s.pan p.val).state == .resuming) || !(s.running 8) || decide ((s.pan p.val).level < 2) || !(o.phase == .admitted)) = false := by
    rw [decide_eq_false (Nat.not_lt.2 hlevel), hst, h8, hadm]
    rfl
  unfold execCrustResume
  dsimp only
  rw [hj]
  dsimp only
  rw [ho]
  dsimp only
  rw [hgo, if_neg Bool.false_ne_true]
  unfold Order.crusts
  cases (o.kind.isProduct || o.kind == .boil 0)
  · rfl
  · cases (s.pan p.val).newest with
    | none => rfl
    | some c =>
      dsimp only [Option.elim_some]
      cases (bad || c.bad)
      · cases s.crustOk o p.val c
        · rfl
        · cases s.restore o p.val c <;> rfl
      · rfl

/-- A fault of a function that is not permanent, and the code it leaves there (R316). -/
theorem State.fault_fcode_of_running (s : State) (n code : Nat) (l : Loc) (hp : isPermanent n = false) (hr : (s.fn n).state = .running) :
    ((s.fault n code l).fn n).fcode = code := by
  unfold State.fault
  simp [hp, hr, State.enterFn, State.bump32]

/-- A fault leaves a pan or stops it (R81). -/
theorem State.fault_pan (s : State) (n code : Nat) (l : Loc) (q : Nat) :
    (s.fault n code l).pan q = s.pan q ∨ (s.fault n code l).pan q = (s.pan q).request causeFault := by
  unfold State.fault
  dsimp only
  split
  · rw [State.stopPans_pan]
    split <;> simp
  · simp

/-- Function D takes a fault for the sake of a pan: the code, memory, the function, and the other pans (R90, R316, R392). -/
def State.FaultsFor (s t : State) (pn code : Nat) : Prop :=
  t.obj (fnKey 13 4) = code ∧ t.mem = s.mem ∧
    ((s.fn 13).state = .running → (t.fn 13).state = .faulted ∧ (t.fn 13).fcode = code) ∧
    ∀ q, q ≠ pn → t.pan q = s.pan q ∨ t.pan q = (s.pan q).request causeFault

/-- A fault raised where nothing has changed but objects and its pan, which has been stopped first. -/
theorem State.fault_faultsFor {s u : State} {pn : Nat} {y : Pan} (hu : u = { s.setPan pn y with objs := u.objs }) (hy : y.active = false)
    (code : Nat) (l : Loc) : s.FaultsFor (u.fault 13 code l) pn code ∧ (u.fault 13 code l).pan pn = y := by
  have hpan : ∀ q, u.pan q = (s.setPan pn y).pan q := fun q => by rw [hu]; rfl
  have hfn : u.fn 13 = s.fn 13 := by rw [hu]; rfl
  have hmine : u.pan pn = y := (hpan pn).trans (State.pan_setPan ..)
  refine ⟨⟨State.fault_obj_code .., ?_, fun hr => ?_, fun q hq => ?_⟩, ?_⟩
  · rw [State.fault_mem, hu, State.setPan_mem]
  · rw [← hfn] at hr
    exact ⟨State.fault_fn_of_running _ _ _ _ rfl hr, State.fault_fcode_of_running _ _ _ _ rfl hr⟩
  · have hq' : u.pan q = s.pan q := (hpan q).trans (State.pan_setPan_ne _ _ _ _ hq)
    rw [← hq']
    exact u.fault_pan ..
  · rw [State.fault_pan_of_not_active _ _ _ _ _ (by rw [hmine, hy]), hmine]

/-- A crust that is lost is counted in 2D10/03 and leaves its pan Stopped (R90). -/
theorem State.crustLost_effect (s : State) (o : Order) (pn : Nat) :
    s.FaultsFor (s.crustLost o pn) pn 0x0D22 ∧
    (s.crustLost o pn).pan pn = { (s.pan pn).dropNewest with state := .stopped, stopCause := causeFault } ∧
    (s.crustLost o pn).obj (okey 0x2D10 3) = satAdd 64 (s.obj (okey 0x2D10 3)) 1 := by
  let y : Pan := { (s.pan pn).dropNewest with state := .stopped, stopCause := causeFault }
  obtain ⟨hfaults, hpan⟩ := State.fault_faultsFor (State.bump_eq (s.setPan pn y) 64 (okey 0x2D10 3) 1) rfl 0x0D22
    { kind := 1, num := pn, slot := o.slot, ring := o.ring }
  refine ⟨hfaults, hpan, (State.fault_obj_ne _ _ _ _ _ (by decide) (by decide) (by decide)).trans ?_⟩
  exact State.bump_obj (s.setPan pn y) 64 _ 1 Nat.one_ne_zero

/-- A crust whose header does not agree with the work order stays, and its pan is Stopped (R88). -/
theorem State.crustWrong_effect (s : State) (pn : Nat) (x : Pan) (l : Loc) :
    s.FaultsFor ((s.setPan pn { x with state := .stopped, stopCause := causeFault }).fault 13 0x0D21 l) pn 0x0D21 ∧
    ((s.setPan pn { x with state := .stopped, stopCause := causeFault }).fault 13 0x0D21 l).pan pn =
      { x with state := .stopped, stopCause := causeFault } :=
  State.fault_faultsFor (y := { x with state := .stopped, stopCause := causeFault }) rfl rfl 0x0D21 l

/-- Settles O49, command by command: `exec_stopRequest`, `exec_crustSave` with the lemmas on `State.saveCrust`, and
`exec_crustResume` with `State.crustLost_effect`, `State.crustWrong_effect` and `State.restore_some`. -/
theorem stopsAndCrusts : Obligations.StopsAndCrusts := by
  unfold Obligations.StopsAndCrusts
  intro p s x others faults
  have hset : ∀ y, others (s.setPan p.val y) := fun y => ⟨fun q hq => State.pan_setPan_ne _ _ _ _ hq, rfl⟩
  refine ⟨fun cause h1 h4 => ⟨exec_stopRequest_crusted p cause s, fun hfree => ?request⟩, ?save, ?resume⟩
  case request =>
    refine ⟨_, exec_stopRequest p cause s h1 h4 hfree, hset _, ?_⟩
    rw [State.pan_setPan]
    exact ⟨x.request_running cause, x.request_resuming cause, x.request_held cause, x.request_resting cause⟩
  case save =>
    intro r slot o hj ho hst hb hfree product
    have hexec := exec_crustSave p s r slot o hj ho hst hb hfree
    refine ⟨fun hk hnone => ?ended, fun y hk hplan => ⟨fun hrest => ?waits, fun hrest => ?saves⟩, fun hk hcause => ?boil⟩
    case ended =>
      rw [show o.crusts = true from hk, hnone] at hexec
      exact ⟨_, hexec, hset _, State.pan_setPan ..⟩
    case waits =>
      rw [show o.crusts = true from hk, hplan, hrest] at hexec
      exact hexec
    case saves =>
      rw [show o.crusts = true from hk, hplan, hrest] at hexec
      obtain ⟨hvalid, hcause, hlcode, hring, hslot⟩ := s.crustHeader_fields o p.val
      obtain ⟨hjob, harrs, hdrain, g, hnew, hlow, hhigh⟩ := s.saveCrust_holds o p.val hfree
      refine ⟨s.saveCrust o p.val, _, hexec, ⟨fun q hq => s.saveCrust_pan_ne o hq, State.saveCrust_mem ..⟩, hnew, hjob,
        hvalid, hcause, hring, hslot, hlcode, rfl, rfl, rfl, hlow, hhigh, harrs, hdrain, s.saveCrust_obj_saves o p.val,
        fun hc => ?_, fun hc hw ha => ?_⟩
      · rw [s.saveCrust_stops o p.val hc]
        obtain ⟨-, hcause, -⟩ := x.putCrust_keeps (s.crustOf o p.val)
        exact ⟨rfl, hcause⟩
      · rw [s.saveCrust_resumes o p.val hc hw ha]
        rfl
    case boil =>
      rw [show o.crusts = false from hk] at hexec
      have hrest : (s.setPan p.val { x with state := .stopped, demand := 0 }).settleStop p.val =
          s.setPan p.val { x with state := .stopped, demand := 0 } :=
        State.settleStop_of_cause _ _ (by rw [State.pan_setPan]; exact hcause)
      exact ⟨_, hexec.trans (congrArg Host.Outcome.next hrest), hset _, State.pan_setPan ..⟩
  case resume =>
    intro r slot o hj ho hst h8 hlevel hadm product
    have hexec := fun bad => exec_crustResume p bad s r slot o hj ho hst h8 hlevel hadm
    refine ⟨fun hk bad => ?boil, fun hk hnone bad => ?none, fun c hk hnew => ?crust⟩
    case boil =>
      rw [show o.crusts = false from hk] at hexec
      exact ⟨_, hexec bad, hset _, State.pan_setPan ..⟩
    case none =>
      rw [show o.crusts = true from hk, hnone] at hexec
      exact ⟨_, hexec bad, hset _, State.pan_setPan ..⟩
    case crust =>
      rw [show o.crusts = true from hk, hnew] at hexec
      refine ⟨fun bad hbad => ?lost, fun hbad hok => ?wrong, fun hbad hok hat => ?goes⟩
      case lost =>
        have hexec := hexec bad
        rw [Option.elim_some, hbad] at hexec
        exact ⟨_, hexec, s.crustLost_effect o p.val⟩
      case wrong =>
        have hexec := hexec false
        rw [Option.elim_some, hbad, hok] at hexec
        exact ⟨_, hexec, s.crustWrong_effect p.val x _⟩
      case goes =>
        have hexec := hexec false
        obtain ⟨t, ht⟩ := Option.isSome_iff_exists.1 hat
        rw [Option.elim_some, hbad, hok, ht] at hexec
        obtain ⟨demand, hplace, hothers, hmem⟩ := State.restore_some ht
        refine ⟨t, hexec, ⟨hothers, hmem⟩, ?_⟩
        rw [hplace]
        exact ⟨rfl, rfl, rfl, rfl, rfl⟩

end Sys2Proof.Machine
end

section
/-! The rows VERSION SET, VERSION DROP and STREAM as they run (R115, R120, R121, R232): what the record of a refused work order
leaves as it is, and the launder entries after a set is loaded. -/

namespace Sys2Proof

/-- A sparse map after each key of a list has taken a value of its own. -/
theorem FMap.get_foldl_put {α : Type} [DecidableEq α] (d : α) (f : Nat → α) (l : List Nat) (m : FMap α) (i : Nat) :
    FMap.get d (l.foldl (fun m k => FMap.put d m k (f k)) m) i = if i ∈ l then f i else FMap.get d m i := by
  induction l generalizing m with
  | nil => rfl
  | cons k l ih =>
    rw [List.foldl_cons, ih]
    by_cases hk : i = k
    · subst hk
      simp
    · simp only [List.mem_cons, hk, false_or, FMap.get_put_ne _ _ _ hk]

end Sys2Proof

namespace Sys2Proof.Machine

/-! The record of a refused work order (R286, R296) -/

/-- From one state to the other the work orders, the version states, the trace and every object stay, but for the count of
refetches (2111/05, R249) and the pending bits of the rings (2350/01, R283). -/
def State.KeepsWork (s t : State) : Prop :=
  t.seq.orders = s.seq.orders ∧ t.seq.layers = s.seq.layers ∧ t.out = s.out ∧
    ∀ k, k ≠ okey 0x2111 5 → k ≠ okey 0x2350 1 → t.obj k = s.obj k

theorem State.KeepsWork.refl (s : State) : s.KeepsWork s := ⟨rfl, rfl, rfl, fun _ _ _ => rfl⟩

theorem State.KeepsWork.trans {s t u : State} (h : s.KeepsWork t) (h' : t.KeepsWork u) : s.KeepsWork u := by
  obtain ⟨horders, hlayers, hout, hobj⟩ := h
  obtain ⟨horders', hlayers', hout', hobj'⟩ := h'
  exact ⟨horders'.trans horders, hlayers'.trans hlayers, hout'.trans hout, fun k h5 h1 => (hobj' k h5 h1).trans (hobj k h5 h1)⟩

theorem State.keepsWork_setRing (s : State) (r : Nat) (x : Ring) : s.KeepsWork (s.setRing r x) := State.KeepsWork.refl s

theorem State.keepsWork_storeN (s : State) (a n v : Nat) : s.KeepsWork (s.storeN a n v) := by
  unfold State.storeN State.store State.refetch
  dsimp only
  split
  · exact State.KeepsWork.refl s
  · refine ⟨?_, ?_, ?_, fun k h5 _ => State.bump_obj_ne _ _ _ _ _ h5⟩ <;> rw [State.bump_eq] <;> rfl

theorem State.keepsWork_cplBit (s : State) (r : Nat) : s.KeepsWork (s.cplBit r) :=
  ⟨rfl, rfl, rfl, fun _ _ h1 => State.obj_setObj_ne _ _ _ _ h1⟩

theorem State.keepsWork_haltRing (s : State) (r : Nat) : s.KeepsWork (s.haltRing r) :=
  (s.keepsWork_setRing r _).trans (State.keepsWork_cplBit _ r)

theorem State.keepsWork_drainRing (s : State) (r : Nat) : s.KeepsWork (s.drainRing r) := by
  unfold State.drainRing
  dsimp only
  split
  · split <;> exact s.keepsWork_setRing r _
  · exact State.KeepsWork.refl s

/-- A record of STATUS 1 counts the refusal in 2351/02, between stores before it and the state of the ring after it. -/
theorem State.record_refused (s : State) (o : Order) (code : Nat) :
    ∃ t, s.KeepsWork t ∧ (t.bump64 (okey 0x2351 2)).KeepsWork (s.record o 1 code) := by
  have hcpl (t : State) (b : Bool) : t.KeepsWork (if b then t.cplBit o.ring else t) := by
    cases b
    · exact State.KeepsWork.refl t
    · exact t.keepsWork_cplBit o.ring
  have hhalt (t : State) (b : Bool) : t.KeepsWork (if b then t.haltRing o.ring else t) := by
    cases b
    · exact State.KeepsWork.refl t
    · exact t.keepsWork_haltRing o.ring
  exact ⟨_, ((s.keepsWork_storeN _ _ _).trans (State.keepsWork_setRing _ _ _)).trans (State.keepsWork_storeN _ _ _ _),
    ((hcpl _ _).trans (hhalt _ _)).trans (State.keepsWork_drainRing _ _)⟩

/-- A refusal for a version counts in 2321/07 before the record is written. -/
theorem State.refuse_version (s : State) (o : Order) :
    s.refuse o 0x0340 = ((s.event 0x0340).bump32 (okey 0x2321 7)).record o 1 0x0340 := rfl

/-- The effect of a refusal for a version: its event and two counts; the work orders and the version states stay. -/
theorem State.refuse_version_effect (s : State) (o : Order) :
    let t := s.refuse o 0x0340
    .event 0x0340 ∈ t.out ∧ t.seq.layers = s.seq.layers ∧ t.seq.orders = s.seq.orders ∧
      t.obj (okey 0x2321 7) = satAdd 32 (s.obj (okey 0x2321 7)) 1 ∧ t.obj (okey 0x2351 2) = satAdd 64 (s.obj (okey 0x2351 2)) 1 := by
  have h27 : okey 0x2321 7 ≠ okey 0x2351 2 := by decide
  obtain ⟨u, ⟨horders, hlayers, hout, hobj⟩, ⟨horders', hlayers', hout', hobj'⟩⟩ :=
    State.record_refused ((s.event 0x0340).bump32 (okey 0x2321 7)) o 0x0340
  rw [← State.refuse_version, State.bump64, State.bump_eq] at horders' hlayers' hout'
  rw [State.bump32, State.bump_eq] at horders hlayers hout
  refine ⟨?_, hlayers'.trans hlayers, horders'.trans horders, ?_, ?_⟩
  · rw [hout', hout]
    exact List.mem_cons_self
  · rw [State.refuse_version, hobj' _ (by decide) (by decide), State.bump64, State.bump_obj_ne _ _ _ _ _ h27,
      hobj _ (by decide) (by decide), State.bump32, State.bump_obj _ _ _ _ Nat.one_ne_zero]
    rfl
  · rw [State.refuse_version, hobj' _ (by decide) (by decide), State.bump64, State.bump_obj _ _ _ _ Nat.one_ne_zero,
      hobj _ (by decide) (by decide), State.bump32, State.bump_obj_ne _ _ _ _ _ h27.symm]
    rfl

/-! VERSION SET and VERSION DROP (R120, R121) -/

/-- An admitted work order that is refused as it runs: it is gone from those read, and the refusal follows. -/
def State.refuseRun (s : State) (o : Order) : State :=
  (s.setOrders (s.seq.orders.filter (fun q => !(q.is o.ring o.slot)))).refuse o 0x0340

/-- No work order is found in a slot whose work orders have been taken out. -/
theorem State.order?_of_filtered {s t : State} {r slot : Nat}
    (h : t.seq.orders = s.seq.orders.filter (fun q => !(q.is r slot))) : t.order? r slot = none := by
  rw [State.order?, h, List.find?_eq_none]
  intro q hq
  simpa using (List.mem_filter.1 hq).2

theorem State.toRun_order? {s : State} {r slot : Nat} {p : Kind → Bool} {o : Order} (h : s.toRun r slot p = some o) :
    s.order? r slot = some o := by
  unfold State.toRun at h
  split at h
  · contradiction
  next q hq =>
    split at h
    · rw [hq, Option.some.inj h]
    · contradiction

theorem State.refuseRun_effect {s : State} {r slot : Nat} {p : Kind → Bool} {o : Order} (h : s.toRun r slot p = some o) :
    let t := s.refuseRun o
    .event 0x0340 ∈ t.out ∧ t.seq.layers = s.seq.layers ∧ t.order? r slot = none ∧
      t.obj (okey 0x2321 7) = satAdd 32 (s.obj (okey 0x2321 7)) 1 ∧ t.obj (okey 0x2351 2) = satAdd 64 (s.obj (okey 0x2351 2)) 1 := by
  obtain ⟨rfl, rfl⟩ := State.order?_place (State.toRun_order? h)
  obtain ⟨hevent, hlayers, horders, hrefused, hrecords⟩ :=
    (s.setOrders (s.seq.orders.filter (fun q => !(q.is o.ring o.slot)))).refuse_version_effect o
  exact ⟨hevent, hlayers, State.order?_of_filtered horders, hrefused, hrecords⟩

/-- The version state that a VERSION SET gives its layer (R121). -/
def Layer.versionSet (x : Layer) (w : Nat) : Layer :=
  let x := (x.setVer (woVslot w) (woVver w)).setValid (woVslot w) true
  if woMknew w then { x with newest := decide (woVslot w = 1) } else x

theorem exec_versionSet_run {r : RingNo} {slot : Nat} {s : State} {o : Order} (h : s.toRun r.val slot (fun k => k == .vset) = some o) :
    exec (.versionSet r (.run slot)) s = .next (if s.versionRefuses (woVlayer o.raw) (woVslot o.raw) then s.refuseRun o
      else (s.setLayer (woVlayer o.raw) ((s.layer (woVlayer o.raw)).versionSet o.raw)).markRan r.val slot) := by
  show execVersionSet r (.run slot) s = _
  simp only [execVersionSet, h]
  split <;> rfl

theorem exec_versionDrop_run {r : RingNo} {slot : Nat} {s : State} {o : Order} (h : s.toRun r.val slot (fun k => k == .vdrop) = some o) :
    exec (.versionDrop r (.run slot)) s = .next (if s.versionRefuses (woVlayer o.raw) (woVslot o.raw) then s.refuseRun o
      else (s.setLayer (woVlayer o.raw) ((s.layer (woVlayer o.raw)).setValid (woVslot o.raw) false)).markRan r.val slot) := by
  show execVersionDrop r (.run slot) s = _
  simp only [execVersionDrop, h]
  split <;> rfl

@[simp] theorem State.markRan_strm (s : State) (r slot : Nat) : (s.markRan r slot).strm = s.strm := rfl
@[simp] theorem State.markRan_layer (s : State) (r slot l : Nat) : (s.markRan r slot).layer l = s.layer l := rfl
@[simp] theorem State.markRan_obj (s : State) (r slot k : Nat) : (s.markRan r slot).obj k = s.obj k := rfl

/-- A work order that has run and changed one layer alone. -/
theorem State.setLayer_markRan_effect (s : State) (r slot l : Nat) (x : Layer) :
    let t := (s.setLayer l x).markRan r slot
    (t.mem = s.mem ∧ t.fns = s.fns ∧ t.strm.queues = s.strm.queues) ∧ (∀ m, m ≠ l → t.layer m = s.layer m) ∧ t.layer l = x := by
  refine ⟨by simp, fun m hm => ?_, by simp⟩
  rw [State.markRan_layer, State.layer_setLayer_ne _ _ _ _ hm]

/-- Settles O21: both rows run by one case (`exec_versionSet_run`, `exec_versionDrop_run`), whose effect is that of the refusal. -/
theorem versionRowsRefused : Obligations.VersionRowsRefused := by
  unfold Obligations.VersionRowsRefused
  intro r slot o s hrefuses
  refine ⟨fun hrun => ⟨s.refuseRun o, ?set, State.refuseRun_effect hrun⟩, fun hrun => ⟨s.refuseRun o, ?drop, State.refuseRun_effect hrun⟩⟩
  case set => rw [exec_versionSet_run hrun, if_pos hrefuses]
  case drop => rw [exec_versionDrop_run hrun, if_pos hrefuses]

/-! STREAM (R232) -/

/-- The launders of the hubs of a mask, four to a hub. -/
def laundersOf (mask : Nat) : List Nat := (hubsOf mask).flatMap (fun h => (List.range 4).map (fun k => 4 * h + k))

theorem mem_laundersOf (mask l : Nat) : l ∈ laundersOf mask ↔ bit mask (l / 4) = true ∧ l / 4 < 64 := by
  simp only [laundersOf, hubsOf, List.mem_flatMap, List.mem_filter, List.mem_map, List.mem_range]
  constructor
  · rintro ⟨h, ⟨hlt, hbit⟩, k, hk, rfl⟩
    rw [show (4 * h + k) / 4 = h by omega]
    exact ⟨hbit, hlt⟩
  · rintro ⟨hbit, hlt⟩
    exact ⟨l / 4, ⟨hlt, hbit⟩, l % 4, by omega, by omega⟩

/-- The launder entries once the launders of a mask have taken those of a set; an entry equal to its reset value is unlisted. -/
def State.loadSet (s : State) (o : Order) : State :=
  s.setStrm { s.strm with lset := (laundersOf (woMask o.raw)).foldl (fun m l =>
    FMap.put none m l (if o.newEntry l = resetEntry (l % 4) then none else some (o.newEntry l))) s.strm.lset }

theorem State.loadSet_entry (s : State) (o : Order) (l : Nat) :
    (s.loadSet o).entry l = if bit (woMask o.raw) (l / 4) = true ∧ l / 4 < 64 then o.newEntry l else s.entry l := by
  simp only [State.entry, State.loadSet, State.setStrm_strm, FMap.get_foldl_put none, mem_laundersOf]
  split
  · by_cases hreset : o.newEntry l = resetEntry (l % 4) <;> simp [hreset]
  · rfl

theorem exec_stream_run {r : RingNo} {slot : Nat} {s : State} {o : Order} (h : s.toRun r.val slot (fun k => k == .stream) = some o) :
    exec (.stream r (.run slot)) s = .next (((s.loadSet o).setObj (okey 0x2110 3) (woSetbase o.raw)).markRan r.val slot) := by
  show execStream r (.run slot) s = _
  simp only [execStream, h]
  rfl

/-- Settles O20: a version row changes its layer alone (`State.setLayer_markRan_effect`), a STREAM loads the set that it has
read (`State.loadSet_entry`). -/
theorem versionAndStreamRowsRun : Obligations.VersionAndStreamRowsRun := by
  unfold Obligations.VersionAndStreamRowsRun
  intro r slot o s same l
  refine ⟨fun hrun hfree => ?set, fun hrun hfree => ?drop, fun hrun => ⟨_, exec_stream_run hrun, ⟨?mem, ?fns, rfl⟩, ?base, ?entries⟩⟩
  case set =>
    have hexec := exec_versionSet_run hrun
    rw [if_neg (Bool.eq_false_iff.1 hfree)] at hexec
    exact ⟨_, hexec, State.setLayer_markRan_effect ..⟩
  case drop =>
    have hexec := exec_versionDrop_run hrun
    rw [if_neg (Bool.eq_false_iff.1 hfree)] at hexec
    exact ⟨_, hexec, State.setLayer_markRan_effect ..⟩
  case mem => simp [State.loadSet]
  case fns => simp [State.loadSet]
  case base => simp
  case entries => exact s.loadSet_entry o

end Sys2Proof.Machine
end

section
/-! Bytes and numbers read back from package memory after a store, to the same place and beside it. -/

namespace Sys2Proof.Machine

theorem readBytes_eq_map (m : List Host.Cell) (a n : Nat) :
    readBytes m a n = (List.range n).map (fun i => FMap.get (0 : Byte) m (a + i)) := by
  induction n generalizing a with
  | zero => rfl
  | succ n ih =>
    rw [readBytes, ih, List.range_succ_eq_map, List.map_cons, List.map_map]
    congr 1
    exact List.map_congr_left fun i _ => by rw [Function.comp_apply, Nat.add_assoc, Nat.add_comm 1 i]

theorem readBytes_writeBytes_self (m : List Host.Cell) (a : Nat) (l : List Byte) : readBytes (writeBytes m a l) a l.length = l := by
  rw [readBytes_eq_map]
  refine List.ext_getElem (by simp) fun i _ hi => ?_
  simpa using get_writeBytes_in m a l i hi

theorem readBytes_writeBytes_out (m : List Host.Cell) (a : Nat) (l : List Byte) (b n : Nat) (h : b + n ≤ a ∨ a + l.length ≤ b) :
    readBytes (writeBytes m a l) b n = readBytes m b n := by
  simp only [readBytes_eq_map]
  refine List.map_congr_left fun i hi => get_writeBytes_out m a l (b + i) ?_
  have : i < n := List.mem_range.1 hi
  omega

@[simp] theorem State.store_mem (s : State) (a : Nat) (l : List Byte) : (s.store a l).mem = writeBytes s.mem a l := by
  unfold State.store State.refetch
  dsimp only
  split
  · rfl
  · rw [State.bump_eq]; rfl

theorem State.storeN_mem (s : State) (a n v : Nat) : (s.storeN a n v).mem = writeBytes s.mem a (leBytes n v) := s.store_mem a _

/-- A number stored reads back in its width. -/
theorem State.rdN_storeN_self (s : State) (a n v : Nat) : (s.storeN a n v).rdN a n = v % 256 ^ n := by
  have h := readBytes_writeBytes_self s.mem a (leBytes n v)
  rw [length_leBytes] at h
  rw [State.rdN, State.storeN_mem, h, leNat_leBytes]

theorem State.rdN_storeN_out (s : State) (a n v b k : Nat) (h : b + k ≤ a ∨ a + n ≤ b) : (s.storeN a n v).rdN b k = s.rdN b k := by
  rw [State.rdN, State.storeN_mem, readBytes_writeBytes_out _ _ _ _ _ (by simpa using h)]; rfl

theorem State.rdN_wrN_self (s : State) (a n v : Nat) : (s.wrN a n v).rdN a n = v % 256 ^ n := by
  have h := readBytes_writeBytes_self s.mem a (leBytes n v)
  rw [length_leBytes] at h
  show leNat (readBytes (writeBytes s.mem a (leBytes n v)) a n) = _
  rw [h, leNat_leBytes]

theorem State.rdN_of_mem {s t : State} (h : t.mem = s.mem) (a n : Nat) : t.rdN a n = s.rdN a n := by simp only [State.rdN, h]

/-- Bytes stored are in their place and nowhere else. -/
theorem State.mem_of_store {s t : State} {a : Nat} {l : List Byte} (h : t.mem = writeBytes s.mem a l) :
    t.rdBytes a l.length = l ∧ ∀ x, x < a ∨ a + l.length ≤ x → t.rd8 x = s.rd8 x := by
  constructor
  · rw [State.rdBytes, h, readBytes_writeBytes_self]
  · intro x hx
    rw [State.rd8, h, get_writeBytes_out _ _ _ _ hx, State.rd8]

/-- A table of 8-byte records written one after another, in whatever order: a record that reads as its value goes on to do so. -/
theorem State.rdN_foldl_storeN_keeps {α : Type} (base : Nat) (key : α → Nat) (g : Nat → Nat) (l : List α) (s : State) (k : Nat)
    (h : s.rdN (base + 8 * k) 8 = g k % 256 ^ 8) :
    (l.foldl (fun s x => s.storeN (base + 8 * key x) 8 (g (key x))) s).rdN (base + 8 * k) 8 = g k % 256 ^ 8 := by
  induction l generalizing s with
  | nil => exact h
  | cons x t ih =>
    refine ih _ ?_
    by_cases hk : key x = k
    · rw [← hk, State.rdN_storeN_self]
    · rw [State.rdN_storeN_out _ _ _ _ _ _ (by omega), h]

/-- Every record of the table reads as its value. -/
theorem State.rdN_foldl_storeN {α : Type} (base : Nat) (key : α → Nat) (g : Nat → Nat) (l : List α) (s : State) {x : α} (hx : x ∈ l) :
    (l.foldl (fun s x => s.storeN (base + 8 * key x) 8 (g (key x))) s).rdN (base + 8 * key x) 8 = g (key x) % 256 ^ 8 := by
  induction l generalizing s with
  | nil => simp at hx
  | cons y t ih =>
    rcases List.mem_cons.1 hx with rfl | hx
    · exact State.rdN_foldl_storeN_keeps base key g t _ _ (State.rdN_storeN_self ..)
    · exact ih _ hx

end Sys2Proof.Machine
end

section
/-! What the operations of attention leave of the revolution, of its counters and of the trace (R168 to R179). -/

namespace Sys2Proof.Machine

@[simp] theorem State.setRev_obj (s : State) (v : Rev) (k : Nat) : (s.setRev v).obj k = s.obj k := rfl
@[simp] theorem State.setRev_rev (s : State) (v : Rev) : (s.setRev v).att.rev = some v := rfl

/-- The counters of pairs processed, blocks sent, riders returned and blocks fetched (2511). -/
def blockCounts : List Nat := [okey 0x2511 3, okey 0x2511 5, okey 0x2511 6, okey 0x2511 9]

/-- The revolution, the tries of its walk and the counters of its blocks stay; what was raised or sent stays in the trace. -/
structure State.KeepsRev (s t : State) : Prop where
  rev : t.att.rev = s.att.rev
  tries : t.att.tries = s.att.tries
  count : ∀ k ∈ blockCounts, t.obj k = s.obj k
  out : s.out ⊆ t.out

theorem State.KeepsRev.refl (s : State) : s.KeepsRev s := ⟨rfl, rfl, fun _ _ => rfl, fun _ h => h⟩

theorem State.KeepsRev.trans {s t u : State} (h : s.KeepsRev t) (k : t.KeepsRev u) : s.KeepsRev u :=
  ⟨k.rev.trans h.rev, k.tries.trans h.tries, fun i hi => (k.count i hi).trans (h.count i hi), List.Subset.trans h.out k.out⟩

/-- A state in which only fields beside these differ. -/
theorem State.KeepsRev.of_eq {s t : State} (hatt : t.att = s.att) (hobjs : t.objs = s.objs) (hout : t.out = s.out) : s.KeepsRev t :=
  ⟨by rw [hatt], by rw [hatt], fun k _ => by rw [State.obj, State.obj, hobjs], by rw [hout]; exact fun _ h => h⟩

theorem State.KeepsRev.foldl {α : Type} {g : State → α → State} (l : List α) (s : State) (hg : ∀ s : State, ∀ a ∈ l, s.KeepsRev (g s a)) :
    s.KeepsRev (l.foldl g s) := by
  induction l generalizing s with
  | nil => exact .refl s
  | cons a t ih => exact (hg s a (by simp)).trans (ih _ fun s b hb => hg s b (by simp [hb]))

theorem State.KeepsRev.ite {s t u : State} {c : Prop} [Decidable c] (h : s.KeepsRev t) (k : s.KeepsRev u) :
    s.KeepsRev (if c then t else u) := by
  split
  · exact h
  · exact k

theorem State.KeepsRev.setRev {s t : State} (h : s.KeepsRev t) (v : Rev) : (s.setRev v).KeepsRev (t.setRev v) :=
  ⟨rfl, h.tries, h.count, h.out⟩

@[simp] theorem State.bump_att (s : State) (w k n : Nat) : (s.bump w k n).att = s.att := by rw [State.bump_eq]
@[simp] theorem State.bump_out (s : State) (w k n : Nat) : (s.bump w k n).out = s.out := by rw [State.bump_eq]

theorem State.KeepsRev.bump {s t : State} (h : s.KeepsRev t) (w k n : Nat) : (s.bump w k n).KeepsRev (t.bump w k n) := by
  refine ⟨by simpa using h.rev, by simpa using h.tries, fun i hi => ?_, by simpa using h.out⟩
  by_cases hn : n = 0
  · simpa only [State.bump, if_pos hn] using h.count i hi
  · by_cases hik : i = k
    · subst hik
      rw [State.bump_obj _ _ _ _ hn, State.bump_obj _ _ _ _ hn, h.count i hi]
    · rw [State.bump_obj_ne _ _ _ _ _ hik, State.bump_obj_ne _ _ _ _ _ hik, h.count i hi]

theorem State.bump_keepsRev (s : State) (w k n : Nat) (hk : k ∉ blockCounts) : s.KeepsRev (s.bump w k n) :=
  ⟨by simp, by simp, fun _ hi => State.bump_obj_ne _ _ _ _ _ fun h => hk (h ▸ hi), by simp⟩

theorem State.KeepsRev.bumped {s t : State} (h : s.KeepsRev t) {w k n : Nat} (hk : k ∉ blockCounts) : s.KeepsRev (t.bump w k n) :=
  h.trans (t.bump_keepsRev w k n hk)

theorem State.emit_keepsRev (s : State) (o : Out) : s.KeepsRev (s.emit o) := ⟨rfl, rfl, fun _ _ => rfl, List.subset_cons_self ..⟩

theorem State.updOrder_keepsRev (s : State) (r slot : Nat) (f : Order → Order) : s.KeepsRev (s.updOrder r slot f) := .of_eq rfl rfl rfl

theorem State.setPages_keepsRev (s : State) (l : List KvPage) : s.KeepsRev (s.setPages l) := ⟨rfl, rfl, fun _ _ => rfl, fun _ h => h⟩

/-! Stores -/

theorem State.store_keepsRev (s : State) (a : Nat) (l : List Byte) : s.KeepsRev (s.store a l) := by
  unfold State.store State.refetch
  dsimp only
  split
  · exact .of_eq rfl rfl rfl
  · refine .bumped ?_ (by decide)
    exact .of_eq rfl rfl rfl

theorem State.stageMem_keepsRev (s : State) (w b k : Nat) (st : FMap Nat) : s.KeepsRev (s.stageMem w b k st) := s.store_keepsRev _ _

theorem State.spillRow_keepsRev (s : State) (o : Order) (qb : Nat) : s.KeepsRev (s.spillRow o qb) :=
  .ite ((s.store_keepsRev _ _).trans (.of_eq rfl rfl rfl)) (.refl s)

/-! The KV parts (R23) -/

theorem State.kvRoom_keepsRev (s : State) (half n fuel : Nat) : s.KeepsRev (s.kvRoom half n fuel) := by
  induction fuel generalizing s with
  | zero => exact .refl s
  | succ fuel ih =>
    unfold State.kvRoom
    split
    · exact .refl s
    · split
      · exact .refl s
      · exact (s.setPages_keepsRev _).trans (ih _)

theorem State.disarm_keepsRev (s : State) : s.KeepsRev s.disarm :=
  ⟨rfl, rfl, fun i hi => State.obj_setObj_ne _ _ _ _ (by rintro rfl; revert hi; decide), fun _ h => h⟩

theorem State.kvKeep_keepsRev (s : State) (half a : Nat) (data : List Byte) : s.KeepsRev (s.kvKeep half a data) := by
  unfold State.kvKeep
  dsimp only
  refine .ite (.refl s) ?_
  exact ((s.setPages_keepsRev _).trans (State.kvRoom_keepsRev ..)).trans
    ((State.KeepsRev.ite (State.disarm_keepsRev _) (.refl _)).trans (State.setPages_keepsRev ..))

theorem State.disturb_keepsRev (s : State) : s.KeepsRev s.disturb := .ite (.of_eq rfl rfl rfl) (.refl s)

theorem State.logFault_keepsRev (s : State) (e : LogEnt) : s.KeepsRev (s.logFault e) := by
  refine .bumped (w := 32) (k := okey 0x2E20 1) (n := 1) ?_ (by decide)
  exact .of_eq rfl rfl rfl

theorem State.logRepair_keepsRev (s : State) (code : Nat) (l : Loc) : s.KeepsRev (s.logRepair code l) :=
  ((s.emit_keepsRev _).trans (State.disturb_keepsRev _)).trans (State.logFault_keepsRev _ _)

theorem State.kvRead_keepsRev (s : State) (half a n : Nat) : s.KeepsRev (s.kvRead half a n).1 := by
  unfold State.kvRead
  split
  · exact s.kvKeep_keepsRev ..
  · split
    · exact ((s.bump_keepsRev 64 (okey 0x2E10 7) 1 (by decide)).trans (State.bump_keepsRev _ 64 (okey 0x2E10 2) 1 (by decide))).trans
        ((State.logRepair_keepsRev ..).trans (State.setPages_keepsRev ..))
    · exact .refl s

/-! Outputs, riders and the end of the work order -/

theorem convert_snd_le (n : Nat) (inf : Bool) (v : Val) : (convert n inf v).2 ≤ 4 := by
  unfold convert
  dsimp only
  cases v with
  | nan => exact Nat.le_refl 4
  | inf neg => (repeat' split) <;> simp
  | fin neg m e => (repeat' split) <;> simp

theorem State.countOut_keepsRev (s : State) (r slot sub : Nat) (h : sub ≤ 4) : s.KeepsRev (s.countOut r slot sub) := by
  have hk : okey 0x2311 sub ∉ blockCounts := by
    simp only [blockCounts, okey, List.mem_cons, List.not_mem_nil, or_false]
    omega
  unfold State.countOut
  dsimp only
  refine .ite (.refl s) (.ite (s.bump_keepsRev _ _ _ hk) (.ite (s.bump_keepsRev _ _ _ hk) ?_))
  exact (s.bump_keepsRev _ _ _ hk).trans ((State.emit_keepsRev ..).trans (State.updOrder_keepsRev ..))

/-- Writes of outputs, with the counts of their conversions. -/
theorem State.foldl_outputs_keepsRev (s : State) (o : Order) (res : List ((Nat × List Byte) × Nat)) (ws : List (Nat × List Byte))
    (h : ∀ x ∈ res, x.2 ≤ 4) :
    s.KeepsRev (ws.foldl (fun s x => s.store x.1 x.2) (res.foldl (fun s x => s.countOut o.ring o.slot x.2) s)) :=
  (State.KeepsRev.foldl _ _ fun s x hx => s.countOut_keepsRev _ _ _ (h x hx)).trans (.foldl _ _ fun s _ _ => s.store_keepsRev _ _)

theorem State.writeRider_keepsRev (s : State) (o : Order) (b : KvBlock) : s.KeepsRev (s.writeRider o b) := by
  refine s.foldl_outputs_keepsRev o _ _ fun x hx => ?_
  rcases List.mem_append.1 hx with hx | hx <;> obtain ⟨y, -, rfl⟩ := List.mem_map.1 hx <;> exact convert_snd_le ..

/-- The revolution once the riders that may be written are written (R174). -/
def Rev.ridersWritten (v : Rev) : Rev :=
  if v.sendRound < v.size then v else { v with returned := [], written := v.written + v.returned.length }

theorem State.writeRiders_keepsRev (s : State) (o : Order) (v : Rev) : (s.setRev v.ridersWritten).KeepsRev (s.writeRiders o v) := by
  unfold State.writeRiders Rev.ridersWritten
  split
  · exact .refl _
  · exact (State.KeepsRev.foldl _ _ fun s b _ => s.writeRider_keepsRev o b).setRev _

theorem State.attEnd_keepsRev (s : State) (o : Order) : s.KeepsRev (s.attEnd o) := by
  unfold State.attEnd
  split
  · exact .refl s
  · exact .ite (s.updOrder_keepsRev ..) (.refl s)

theorem State.setRevEnd_keepsRev (s : State) (o : Order) (v : Rev) :
    (s.setRev (v.advance o).ridersWritten).KeepsRev (s.setRevEnd o v) :=
  (s.writeRiders_keepsRev o _).trans (State.attEnd_keepsRev ..)

/-! A fault of function 5 on the work order (R316) -/

@[simp] theorem State.disturb_att (s : State) : s.disturb.att = s.att := by unfold State.disturb; split <;> rfl
@[simp] theorem State.disturb_out (s : State) : s.disturb.out = s.out := by unfold State.disturb; split <;> rfl
@[simp] theorem State.logFault_att (s : State) (e : LogEnt) : (s.logFault e).att = s.att := by simp [State.logFault, State.bump32]
@[simp] theorem State.logFault_out (s : State) (e : LogEnt) : (s.logFault e).out = s.out := by simp [State.logFault, State.bump32]
@[simp] theorem State.enterFn_att (s : State) (n : Nat) (st tgt : FnState) (code : Nat) : (s.enterFn n st tgt code).att = s.att := by
  simp [State.enterFn, State.bump32]
@[simp] theorem State.enterFn_out (s : State) (n : Nat) (st tgt : FnState) (code : Nat) : (s.enterFn n st tgt code).out = s.out := by
  simp [State.enterFn, State.bump32]
@[simp] theorem State.eventIf_att (s : State) (b : Bool) (code : Nat) : (s.eventIf b code).att = s.att := by cases b <;> rfl
@[simp] theorem State.failOrders_att (s : State) (p : Order → Bool) (code : Nat) : (s.failOrders p code).att = s.att := rfl
@[simp] theorem State.failOrders_out (s : State) (p : Order → Bool) (code : Nat) : (s.failOrders p code).out = s.out := rfl
@[simp] theorem State.stopPans_att (s : State) (p : Nat → Pan → Bool) (cause : Nat) : (s.stopPans p cause).att = s.att := rfl
@[simp] theorem State.stopPans_out (s : State) (p : Nat → Pan → Bool) (cause : Nat) : (s.stopPans p cause).out = s.out := rfl

theorem State.eventIf_out (s : State) (b : Bool) (code : Nat) : s.out ⊆ (s.eventIf b code).out := by
  cases b
  · exact fun _ h => h
  · exact List.subset_cons_self ..

theorem State.fault_att (s : State) (n code : Nat) (l : Loc) : (s.fault n code l).att = s.att := by
  unfold State.fault
  dsimp only
  split <;> simp

theorem State.fault_out (s : State) (n code : Nat) (l : Loc) : s.out ⊆ (s.fault n code l).out := by
  unfold State.fault
  dsimp only
  split
  · rw [State.stopPans_out, State.failOrders_out, State.logFault_out, State.enterFn_out, State.setFn_out]
    exact fun e h => State.eventIf_out _ _ _ (by simpa using h)
  · simp

/-- What a fault of function 5 on the attention work order does, whatever has been done before it in the same step. -/
structure State.FaultedAtt (u t : State) (c : Nat) : Prop where
  code : t.obj (fnKey 5 4) = c
  mem : t.mem = u.mem
  att : t.att = u.att
  out : u.out ⊆ t.out
  fn : (u.fn 5).state = .running → (t.fn 5).state = .faulted ∧ (t.fn 5).fcode = c

theorem State.attFault_faultedAtt (s : State) (o : Order) (code : Nat) : s.FaultedAtt (s.attFault (some o) code) code where
  code := s.fault_obj_code 5 code _
  mem := s.fault_mem 5 code _
  att := s.fault_att 5 code _
  out := s.fault_out 5 code _
  fn h := ⟨s.fault_fn_of_running 5 code _ rfl h, s.fault_fcode_of_running 5 code _ rfl h⟩

/-! The work order and the revolution that a command acts on -/

theorem State.ensureRev_of_rev {s : State} {v : Rev} (o : Order) (h : s.att.rev = some v) : s.ensureRev o = s := by
  simp only [State.ensureRev, h]

theorem State.awake_of_attOrder? {s : State} {o : Order} (h : s.attOrder? = some o) : s.awake = true := by
  unfold State.attOrder? at h
  split at h
  · assumption
  · simp at h

theorem State.attNow_of_rev {s : State} {o : Order} {v : Rev} {r slot : Nat} (ho : s.attOrder? = some o) (hslot : o.is r slot = true)
    (hph : o.phase = .admitted) (hsnap : s.cfg.snap.state ≠ 2) (hrev : s.att.rev = some v) : s.attNow r slot = some (o, s) := by
  simp [State.attNow, ho, hslot, hph, hsnap, State.ensureRev_of_rev o hrev]

end Sys2Proof.Machine
end

section
/-! The KV page walks (R175 to R179): the lookups of a try, its end, and the wait for an even generation. -/

namespace Sys2Proof.Machine

theorem State.setWlb_keepsRev (s : State) (k : Nat) (x : WlbEnt) : s.KeepsRev (s.setWlb k x) := ⟨rfl, rfl, fun _ _ => rfl, fun _ h => h⟩

theorem State.kvDrop_keepsRev (s : State) (a : Nat) : s.KeepsRev (s.kvDrop a) := s.setPages_keepsRev _

theorem State.pageEntry_of_mem {s t : State} (h : t.mem = s.mem) (w e : Nat) : t.pageEntry w e = s.pageEntry w e := by
  simp only [State.pageEntry, State.rdN_of_mem h]

theorem State.KeepsRev.foldl_fst {α β : Type} {g : State × β → α → State × β} (l : List α) (x : State × β)
    (hg : ∀ (x : State × β) a, x.1.KeepsRev (g x a).1) : x.1.KeepsRev (l.foldl g x).1 := by
  induction l generalizing x with
  | nil => exact .refl x.1
  | cons a t ih => exact (hg x a).trans (ih _)

theorem State.wlbLook_keepsRev (s : State) (w b g e : Nat) : s.KeepsRev (s.wlbLook w b g e).1 := by
  have hstamp (n : Nat) : s.KeepsRev (s.setAtt { s.att with stamp := n }) := ⟨rfl, rfl, fun _ _ => rfl, fun _ h => h⟩
  unfold State.wlbLook
  dsimp only
  split
  · dsimp only
    refine .bumped (w := 64) (k := okey 0x2511 0x0A) (n := 1) ?_ (by decide)
    exact (hstamp _).trans (State.setWlb_keepsRev ..)
  · have hmiss (n : Nat) : s.KeepsRev ((s.setAtt { s.att with stamp := n }).bump64 (okey 0x2511 0x0B)) := (hstamp n).bumped (by decide)
    split
    · exact (hmiss _).trans ((State.setWlb_keepsRev ..).trans ((State.kvDrop_keepsRev ..).trans (State.kvDrop_keepsRev ..)))
    · exact hmiss _

theorem State.wlb_of_setWlb_bump {s : State} {m : FMap WlbEnt} (h : s.att.wlb = m) (k : Nat) (x : WlbEnt) (c : Nat) :
    ((s.setWlb k x).bump64 c).att.wlb = FMap.put {} m k x := by
  rw [State.bump64, State.bump_att, ← h]; rfl

theorem State.wlb_of_setWlb_kvDrop {s : State} {m : FMap WlbEnt} (h : s.att.wlb = m) (k : Nat) (x : WlbEnt) (a b : Nat) :
    (((s.setWlb k x).kvDrop a).kvDrop b).att.wlb = FMap.put {} m k x := by
  rw [← h]; rfl

/-- What a lookup of page e can do: give its addresses, from an entry of that page or from its VALID entry in memory, and leave an
entry of the page in the WLB; or find neither. -/
theorem State.wlbLook_cases (s : State) (w b g e : Nat) :
    (∃ p k x, (s.wlbLook w b g e).2 = some p ∧ (s.wlbLook w b g e).1.att.wlb = FMap.put {} s.att.wlb k x ∧ x.page = e ∧
      ((s.wlbAt k).valid = true ∧ (s.wlbAt k).page = e ∨ (s.pageEntry w e).2.1 = true)) ∨
    ((s.wlbLook w b g e).2 = none ∧ (s.wlbLook w b g e).1.att.wlb = s.att.wlb ∧ (s.pageEntry w e).2.1 = false) := by
  unfold State.wlbLook
  dsimp only
  split
  · next k hk =>
    obtain ⟨⟨⟨hvalid, -⟩, hpage⟩, -⟩ := by simpa using List.find?_some hk
    exact .inl ⟨_, _, _, rfl, State.wlb_of_setWlb_bump rfl _ _ _, hpage, .inl ⟨hvalid, hpage⟩⟩
  · have hwlb (n : Nat) : ((s.setAtt { s.att with stamp := n }).bump64 (okey 0x2511 0x0B)).att.wlb = s.att.wlb := by
      rw [State.bump64, State.bump_att]; rfl
    have hentry (n : Nat) : ((s.setAtt { s.att with stamp := n }).bump64 (okey 0x2511 0x0B)).pageEntry w e = s.pageEntry w e :=
      State.pageEntry_of_mem (by rw [State.bump64, State.bump_eq]; rfl) w e
    rw [hentry]
    split
    · next hok => exact .inl ⟨_, _, _, rfl, State.wlb_of_setWlb_kvDrop (hwlb _) _ _ _ _, rfl, .inr hok⟩
    · next hok => exact .inr ⟨rfl, hwlb _, by simpa using hok⟩

/-- One lookup after the lookups before it. -/
def lookStep (w b g : Nat) (acc : State × Option (List (Nat × Nat))) (e : Nat) : State × Option (List (Nat × Nat)) :=
  match acc.2 with
  | none => acc
  | some l => match acc.1.wlbLook w b g e with
    | (s, some p) => (s, some (l ++ [p]))
    | (s, none) => (s, none)

/-- The lookups of a try, up to the first entry without VALID. -/
def State.lookPages (s : State) (w b g : Nat) (es : List Nat) : State × Option (List (Nat × Nat)) :=
  es.foldl (lookStep w b g) (s, some [])

theorem lookStep_some (w b g e : Nat) (s : State) (l : List (Nat × Nat)) :
    lookStep w b g (s, some l) e = ((s.wlbLook w b g e).1, (s.wlbLook w b g e).2.map (fun p => l ++ [p])) := by
  unfold lookStep
  dsimp only
  split <;> next h => rw [h]; rfl

theorem lookStep_fst (w b g e : Nat) (acc : State × Option (List (Nat × Nat))) :
    (lookStep w b g acc e).1 = acc.1 ∨ (lookStep w b g acc e).1 = (acc.1.wlbLook w b g e).1 := by
  obtain ⟨s, _ | l⟩ := acc
  · exact .inl rfl
  · exact .inr (by rw [lookStep_some])

theorem State.lookPages_keepsRev (s : State) (w b g : Nat) (es : List Nat) : s.KeepsRev (s.lookPages w b g es).1 := by
  refine State.KeepsRev.foldl_fst (x := (s, some [])) es fun acc e => ?_
  rcases lookStep_fst w b g e acc with h | h <;> rw [h]
  · exact .refl _
  · exact State.wlbLook_keepsRev ..

theorem State.lookPages_mem (s : State) (w b g : Nat) (es : List Nat) : (s.lookPages w b g es).1.mem = s.mem :=
  foldl_fst_mem _ es (s, some []) fun acc e => by
    rcases lookStep_fst w b g e acc with h | h <;> rw [h]
    exact State.wlbLook_mem ..

theorem State.lookPages_fns (s : State) (w b g : Nat) (es : List Nat) : (s.lookPages w b g es).1.fns = s.fns :=
  foldl_fst_fns _ es (s, some []) fun acc e => by
    rcases lookStep_fst w b g e acc with h | h <;> rw [h]
    exact State.wlbLook_fns ..

theorem foldl_lookStep_none (w b g : Nat) (es : List Nat) (s : State) : es.foldl (lookStep w b g) (s, none) = (s, none) := by
  induction es with
  | nil => rfl
  | cons e t ih => exact ih

/-- Where every page has a VALID entry, the lookups give the addresses of all. -/
theorem foldl_lookStep_valid (w b g : Nat) (es : List Nat) (s : State) (l : List (Nat × Nat))
    (h : ∀ e ∈ es, (s.pageEntry w e).2.1 = true) : ∃ l', (es.foldl (lookStep w b g) (s, some l)).2 = some l' := by
  induction es generalizing s l with
  | nil => exact ⟨l, rfl⟩
  | cons e t ih =>
    rw [List.foldl_cons, lookStep_some]
    rcases s.wlbLook_cases w b g e with ⟨p, k, x, hp, -⟩ | ⟨-, -, hbad⟩
    · rw [hp]
      exact ih _ _ fun e' he' => by rw [State.pageEntry_of_mem (s.wlbLook_mem w b g e)]; exact h e' (by simp [he'])
    · simp [h e] at hbad

/-- Every valid entry of the WLB is of a page whose entry in memory is VALID. -/
def State.WlbOfValid (s : State) (w : Nat) : Prop := ∀ k, (s.wlbAt k).valid = true → (s.pageEntry w (s.wlbAt k).page).2.1 = true

theorem State.wlbOfValid_of_nil {s : State} (h : s.att.wlb = []) (w : Nat) : s.WlbOfValid w := by
  intro k hk
  simp [State.wlbAt, h] at hk

/-- Such a WLB gives nothing for a page without VALID, and stays so after a lookup. -/
theorem State.WlbOfValid.wlbLook {s : State} {w : Nat} (h : s.WlbOfValid w) (b g e : Nat) :
    (s.wlbLook w b g e).1.WlbOfValid w ∧ ((s.pageEntry w e).2.1 = false → (s.wlbLook w b g e).2 = none) := by
  have hentry (e' : Nat) : (s.wlbLook w b g e).1.pageEntry w e' = s.pageEntry w e' := State.pageEntry_of_mem (s.wlbLook_mem w b g e) w e'
  rcases s.wlbLook_cases w b g e with ⟨p, k, x, -, hwlb, hpage, hfrom⟩ | ⟨hnone, hwlb, -⟩
  · have hok : (s.pageEntry w e).2.1 = true := by
      rcases hfrom with ⟨hvalid, hke⟩ | hok
      · exact hke ▸ h k hvalid
      · exact hok
    refine ⟨fun i hi => ?_, fun hbad => by simp [hok] at hbad⟩
    rw [hentry]
    by_cases hik : i = k
    · subst hik
      rw [State.wlbAt, hwlb, FMap.get_put_self, hpage]
      exact hok
    · rw [State.wlbAt, hwlb, FMap.get_put_ne _ _ _ hik] at hi ⊢
      exact h i hi
  · refine ⟨fun i hi => ?_, fun _ => hnone⟩
    rw [hentry]
    rw [State.wlbAt, hwlb] at hi ⊢
    exact h i hi

/-- A page without VALID ends the lookups. -/
theorem foldl_lookStep_invalid (w b g : Nat) (es : List Nat) (s : State) (l : List (Nat × Nat)) (hw : s.WlbOfValid w)
    (h : ∃ e ∈ es, (s.pageEntry w e).2.1 = false) : (es.foldl (lookStep w b g) (s, some l)).2 = none := by
  induction es generalizing s l with
  | nil => simp at h
  | cons e t ih =>
    obtain ⟨hw', hnone⟩ := hw.wlbLook b g e
    obtain ⟨e', he', hbad⟩ := h
    rw [List.foldl_cons, lookStep_some]
    cases hlook : (s.wlbLook w b g e).2 with
    | none => rw [Option.map_none, foldl_lookStep_none]
    | some p =>
      have hne : e' ≠ e := by
        rintro rfl
        simp [hnone hbad] at hlook
      refine ih _ _ hw' ⟨e', (List.mem_cons.1 he').resolve_left hne, ?_⟩
      rw [State.pageEntry_of_mem (s.wlbLook_mem w b g e), hbad]

theorem State.walkPages_keepsRev (s : State) (w b : Nat) (pages : List (Nat × Nat)) : s.KeepsRev (s.walkPages w b pages).1 :=
  State.KeepsRev.foldl_fst (x := (s, [])) pages fun _ _ => (State.kvRead_keepsRev ..).trans (State.kvRead_keepsRev ..)

/-! The end of a try -/

/-- The block has been read while the generation stayed (R177). -/
def State.walkTaken (s : State) (v : Rev) (blk : KvBlock) : State :=
  ((s.setAtt { s.att with tries := 0 }).setRev { v with blocks := v.blocks ++ [blk] }).bump64 (okey 0x2511 9)

/-- The generation has changed while the block was read (R177). -/
def State.walkLost (s : State) (o : Order) : State :=
  ((((s.clearWlb (fun _ x => x.seqid = woSeqid o.raw)).bump64 (okey 0x2511 0x0D)).event 0x0510).orderEvent o.ring o.slot evWalk).walkFailed o

/-- Software makes g of the generation word. -/
def State.regenerate (s : State) (w : Nat) (genAfter : Option Nat) : State := match genAfter with
  | some g => s.wrN (woPtbase w) 8 g
  | none => s

theorem State.walkTry_odd {s : State} {o : Order} (v : Rev) (b : Nat) (genAfter : Option Nat) (h : s.rdN (woPtbase o.raw) 8 % 2 = 1) :
    s.walkTry o v b genAfter = (s.bump64 (okey 0x2511 0x0E)).setAtt { s.att with odd := true } := by
  unfold State.walkTry
  dsimp only
  rw [if_pos h]

theorem State.walkTry_even {s : State} {o : Order} (v : Rev) (b : Nat) (genAfter : Option Nat) (h : s.rdN (woPtbase o.raw) 8 % 2 = 0) :
    s.walkTry o v b genAfter =
      let u := s.lookPages o.raw b (s.rdN (woPtbase o.raw) 8) (s.blockPages o.raw b)
      match u.2 with
      | none => u.1.attFault (some o) 0x0540
      | some l =>
        let x := u.1.walkPages o.raw b l
        let y := x.1.regenerate o.raw genAfter
        if y.rdN (woPtbase o.raw) 8 = s.rdN (woPtbase o.raw) 8 then y.walkTaken v (x.1.walkBlock o.raw v b x.2) else y.walkLost o := by
  unfold State.walkTry
  dsimp only
  rw [if_neg (by omega)]
  rfl

theorem State.walkFailed_eq (s : State) (o : Order) :
    s.walkFailed o =
      let u := s.setAtt { s.att with tries := s.att.tries + 1 }
      if s.obj (okey 0x2590 4) ≤ s.att.tries + 1 then u.attFault (some o) 0x0541 else u := rfl

theorem State.walkFailed_att (s : State) (o : Order) : (s.walkFailed o).att = { s.att with tries := s.att.tries + 1 } := by
  rw [State.walkFailed_eq]
  dsimp only
  split
  · exact (State.attFault_faultedAtt ..).att
  · rfl

theorem State.walkFailed_out (s : State) (o : Order) : s.out ⊆ (s.walkFailed o).out := by
  rw [State.walkFailed_eq]
  dsimp only
  split
  · exact fun e he => (State.attFault_faultedAtt _ o _).out he
  · exact fun _ h => h

/-- A failed try that leaves more of them is no fault. -/
theorem State.walkFailed_fns {s : State} {o : Order} (h : s.att.tries + 1 < s.obj (okey 0x2590 4)) : (s.walkFailed o).fns = s.fns := by
  rw [State.walkFailed_eq]
  dsimp only
  rw [if_neg (Nat.not_le.2 h)]
  rfl

/-- The last failed try is fault 0x0541. -/
theorem State.walkFailed_code {s : State} {o : Order} (h : s.obj (okey 0x2590 4) ≤ s.att.tries + 1) :
    (s.walkFailed o).obj (fnKey 5 4) = 0x0541 := by
  rw [State.walkFailed_eq]
  dsimp only
  rw [if_pos h]
  exact (State.attFault_faultedAtt ..).code

/-- A block that is lost raises its event, leaves the revolution and is one failed try. -/
theorem State.walkLost_effect (s : State) (o : Order) :
    Out.event 0x0510 ∈ (s.walkLost o).out ∧ (s.walkLost o).att.rev = s.att.rev ∧ (s.walkLost o).att.tries = s.att.tries + 1 ∧
      (s.walkLost o).mem = s.mem := by
  have hatt : ((((s.clearWlb (fun _ x => x.seqid = woSeqid o.raw)).bump64 (okey 0x2511 0x0D)).event 0x0510).orderEvent o.ring o.slot evWalk).att =
      (s.clearWlb (fun _ x => x.seqid = woSeqid o.raw)).att := by rw [State.bump64, State.bump_eq]; rfl
  refine ⟨State.walkFailed_out _ _ (List.mem_cons_self ..), ?_, ?_, ?_⟩
  · rw [State.walkLost, State.walkFailed_att, hatt]; rfl
  · rw [State.walkLost, State.walkFailed_att, hatt]; rfl
  · rw [State.walkLost, State.walkFailed_mem, State.bump64, State.bump_eq]; rfl

theorem State.walkTaken_effect (s : State) (v : Rev) (blk : KvBlock) :
    (s.walkTaken v blk).att.rev = some { v with blocks := v.blocks ++ [blk] } ∧ (s.walkTaken v blk).att.tries = 0 ∧
      (s.walkTaken v blk).mem = s.mem ∧ (s.walkTaken v blk).fns = s.fns ∧
      (s.walkTaken v blk).obj (okey 0x2511 9) = satAdd 64 (s.obj (okey 0x2511 9)) 1 := by
  refine ⟨?_, ?_, ?_, ?_, State.bump_obj _ _ _ _ Nat.one_ne_zero⟩ <;> rw [State.walkTaken, State.bump64, State.bump_eq] <;> rfl

/-! The requests of a walk for translations (R176) -/

@[simp] theorem State.miss_att (s : State) (half page : Nat) : (s.miss half page).att = s.att := by
  unfold State.miss
  split
  · rfl
  · rw [State.bump64, State.bump_eq]; rfl

theorem State.miss_misses (s : State) (half page : Nat) :
    s.strm.misses ⊆ (s.miss half page).strm.misses ∧ (half, page) ∈ (s.miss half page).strm.misses := by
  unfold State.miss
  split
  · next h =>
    obtain ⟨⟨i, j⟩, hm, hij⟩ := List.any_eq_true.1 h
    obtain ⟨rfl, rfl⟩ : i = half ∧ j = page := by simpa using hij
    exact ⟨fun _ h => h, hm⟩
  · rw [State.bump64, State.bump_eq]
    exact ⟨List.subset_append_left .., List.mem_append_right _ (List.mem_singleton.2 rfl)⟩

theorem State.foldl_miss_att (half : Nat) (l : List Nat) (s : State) : (l.foldl (fun s p => s.miss half p) s).att = s.att := by
  induction l generalizing s with
  | nil => rfl
  | cons p t ih => rw [List.foldl_cons, ih, State.miss_att]

/-- Each page is asked for, and what has been asked for stays so. -/
theorem State.foldl_miss_misses (half : Nat) (l : List Nat) (s : State) :
    s.strm.misses ⊆ (l.foldl (fun s p => s.miss half p) s).strm.misses ∧
      ∀ p ∈ l, (half, p) ∈ (l.foldl (fun s p => s.miss half p) s).strm.misses := by
  induction l generalizing s with
  | nil => exact ⟨fun _ h => h, by simp⟩
  | cons p t ih =>
    obtain ⟨hkeep, hall⟩ := ih (s.miss half p)
    obtain ⟨hold, hnew⟩ := s.miss_misses half p
    refine ⟨List.Subset.trans hold hkeep, fun q hq => ?_⟩
    rcases List.mem_cons.1 hq with rfl | hq
    · exact hkeep hnew
    · exact hall q hq

/-! WALK and ODD_GENERATION_WAIT -/

/-- A walk of the next own block in round 0, with no wait for an even generation. -/
theorem exec_walk {r : RingNo} {slot : Nat} {s : State} {o : Order} {v : Rev} (hnow : s.attNow r.val slot = some (o, s))
    (hrev : s.att.rev = some v) (hround : v.round = 0) (hblock : v.inRound.length < attB o.raw) (hodd : s.att.odd = false) (g : Option Nat) :
    exec (.walk r slot v.inRound.length g) s = .next (
      if s.obj (okey 0x2590 4) ≤ s.att.tries then s.attFault (some o) 0x0541
      else if s.walkMisses o.raw v.inRound.length = [] then s.walkTry o v v.inRound.length g
      else (s.walkMisses o.raw v.inRound.length).foldl (fun s p => s.miss (attHalf o.raw v.inRound.length) p) s) := by
  show execWalk r slot v.inRound.length g s = _
  simp only [execWalk, hnow, hrev, hround, hodd, Nat.not_le.2 hblock, ne_eq, not_true_eq_false, decide_false, Bool.or_false,
    Bool.false_eq_true, if_false, List.isEmpty_iff]
  split
  · rfl
  · split <;> rfl

theorem exec_oddGenerationWait {r : RingNo} {slot : Nat} {s : State} {o : Order} (b : Nat) (ho : s.attOrder? = some o) (hslot : o.is r.val slot = true) :
    exec (.oddGenerationWait r slot b) s = .next (if s.att.odd then (s.setAtt { s.att with odd := false }).walkFailed o else s) := by
  show execOddGenerationWait r slot b s = _
  simp only [execOddGenerationWait, ho, hslot, Bool.true_and]
  split <;> rfl

/-- A fault of the walk leaves memory and the revolution, and stops function 5. -/
theorem State.FaultedAtt.of_keeps {s u t : State} {v : Rev} {code : Nat} (h : u.FaultedAtt t code) (hk : s.KeepsRev u) (hmem : u.mem = s.mem)
    (hfns : u.fns = s.fns) (hrev : s.att.rev = some v) :
    t.obj (fnKey 5 4) = code ∧ t.mem = s.mem ∧ t.att.rev = some v ∧
      ((s.fn 5).state = .running → (t.fn 5).state = .faulted ∧ (t.fn 5).fcode = code) := by
  refine ⟨h.code, h.mem.trans hmem, by rw [h.att, hk.rev, hrev], fun hr => h.fn ?_⟩
  rw [State.fn, hfns]
  exact hr

/-- An even generation, with a VALID entry of every page: the try reads the block, and takes it if the generation is still the same
(R177). -/
theorem State.walkTry_valid {s : State} {o : Order} (v : Rev) (b : Nat) (genAfter : Option Nat) (heven : s.rdN (woPtbase o.raw) 8 % 2 = 0)
    (hvalid : ∀ e ∈ s.blockPages o.raw b, (s.pageEntry o.raw e).2.1 = true) :
    ∃ u data, s.KeepsRev u ∧ u.mem = s.mem ∧ u.fns = s.fns ∧
      s.walkTry o v b genAfter = if (u.regenerate o.raw genAfter).rdN (woPtbase o.raw) 8 = s.rdN (woPtbase o.raw) 8
        then (u.regenerate o.raw genAfter).walkTaken v (u.walkBlock o.raw v b data) else (u.regenerate o.raw genAfter).walkLost o := by
  obtain ⟨l, hl⟩ := foldl_lookStep_valid o.raw b (s.rdN (woPtbase o.raw) 8) _ s [] hvalid
  have hlook : (s.lookPages o.raw b (s.rdN (woPtbase o.raw) 8) (s.blockPages o.raw b)).2 = some l := hl
  have hkeeps := s.lookPages_keepsRev o.raw b (s.rdN (woPtbase o.raw) 8) (s.blockPages o.raw b)
  have hmem := s.lookPages_mem o.raw b (s.rdN (woPtbase o.raw) 8) (s.blockPages o.raw b)
  have hfns := s.lookPages_fns o.raw b (s.rdN (woPtbase o.raw) 8) (s.blockPages o.raw b)
  rw [State.walkTry_even v b genAfter heven]
  dsimp only
  generalize s.lookPages o.raw b (s.rdN (woPtbase o.raw) 8) (s.blockPages o.raw b) = u at hlook hkeeps hmem hfns ⊢
  rw [hlook]
  exact ⟨(u.1.walkPages o.raw b l).1, (u.1.walkPages o.raw b l).2, hkeeps.trans (State.walkPages_keepsRev ..),
    (State.walkPages_mem ..).trans hmem, (State.walkPages_fns ..).trans hfns, rfl⟩

/-- An even generation, with no WLB entry and a page without VALID: the try ends in fault 0x0540 (R177). -/
theorem State.walkTry_invalid {s : State} {o : Order} (v : Rev) (b : Nat) (genAfter : Option Nat) (heven : s.rdN (woPtbase o.raw) 8 % 2 = 0)
    (hwlb : s.att.wlb = []) (hbad : ∃ e ∈ s.blockPages o.raw b, (s.pageEntry o.raw e).2.1 = false) :
    ∃ u, s.KeepsRev u ∧ u.mem = s.mem ∧ u.fns = s.fns ∧ s.walkTry o v b genAfter = u.attFault (some o) 0x0540 := by
  have hlook : (s.lookPages o.raw b (s.rdN (woPtbase o.raw) 8) (s.blockPages o.raw b)).2 = none :=
    foldl_lookStep_invalid _ _ _ _ s [] (State.wlbOfValid_of_nil hwlb _) hbad
  refine ⟨(s.lookPages o.raw b (s.rdN (woPtbase o.raw) 8) (s.blockPages o.raw b)).1, s.lookPages_keepsRev .., s.lookPages_mem ..,
    s.lookPages_fns .., ?_⟩
  rw [State.walkTry_even v b genAfter heven]
  dsimp only
  rw [hlook]

/-- Settles O54: `exec_walk` and `exec_oddGenerationWait` with the lemmas on the ends of a try. -/
theorem walksFetchBlocks : Obligations.WalksFetchBlocks := by
  unfold Obligations.WalksFetchBlocks
  intro r slot o v s ho hslot hph hsnap hrev
  have hnow := State.attNow_of_rev ho hslot hph hsnap hrev
  refine ⟨fun hround hblock hodd => ⟨fun hlast g => ?_, fun hmore hmiss g => ?_, fun hmore hmiss => ?_⟩,
    fun b => ⟨fun hodd => ?_, fun hodd => ?_⟩⟩
  · refine ⟨_, exec_walk hnow hrev hround hblock hodd g, ?_⟩
    rw [if_pos hlast]
    exact (s.attFault_faultedAtt o _).of_keeps (.refl s) rfl rfl hrev
  · refine ⟨_, exec_walk hnow hrev hround hblock hodd g, ?_⟩
    rw [if_neg (Nat.not_le.2 hmore), if_neg hmiss]
    exact ⟨State.foldl_miss_att .., foldl_mem _ _ _ fun _ _ => State.miss_mem .., (State.foldl_miss_misses ..).2⟩
  · have hexec (g : Option Nat) : exec (.walk r slot v.inRound.length g) s = .next (s.walkTry o v v.inRound.length g) := by
      rw [exec_walk hnow hrev hround hblock hodd g, if_neg (Nat.not_le.2 hmore), if_pos hmiss]
    refine ⟨fun hgen g => ?_, fun hgen hvalid => ⟨?_, fun g hg hne => ?_⟩, fun hgen hwlb hbad g => ?_⟩
    · refine ⟨_, hexec g, ?_⟩
      rw [State.walkTry_odd v _ g hgen]
      refine ⟨?_, ?_, State.bump_obj _ _ _ _ Nat.one_ne_zero⟩ <;> rw [State.bump64, State.bump_eq] <;> rfl
    · obtain ⟨u, data, hk, hmem, hfns, htry⟩ := State.walkTry_valid v v.inRound.length none hgen hvalid
      obtain ⟨hrev', htries, hmem', hfns', hcount⟩ := u.walkTaken_effect v (u.walkBlock o.raw v v.inRound.length data)
      refine ⟨_, u.walkBlock o.raw v v.inRound.length data, hexec none, ?_⟩
      rw [htry, if_pos (show (u.regenerate o.raw none).rdN _ 8 = _ from State.rdN_of_mem hmem ..)]
      exact ⟨hrev', rfl, rfl, rfl, rfl, rfl, htries, hmem'.trans hmem, hfns'.trans hfns,
        hcount.trans (by rw [hk.count _ (by decide)])⟩
    · obtain ⟨u, data, hk, hmem, hfns, htry⟩ := State.walkTry_valid v v.inRound.length (some g) hgen hvalid
      have hread : (u.regenerate o.raw (some g)).rdN (woPtbase o.raw) 8 = g := (State.rdN_wrN_self ..).trans (Nat.mod_eq_of_lt hg)
      obtain ⟨hout, hrev', htries, hmem'⟩ := (u.regenerate o.raw (some g)).walkLost_effect o
      refine ⟨_, hexec _, ?_⟩
      rw [htry, if_neg (by rw [hread]; exact hne)]
      exact ⟨hout, hrev'.trans (hk.rev.trans hrev), (State.rdN_of_mem hmem' ..).trans hread, htries.trans (congrArg (· + 1) hk.tries)⟩
    · obtain ⟨u, hk, hmem, hfns, htry⟩ := State.walkTry_invalid v v.inRound.length g hgen hwlb hbad
      refine ⟨_, hexec g, ?_⟩
      rw [htry]
      exact (u.attFault_faultedAtt o _).of_keeps hk hmem hfns hrev
  · refine ⟨_, exec_oddGenerationWait b ho hslot, ?_⟩
    rw [if_pos hodd]
    exact ⟨State.walkFailed_att .., State.walkFailed_mem .., fun h => State.walkFailed_fns h, fun h => State.walkFailed_code h⟩
  · rw [exec_oddGenerationWait b ho hslot, if_neg (by simp [hodd])]

end Sys2Proof.Machine
end

section
/-! The circulation of blocks (R168 to R172, R174): what a send, an arrival, a credit, a rider's return and a timeout answer. -/

namespace Sys2Proof.Machine

/-! BLOCK_SEND -/

/-- The block may be sent: it is the next of its train, with its credit, and in ATTB processed. -/
def Rev.sends (v : Rev) (o : Order) (block : Nat) (b : KvBlock) : Bool :=
  !b.sent && decide (block = (v.train.filter (fun x => x.sent)).length) && (!o.isB || b.processed) && !(v.drops o v.sendRound) &&
    v.mayTake v.sendRound

/-- The same with the rules on the last round and on the credit written out (R169, R170). -/
theorem Rev.sends_eq (v : Rev) (o : Order) (block : Nat) (b : KvBlock) : v.sends o block b =
    let last : Bool := v.sendRound + 1 = v.size
    (!b.sent && decide (block = (v.train.filter (fun x => x.sent)).length) && (!o.isB || b.processed) && (o.isB || !last) &&
      ((v.sendRound = 0 && !last) || v.credit.contains (if last then 2 else (v.sendRound + 1) % 2))) := by
  by_cases hlast : v.sendRound + 1 = v.size <;> simp [Rev.sends, Rev.drops, Rev.mayTake, Rev.need, hlast]

/-- What leaves the package with a block (R168). -/
def blockOut (o : Order) (v : Rev) (b : KvBlock) : Out :=
  .block (headerWord o v b (if !o.isB then 0 else if v.sendRound + 1 = v.size then 2 else 1))
    (if v.sendRound + 1 = v.size then [] else b.payload o.raw) (if o.isB then b.riderWords o.raw else [])

/-- The block is marked as sent, and the train's end is acted on. -/
def State.afterSend (s : State) (o : Order) (v : Rev) (block : Nat) : State :=
  let v := v.updBlock v.sendRound block (fun x => { x with sent := true })
  if v.train.length = attB o.raw && v.train.all (fun x => x.sent) then s.trainSent o v else s.setRevEnd o v

theorem State.trainSent_keepsRev (s : State) (o : Order) (v : Rev) : ∃ v', (s.setRev v').KeepsRev (s.trainSent o v) := by
  unfold State.trainSent
  dsimp only
  split
  · exact ⟨_, ((s.emit_keepsRev _).setRev _).trans (State.setRevEnd_keepsRev ..)⟩
  · exact ⟨_, State.setRevEnd_keepsRev ..⟩

theorem State.afterSend_keepsRev (s : State) (o : Order) (v : Rev) (block : Nat) : ∃ v', (s.setRev v').KeepsRev (s.afterSend o v block) := by
  unfold State.afterSend
  dsimp only
  split
  · exact State.trainSent_keepsRev ..
  · exact ⟨_, State.setRevEnd_keepsRev ..⟩

theorem exec_blockSend_none {s : State} {o : Order} {v : Rev} {block : Nat} (ho : s.attOrder? = some o) (hrev : s.att.rev = some v)
    (hb : v.block? v.sendRound block = none) : exec (.blockSend block) s = .next s := by
  show execBlockSend block s = _
  simp only [execBlockSend, ho, hrev, hb]

theorem exec_blockSend_some {s : State} {o : Order} {v : Rev} {block : Nat} {b : KvBlock} (ho : s.attOrder? = some o)
    (hrev : s.att.rev = some v) (hb : v.block? v.sendRound block = some b) :
    exec (.blockSend block) s =
      .next (if v.sends o block b = false ∨ s.cfg.snap.state = 2 then s
        else ((s.emit (blockOut o v b)).bump64 (okey 0x2511 5)).afterSend o v block) := by
  show execBlockSend block s = _
  simp only [execBlockSend, ho, hrev, hb]
  rw [show (!b.sent && decide (block = (v.train.filter (fun x => x.sent)).length) && (!o.isB || b.processed) && !(v.drops o v.sendRound) &&
    v.mayTake v.sendRound) = v.sends o block b from rfl]
  by_cases hstay : v.sends o block b = false ∨ s.cfg.snap.state = 2
  · rw [if_pos hstay, if_pos (by simpa using hstay)]
  · rw [if_neg hstay, if_neg (by simpa using hstay)]
    rfl

/-- A block that may be sent leaves with its header and is counted. -/
theorem exec_blockSend_sends {s : State} {o : Order} {v : Rev} {block : Nat} {b : KvBlock} (ho : s.attOrder? = some o)
    (hrev : s.att.rev = some v) (hb : v.block? v.sendRound block = some b) (hok : v.sends o block b = true) (hsnap : s.cfg.snap.state ≠ 2) :
    ∃ t, exec (.blockSend block) s = .next t ∧ t.fns = s.fns ∧ blockOut o v b ∈ t.out ∧
      t.obj (okey 0x2511 5) = satAdd 64 (s.obj (okey 0x2511 5)) 1 := by
  have hexec := exec_blockSend_some ho hrev hb
  rw [if_neg (by simp [hok, hsnap])] at hexec
  obtain ⟨v', hk⟩ := ((s.emit (blockOut o v b)).bump64 (okey 0x2511 5)).afterSend_keepsRev o v block
  refine ⟨_, hexec, ?_, hk.out ?_, ?_⟩
  · have hfns : outFns s.fns (exec (.blockSend block) s) := execBlockSend_fns block s
    rwa [hexec] at hfns
  · show blockOut o v b ∈ ((s.emit (blockOut o v b)).bump 64 (okey 0x2511 5) 1).out
    rw [State.bump_out]
    exact List.mem_cons_self ..
  · rw [hk.count _ (by decide)]
    exact State.bump_obj _ _ _ _ Nat.one_ne_zero

/-! SLOT_CREDIT -/

theorem exec_slotCredit {s : State} {v : Rev} (hawake : s.awake = true) (hrev : s.att.rev = some v) (slot : Nat) :
    exec (.slotCredit slot) s = .next (s.setRev { v with credit := slot :: v.credit }) := by
  show execSlotCredit slot s = _
  simp [execSlotCredit, hawake, hrev]

/-! BLOCK_ARRIVAL -/

/-- The block that arrives with header h is not one that is expected (R165, R170, R174). -/
def Rev.refusesBlock (v : Rev) (o : Order) (h : Nat) : Bool :=
  headerBad o v h (if o.isB then 1 else 0) (hbHop h) (roundOwner v.size v.pos (hbHop h)) || hbHop h = 0 || decide (v.size ≤ hbHop h) ||
    !(v.granted.contains (hbHop h)) || (v.block? (hbHop h) (hbBlock h)).isSome

/-- The block as it is held. -/
def arrivedBlock (o : Order) (h : Nat) (payload rider : List Byte) : KvBlock :=
  { owner := hbOwner h, block := hbBlock h, hop := hbHop h, pos := hbPos h, tokens := hbTokens h, base := hbBase h,
    keys := splitPayload o.raw 0 payload, vals := splitPayload o.raw 1 payload,
    rider := parseRider (woHkv o.raw * 2048 * woHd o.raw) rider }

/-- The bytes of a block in its slot of the receive area (R170). -/
def arrivedBytes (o : Order) (payload rider : List Byte) : List Byte :=
  payload.take (woHkv o.raw * 2048 * woHd o.raw) ++ (if o.isB then rider.take (4 * (woHkv o.raw * 2048 * woHd o.raw)) else [])

/-- The bytes are stored, and the payload is cached where it fits (R23, R170). -/
def State.takeBlock (s : State) (o : Order) (h : Nat) (payload rider : List Byte) : State :=
  (attHalves o.raw).foldl (fun s x => s.kvKeep x (slotAt o (hbHop h) (hbBlock h)) (payload.take (woHkv o.raw * 2048 * woHd o.raw)))
    (s.store (slotAt o (hbHop h) (hbBlock h)) (arrivedBytes o payload rider))

/-- The revolution with the block; a train that has come whole has used its credit (R170). -/
def Rev.withArrival (v : Rev) (o : Order) (b : KvBlock) : Rev :=
  let v := { v with blocks := v.blocks ++ [b] }
  if (v.blocks.filter (fun x => x.hop = b.hop)).length = attB o.raw then { v with granted := v.granted.erase b.hop } else v

theorem Rev.withArrival_blocks (v : Rev) (o : Order) (b : KvBlock) : (v.withArrival o b).blocks = v.blocks ++ [b] := by
  unfold Rev.withArrival
  dsimp only
  split <;> rfl

theorem State.takeBlock_mem (s : State) (o : Order) (h : Nat) (payload rider : List Byte) :
    (s.takeBlock o h payload rider).mem = writeBytes s.mem (slotAt o (hbHop h) (hbBlock h)) (arrivedBytes o payload rider) := by
  rw [State.takeBlock, foldl_mem _ _ _ fun _ _ => State.kvKeep_mem .., State.store_mem]

theorem State.takeBlock_fns (s : State) (o : Order) (h : Nat) (payload rider : List Byte) : (s.takeBlock o h payload rider).fns = s.fns := by
  rw [State.takeBlock, foldl_fns _ _ _ fun _ _ => State.kvKeep_fns .., State.store_fns]

theorem exec_blockArrival {s : State} {o : Order} {v : Rev} (ho : s.attOrder? = some o) (hrev : s.att.rev = some v)
    (header payload rider : List Byte) :
    exec (.blockArrival header payload rider) s =
      .next (if v.refusesBlock o (leNat header) then s.attFault (some o) 0x0531
        else (s.takeBlock o (leNat header) payload rider).setRev (v.withArrival o (arrivedBlock o (leNat header) payload rider))) := by
  show execBlockArrival header payload rider s = _
  simp only [execBlockArrival, State.awake_of_attOrder? ho, ho, State.ensureRev_of_rev o hrev, hrev, Bool.not_true, Bool.false_eq_true, if_false]
  exact (apply_ite Host.Outcome.next (v.refusesBlock o (leNat header) = true) _ _).symm

/-! RIDER_RETURN -/

/-- The rider that returns with header h is not one that is expected (R172, R174). -/
def Rev.refusesRider (v : Rev) (o : Order) (h : Nat) : Bool :=
  !o.isB || headerBad o v h 2 v.size v.pos || !(v.granted.contains v.size) || v.returned.any (fun x => x.block = hbBlock h) ||
    decide (attB o.raw ≤ v.returned.length + v.written)

/-- The rider as it is held. -/
def returnedRider (o : Order) (v : Rev) (h : Nat) (rider : List Byte) : KvBlock :=
  { owner := v.pos, block := hbBlock h, hop := v.size, pos := hbPos h, tokens := hbTokens h, base := hbBase h,
    rider := parseRider (woHkv o.raw * 2048 * woHd o.raw) rider }

/-- The revolution with a rider that has returned. -/
def Rev.withReturn (v : Rev) (b : KvBlock) : Rev := { v with returned := v.returned ++ [b] }

/-- The rider is in the return slot, and counted (R170, R172). -/
def State.takeRider (s : State) (o : Order) (h : Nat) (rider : List Byte) : State :=
  (s.store (woAttBase o.raw 5 + 2 * (attB o.raw * slotBlock o) + hbBlock h * (4 * (woHkv o.raw * 2048 * woHd o.raw)))
    (rider.take (4 * (woHkv o.raw * 2048 * woHd o.raw)))).bump64 (okey 0x2511 6)

theorem State.takeRider_mem (s : State) (o : Order) (h : Nat) (rider : List Byte) :
    (s.takeRider o h rider).mem = writeBytes s.mem
      (woAttBase o.raw 5 + 2 * (attB o.raw * slotBlock o) + hbBlock h * (4 * (woHkv o.raw * 2048 * woHd o.raw)))
      (rider.take (4 * (woHkv o.raw * 2048 * woHd o.raw))) := by
  rw [State.takeRider, State.bump64, State.bump_mem, State.store_mem]

theorem State.takeRider_fns (s : State) (o : Order) (h : Nat) (rider : List Byte) : (s.takeRider o h rider).fns = s.fns := by
  rw [State.takeRider, State.bump64, State.bump_fns, State.store_fns]

theorem State.takeRider_count (s : State) (o : Order) (h : Nat) (rider : List Byte) :
    (s.takeRider o h rider).obj (okey 0x2511 6) = satAdd 64 (s.obj (okey 0x2511 6)) 1 := by
  rw [State.takeRider, State.bump64, State.bump_obj _ _ _ _ Nat.one_ne_zero, (State.store_keepsRev ..).count _ (by decide)]

theorem exec_riderReturn {s : State} {o : Order} {v : Rev} (ho : s.attOrder? = some o) (hrev : s.att.rev = some v) (header rider : List Byte) :
    exec (.riderReturn header rider) s =
      .next (if v.refusesRider o (leNat header) then s.attFault (some o) 0x0531
        else ((s.takeRider o (leNat header) rider).writeRiders o (v.withReturn (returnedRider o v (leNat header) rider))).attEnd o) := by
  show execRiderReturn header rider s = _
  simp only [execRiderReturn, State.awake_of_attOrder? ho, ho, State.ensureRev_of_rev o hrev, hrev, Bool.not_true, Bool.false_eq_true, if_false]
  exact (apply_ite Host.Outcome.next (v.refusesRider o (leNat header) = true) _ _).symm

/-- Before the package's own last send the rider waits (R174). -/
theorem State.writeRiders_of_sends_left {s : State} {o : Order} {v : Rev} (h : v.sendRound < v.size) : s.writeRiders o v = s.setRev v :=
  if_pos h

/-! REMOTE_TIMEOUT -/

theorem exec_remoteTimeout {s : State} {o : Order} {v : Rev} (ho : s.attOrder? = some o) (hrev : s.att.rev = some v) :
    exec .remoteTimeout s = .next (if v.waits o then s.attFault (some o) 0x0530 else s) := by
  show execRemoteTimeout s = _
  simp only [execRemoteTimeout, ho, hrev]
  exact (apply_ite Host.Outcome.next (v.waits o = true) _ _).symm

/-- Settles O53, command by command: the equations of `exec` with what a send, a block and a rider leave. -/
theorem blocksGoRoundTheRing : Obligations.BlocksGoRoundTheRing := by
  unfold Obligations.BlocksGoRoundTheRing
  intro o v s ho hrev hawake
  have hfault (c : Instr) (code : Nat) (hc : exec c s = .next (s.attFault (some o) code)) :
      ∃ t, exec c s = .next t ∧ t.obj (fnKey 5 4) = code ∧ t.mem = s.mem ∧ t.att = s.att ∧
        ((s.fn 5).state = .running → (t.fn 5).state = .faulted ∧ (t.fn 5).fcode = code) :=
    have hf := s.attFault_faultedAtt o code
    ⟨_, hc, hf.code, hf.mem, hf.att, hf.fn⟩
  refine ⟨fun block hb => exec_blockSend_none ho hrev hb, fun block b hb => ⟨fun hok hsnap => ?sent, fun hok => ?notSent⟩,
    fun slot => ?credit, fun header payload rider => ⟨fun hbad => ?blockRefused, fun hbad => ?blockTaken⟩,
    fun header rider => ⟨fun hbad => ?riderRefused, fun hbad hleft => ?riderTaken⟩, fun hwait => ?timeout, fun hwait => ?noTimeout⟩
  case sent =>
    obtain ⟨t, hexec, hfns, hout, hcount⟩ := exec_blockSend_sends ho hrev hb ((v.sends_eq o block b).trans hok) hsnap
    refine ⟨t, hexec, hfns, ?_, hcount⟩
    simpa [blockOut] using hout
  case notSent => rw [exec_blockSend_some ho hrev hb, if_pos (.inl ((v.sends_eq o block b).trans hok))]
  case credit => exact ⟨_, exec_slotCredit hawake hrev slot, rfl, rfl⟩
  case blockRefused =>
    have hc := exec_blockArrival ho hrev header payload rider
    rw [if_pos (show v.refusesBlock o (leNat header) = true from hbad)] at hc
    exact hfault _ _ hc
  case blockTaken =>
    have hc := exec_blockArrival ho hrev header payload rider
    rw [if_neg (by rw [show v.refusesBlock o (leNat header) = false from hbad]; exact Bool.false_ne_true)] at hc
    obtain ⟨hin, hout⟩ := State.mem_of_store (s.takeBlock_mem o (leNat header) payload rider)
    exact ⟨_, _, arrivedBlock o (leNat header) payload rider, hc, rfl, v.withArrival_blocks o _, rfl, rfl, rfl, rfl, rfl, rfl, rfl, rfl,
      s.takeBlock_fns o _ payload rider, hin, hout⟩
  case riderRefused =>
    have hc := exec_riderReturn ho hrev header rider
    rw [if_pos (show v.refusesRider o (leNat header) = true from hbad)] at hc
    exact hfault _ _ hc
  case riderTaken =>
    have hc := exec_riderReturn ho hrev header rider
    rw [if_neg (by rw [show v.refusesRider o (leNat header) = false from hbad]; exact Bool.false_ne_true),
      State.writeRiders_of_sends_left (show (v.withReturn _).sendRound < (v.withReturn _).size from hleft)] at hc
    obtain ⟨hin, hout⟩ := State.mem_of_store (s.takeRider_mem o (leNat header) rider)
    have hk := State.attEnd_keepsRev ((s.takeRider o (leNat header) rider).setRev (v.withReturn (returnedRider o v (leNat header) rider))) o
    refine ⟨_, returnedRider o v (leNat header) rider, hc, rfl, hk.rev, ?_, ?_, ?_, ?_⟩
    · rw [State.attEnd_fns]
      exact s.takeRider_fns o _ rider
    · rw [State.rdBytes, State.attEnd_mem]
      exact hin
    · intro x hx
      rw [State.rd8, State.attEnd_mem]
      exact hout x hx
    · rw [hk.count _ (by decide)]
      exact s.takeRider_count o _ rider
  case timeout => exact hfault _ _ (by rw [exec_remoteTimeout ho hrev, if_pos hwait])
  case noTimeout => rw [exec_remoteTimeout ho hrev, if_neg (by simp [hwait])]

end Sys2Proof.Machine
end

section
/-! The rows ATTS, ATTF and ATTB (R155 to R162, R171): one query block against a block of the round, and the drain. -/

namespace Sys2Proof.Machine

/-! One query block -/

/-- The state in which a block's query block runs: its first one begins the block (R170, R171). -/
def State.attReady (s : State) (o : Order) (b : KvBlock) : State := if b.next = 0 then s.attBegin o b else s

/-- The row states before the query block; ATTB loads them before its first block (R161). -/
def State.attRows (s : State) (o : Order) (v : Rev) : FMap Row :=
  if o.isB && v.rows.isEmpty then
    (List.range (attHq o.raw)).foldl (fun m h => (List.range (woTq o.raw)).foldl (fun m t =>
      FMap.put {} m (h * woTq o.raw + t) (s.rowOfB o.raw h t)) m) []
  else v.rows

/-- The run of the block's next query block. -/
def State.attRun (s : State) (o : Order) (v : Rev) (b : KvBlock) : AttRun :=
  s.attPair o v b { rows := s.attRows o v, stage := if b.next = 0 then [] else v.stage } b.next

/-- The block after the run: processed after its last query block, when ATTB adds the staged contribution to the rider (R171). -/
def KvBlock.afterRun (b : KvBlock) (o : Order) (run : AttRun) : KvBlock :=
  if decide (attQbs o.raw ≤ b.next + 1) then { (if o.isB then b.addStage run.stage else b) with next := b.next + 1, processed := true }
  else { b with next := b.next + 1 }

def Rev.afterRun (v : Rev) (o : Order) (b : KvBlock) (run : AttRun) : Rev :=
  { v with rows := run.rows, stage := run.stage
           blocks := mapIf (fun x => x.hop = b.hop && x.block = b.block) (fun _ => b.afterRun o run) v.blocks }

/-- The staging copy and the row states that spill are stored (R156, R171). -/
def State.storeRun (s : State) (o : Order) (b : KvBlock) (run : AttRun) : State :=
  if run.pairs = 0 then s
  else (if o.isB then s.stageMem o.raw b.block (qbHead o.raw b.next / attG o.raw) run.stage else s).spillRow o b.next

/-- The run is counted, and saturation of dS raises its event. -/
def State.countRun (s : State) (o : Order) (run : AttRun) : State :=
  let s := ((s.bump 64 (okey 0x2511 3) run.pairs).bump 64 (okey 0x2511 4) run.skips).bump 64 (okey 0x2511 7) run.cnt.factors
  let s := s.bump 64 (okey 0x2511 8) run.cnt.sat
  if run.cnt.sat ≠ 0 && !((s.order? o.ring o.slot).any (fun q => bit q.events evDs)) then (s.event 0x0511).orderEvent o.ring o.slot evDs else s

theorem State.attProcess_eq (s : State) (o : Order) (v : Rev) (b : KvBlock) :
    s.attProcess o v b =
      let run := (s.attReady o b).attRun o v b
      (((s.attReady o b).setRev (v.afterRun o b run)).storeRun o b run).countRun o run := by
  unfold State.attProcess State.countRun State.storeRun Rev.afterRun KvBlock.afterRun State.attRun State.attRows State.attReady
  rfl

theorem State.attBegin_keepsRev (s : State) (o : Order) (b : KvBlock) : s.KeepsRev (s.attBegin o b) := by
  have hread : s.KeepsRev (if b.hop = 0 then s
      else (attHalves o.raw).foldl (fun s h => (s.kvRead h (slotAt o b.hop b.block) (woHkv o.raw * 2048 * woHd o.raw)).1) s) :=
    .ite (.refl s) (.foldl _ _ fun s _ _ => s.kvRead_keepsRev ..)
  exact .ite (hread.trans (.foldl _ _ fun s _ _ => s.stageMem_keepsRev ..)) hread

theorem State.attReady_keepsRev (s : State) (o : Order) (b : KvBlock) : s.KeepsRev (s.attReady o b) :=
  .ite (s.attBegin_keepsRev o b) (.refl s)

theorem State.attReady_mem {s : State} {o : Order} (b : KvBlock) (hB : o.isB = false) : (s.attReady o b).mem = s.mem := by
  have hread : (if b.hop = 0 then s
      else (attHalves o.raw).foldl (fun s h => (s.kvRead h (slotAt o b.hop b.block) (woHkv o.raw * 2048 * woHd o.raw)).1) s).mem = s.mem := by
    split
    · rfl
    · exact foldl_mem _ _ _ fun _ _ => State.kvRead_mem ..
  unfold State.attReady State.attBegin
  split
  · rw [hB, if_neg Bool.false_ne_true]
    exact hread
  · rfl

theorem State.storeRun_keepsRev (s : State) (o : Order) (b : KvBlock) (run : AttRun) : s.KeepsRev (s.storeRun o b run) :=
  .ite (.refl s) ((State.KeepsRev.ite (s.stageMem_keepsRev ..) (.refl s)).trans (State.spillRow_keepsRev ..))

theorem State.storeRun_mem {s : State} {o : Order} {b : KvBlock} (run : AttRun) (hB : o.isB = false) (hfit : rowsSpill o b.next = false) :
    (s.storeRun o b run).mem = s.mem := by
  simp [State.storeRun, State.spillRow, hB, hfit]

theorem State.countRun_keepsRev (s : State) (o : Order) (run : AttRun) :
    (s.bump 64 (okey 0x2511 3) run.pairs).KeepsRev (s.countRun o run) := by
  have hcount := (((State.KeepsRev.refl (s.bump 64 (okey 0x2511 3) run.pairs)).bumped (w := 64) (k := okey 0x2511 4) (n := run.skips) (by decide)).bumped
    (w := 64) (k := okey 0x2511 7) (n := run.cnt.factors) (by decide)).bumped (w := 64) (k := okey 0x2511 8) (n := run.cnt.sat) (by decide)
  exact .ite (hcount.trans ((State.emit_keepsRev ..).trans (State.updOrder_keepsRev ..))) hcount

@[simp] theorem State.countRun_mem (s : State) (o : Order) (run : AttRun) : (s.countRun o run).mem = s.mem := by
  unfold State.countRun
  dsimp only
  split <;> simp [State.event, State.orderEvent]

/-- After the query block the revolution holds the run's row states and block, and its pairs are counted. -/
theorem State.attProcess_keepsRev (s : State) (o : Order) (v : Rev) (b : KvBlock) :
    (((s.attReady o b).setRev (v.afterRun o b ((s.attReady o b).attRun o v b))).bump 64 (okey 0x2511 3)
      ((s.attReady o b).attRun o v b).pairs).KeepsRev (s.attProcess o v b) := by
  rw [State.attProcess_eq]
  exact ((State.storeRun_keepsRev ..).bump _ _ _).trans (State.countRun_keepsRev ..)

theorem State.attProcess_rev (s : State) (o : Order) (v : Rev) (b : KvBlock) :
    (s.attProcess o v b).att.rev = some (v.afterRun o b ((s.attReady o b).attRun o v b)) := by
  rw [(s.attProcess_keepsRev o v b).rev, State.bump_att]
  rfl

theorem State.attProcess_mem {s : State} {o : Order} {b : KvBlock} (v : Rev) (hB : o.isB = false) (hfit : rowsSpill o b.next = false) :
    (s.attProcess o v b).mem = s.mem := by
  rw [State.attProcess_eq]
  dsimp only
  rw [State.countRun_mem, State.storeRun_mem _ hB hfit]
  exact State.attReady_mem b hB

/-- Where no rider waits to be written, the end of a step writes nothing. -/
theorem State.setRevEnd_mem (s : State) (o : Order) {v : Rev} (h : v.returned = []) : (s.setRevEnd o v).mem = s.mem := by
  have hret : (v.advance o).returned = [] := by
    unfold Rev.advance
    dsimp only
    split <;> exact h
  rw [State.setRevEnd, State.attEnd_mem]
  unfold State.writeRiders
  split
  · rfl
  · rw [hret]; rfl

/-! The blocks of the round -/

theorem Rev.block?_spec {v : Rev} {hop k : Nat} {b : KvBlock} (h : v.block? hop k = some b) : b ∈ v.blocks ∧ b.hop = hop ∧ b.block = k :=
  ⟨List.mem_of_find?_eq_some h, by simpa using List.find?_some h⟩

theorem KvBlock.afterRun_last {b : KvBlock} {o : Order} (run : AttRun) (h : attQbs o.raw ≤ b.next + 1) : (b.afterRun o run).processed = true := by
  rw [KvBlock.afterRun, if_pos (decide_eq_true h)]

theorem KvBlock.afterRun_more {b : KvBlock} {o : Order} (run : AttRun) (h : b.next + 1 < attQbs o.raw) :
    b.afterRun o run = { b with next := b.next + 1 } := by
  rw [KvBlock.afterRun, if_neg (by simpa using h)]

theorem KvBlock.afterRun_place (b : KvBlock) (o : Order) (run : AttRun) : (b.afterRun o run).hop = b.hop ∧ (b.afterRun o run).block = b.block := by
  unfold KvBlock.afterRun KvBlock.addStage
  split
  · split <;> exact ⟨rfl, rfl⟩
  · exact ⟨rfl, rfl⟩

/-- A block found is found again as what it is replaced by, if that has its place. -/
theorem find?_mapIf {α : Type} {p : α → Bool} {l : List α} {x y : α} (h : l.find? p = some x) (hy : p y = true) :
    (mapIf p (fun _ => y) l).find? p = some y := by
  induction l with
  | nil => simp at h
  | cons a t ih =>
    cases ha : p a with
    | true => simp [mapIf, ha, hy]
    | false =>
      rw [List.find?_cons_of_neg (by simp [ha])] at h
      simpa [mapIf, ha] using ih h

@[simp] theorem Rev.afterRun_round (v : Rev) (o : Order) (b : KvBlock) (run : AttRun) : (v.afterRun o b run).round = v.round := rfl

theorem Rev.afterRun_block? {v : Rev} {o : Order} {b : KvBlock} {hop k : Nat} (run : AttRun) (h : v.block? hop k = some b) :
    (v.afterRun o b run).block? hop k = some (b.afterRun o run) := by
  obtain ⟨-, rfl, rfl⟩ := Rev.block?_spec h
  obtain ⟨hhop, hblock⟩ := b.afterRun_place o run
  exact find?_mapIf h (by simp [hhop, hblock])

/-- The round goes on while one of its blocks is not processed. -/
theorem Rev.advance_round {v : Rev} {b : KvBlock} (o : Order) (hb : b ∈ v.inRound) (hp : b.processed = false) : (v.advance o).round = v.round := by
  have hall : v.inRound.all (fun b => b.processed) = false := List.all_eq_false.2 ⟨b, hb, by simp [hp]⟩
  simp [Rev.advance, hall]

/-- A round that goes on keeps its blocks. -/
theorem Rev.advance_block? {v : Rev} {o : Order} (k : Nat) (h : (v.advance o).round = v.round) :
    (v.advance o).block? v.round k = v.block? v.round k := by
  have hblocks : (v.advance o).blocks = v.blocks.filter (fun x => !(decide (x.hop < (v.advance o).round) &&
      (decide (x.hop < v.sendRound) || v.drops o x.hop))) := by
    unfold Rev.advance
    dsimp only
    split <;> rfl
  rw [h] at hblocks
  rw [Rev.block?, Rev.block?, hblocks, List.find?_filter]
  congr 1
  funext x
  by_cases hx : x.hop = v.round <;> simp [hx]

@[simp] theorem Rev.advance_rows (v : Rev) (o : Order) : (v.advance o).rows = v.rows := by
  unfold Rev.advance
  dsimp only
  split <;> rfl

@[simp] theorem Rev.ridersWritten_rows (v : Rev) : v.ridersWritten.rows = v.rows := by unfold Rev.ridersWritten; split <;> rfl
@[simp] theorem Rev.ridersWritten_round (v : Rev) : v.ridersWritten.round = v.round := by unfold Rev.ridersWritten; split <;> rfl
@[simp] theorem Rev.ridersWritten_block? (v : Rev) (hop k : Nat) : v.ridersWritten.block? hop k = v.block? hop k := by
  unfold Rev.ridersWritten; split <;> rfl

/-- The revolution at the end of the step. -/
def Rev.stepped (v : Rev) (o : Order) (b : KvBlock) (run : AttRun) : Rev := ((v.afterRun o b run).advance o).ridersWritten

/-- While the round goes on it holds the block as the run leaves it. -/
theorem Rev.stepped_block? {v : Rev} {o : Order} {b : KvBlock} {k : Nat} (run : AttRun) (h : v.block? v.round k = some b)
    (hround : (v.stepped o b run).round = v.round) : (v.stepped o b run).block? v.round k = some (b.afterRun o run) := by
  have hadv : ((v.afterRun o b run).advance o).round = (v.afterRun o b run).round := by simpa [Rev.stepped] using hround
  rw [Rev.stepped, Rev.ridersWritten_block?]
  exact (Rev.advance_block? k hadv).trans (Rev.afterRun_block? run h)

/-- A block with a query block left is not processed, and the round goes on. -/
theorem Rev.stepped_round {v : Rev} {o : Order} {b : KvBlock} {k : Nat} (run : AttRun) (h : v.block? v.round k = some b)
    (hp : b.processed = false) (hmore : b.next + 1 < attQbs o.raw) : (v.stepped o b run).round = v.round := by
  obtain ⟨hmem, hhop, -⟩ := Rev.block?_spec (Rev.afterRun_block? (o := o) run h)
  have hnot : (b.afterRun o run).processed = false := by rw [KvBlock.afterRun_more _ hmore]; exact hp
  rw [Rev.stepped, Rev.ridersWritten_round]
  exact Rev.advance_round o (List.mem_filter.2 ⟨hmem, decide_eq_true hhop⟩) hnot

/-! The drain (R160) -/

/-- Every block of every round is processed. -/
def Rev.roundsDone (v : Rev) (o : Order) : Bool :=
  decide (v.size ≤ v.round) || (v.round + 1 = v.size && v.inRound.length = attB o.raw && v.inRound.all (fun b => b.processed))

theorem Rev.roundsDone_iff (v : Rev) (o : Order) : v.roundsDone o = true ↔
    v.size ≤ v.round ∨ (v.round + 1 = v.size ∧ v.inRound.length = attB o.raw ∧ ∀ b ∈ v.inRound, b.processed = true) := by
  simp [Rev.roundsDone, and_assoc]

theorem State.attDrain_rev (s : State) (o : Order) (v : Rev) : (s.attDrain o v).att.rev = some { v with drained := true } := by
  unfold State.attDrain
  dsimp only
  split <;> exact State.setRev_rev _ _

/-- The record of a row's statistics (R160). -/
def Row.stats (x : Row) : Nat := pack 0 32 x.m + pack 32 32 x.l

theorem Row.stats_mod (x : Row) : x.stats % 256 ^ 8 = x.m % 2 ^ 32 + 2 ^ 32 * (x.l % 2 ^ 32) := by
  rw [Row.stats, pack_eq, pack_eq]
  omega

/-- The drain of ATTS and ATTF ends with the records of all rows. -/
theorem State.attDrain_records (s : State) {o : Order} (v : Rev) (hB : o.isB = false) :
    ∃ u : State, s.attDrain o v =
      (((List.range (attHq o.raw)).flatMap (fun h => (List.range (woTq o.raw)).map (fun t => (h, t)))).foldl
        (fun s x => s.storeN (woStatbase o.raw + 8 * (x.1 * woTq o.raw + x.2)) 8 (FMap.get ({} : Row) v.rows (x.1 * woTq o.raw + x.2)).stats) u).setRev
        { v with drained := true } := by
  unfold State.attDrain Row.stats
  simp only [hB, Bool.false_eq_true, if_false]
  exact ⟨_, rfl⟩

/-- ATTS and ATTF leave m and l of every query row at STATBASE. -/
theorem State.attDrain_stats {s : State} {o : Order} (v : Rev) (hB : o.isB = false) {h q : Nat} (hh : h < attHq o.raw) (hq : q < woTq o.raw) :
    (s.attDrain o v).rdN (woStatbase o.raw + 8 * (h * woTq o.raw + q)) 8 =
      (FMap.get ({} : Row) v.rows (h * woTq o.raw + q)).m % 2 ^ 32 + 2 ^ 32 * ((FMap.get ({} : Row) v.rows (h * woTq o.raw + q)).l % 2 ^ 32) := by
  have hmem : (h, q) ∈ (List.range (attHq o.raw)).flatMap (fun h => (List.range (woTq o.raw)).map (fun t => (h, t))) := by
    exact List.mem_flatMap.2 ⟨h, List.mem_range.2 hh, List.mem_map.2 ⟨q, List.mem_range.2 hq, rfl⟩⟩
  obtain ⟨u, hu⟩ := s.attDrain_records v hB
  rw [← Row.stats_mod, hu, State.rdN_of_mem (State.setRev_mem ..)]
  have hread := State.rdN_foldl_storeN (woStatbase o.raw) (fun x : Nat × Nat => x.1 * woTq o.raw + x.2)
    (fun k => (FMap.get ({} : Row) v.rows k).stats) _ u hmem
  dsimp only at hread
  exact hread

/-! The commands -/

section
variable {r : RingNo} {slot : Nat} {o : Order} {v : Rev} {c : AttPhase → Instr} {s : State}

theorem exec_att (hc : c = .atts r ∧ o.kind = .boil 9 ∨ c = .attf r ∧ o.kind = .boil 10 ∨ c = .attb r ∧ o.kind = .attb) (ph : AttPhase) :
    exec (c ph) s = s.attRow o.kind r.val ph := by
  rcases hc with ⟨rfl, hk⟩ | ⟨rfl, hk⟩ | ⟨rfl, hk⟩ <;> rw [hk] <;> rfl

theorem State.attRow_process {block : Nat} {b : KvBlock} (hnow : s.attNow r.val slot = some (o, s)) (hrev : s.att.rev = some v)
    (hb : v.block? v.round block = some b) :
    s.attRow o.kind r.val (.process slot block) =
      .next (if b.processed = false ∧ block = (v.inRound.filter (fun x => x.processed)).length ∧
          s.panUp o (panAt (woMask o.raw) (b.next % pansOf (woMask o.raw))) = true
        then (s.attProcess o v b).setRevEnd o (v.afterRun o b ((s.attReady o b).attRun o v b)) else s) := by
  simp only [State.attRow, hnow, hrev, hb, s.attProcess_rev o v b]
  by_cases hgo : b.processed = false ∧ block = (v.inRound.filter (fun x => x.processed)).length ∧
      s.panUp o (panAt (woMask o.raw) (b.next % pansOf (woMask o.raw))) = true
  · rw [if_pos hgo]
    obtain ⟨hp, hblock, hup⟩ := hgo
    rw [if_pos (by simp [hp, ← hblock, hup])]
  · rw [if_neg hgo, if_neg]
    intro h
    simp only [Bool.and_eq_true, Bool.not_eq_true', decide_eq_true_eq] at h
    obtain ⟨⟨⟨_, hup⟩, hp⟩, hblock⟩ := h
    exact hgo ⟨hp, hblock, hup⟩

theorem State.attRow_drain (hnow : s.attNow r.val slot = some (o, s)) (hrev : s.att.rev = some v) :
    s.attRow o.kind r.val (.drain slot) =
      .next (if s.pansUp o = true ∧ v.drained = false ∧ v.roundsDone o = true then (s.attDrain o v).attEnd o else s) := by
  simp only [State.attRow, hnow, hrev]
  by_cases hgo : s.pansUp o = true ∧ v.drained = false ∧ v.roundsDone o = true
  · rw [if_pos hgo]
    obtain ⟨hup, hd, hall⟩ := hgo
    rw [Rev.roundsDone] at hall
    rw [if_pos (by simp [hup, hd, hall])]
  · rw [if_neg hgo, if_neg]
    intro h
    simp only [Bool.and_eq_true, Bool.not_eq_true'] at h
    obtain ⟨⟨⟨_, hup⟩, hd⟩, hall⟩ := h
    exact hgo ⟨hup, hd, hall⟩

end

/-- Settles O52: `State.attRow_process` with what a query block leaves, and `State.attRow_drain` with the statistics. -/
theorem attentionProcessesBlocks : Obligations.AttentionProcessesBlocks := by
  unfold Obligations.AttentionProcessesBlocks
  intro r slot o v c s hc ho hslot hph hsnap hrev
  have hnow := State.attNow_of_rev ho hslot hph hsnap hrev
  refine ⟨fun block b hb => ⟨fun hgo => ?stays, fun hgo => ?runs⟩, fun hno => ?noDrain, fun hd hall hup => ?drains⟩
  case stays => rw [exec_att hc, State.attRow_process hnow hrev hb, if_neg hgo]
  case runs =>
    have hexec : exec (c (.process slot block)) s = _ := (exec_att hc _).trans (State.attRow_process hnow hrev hb)
    rw [if_pos hgo] at hexec
    have hready := s.attReady_keepsRev o b
    have hproc := s.attProcess_keepsRev o v b
    have hend := State.setRevEnd_keepsRev (s.attProcess o v b) o (v.afterRun o b ((s.attReady o b).attRun o v b))
    intro u rows run
    have hrun : (s.attReady o b).attRun o v b = run := rfl
    rw [hrun] at hexec hproc hend
    clear_value run
    refine ⟨_, v.stepped o b run, hexec, hend.rev, ?_, ?_, fun hpairs => ?_, fun hmore => ?_, fun hlast hround => ?_, fun hB hfit hret => ?_⟩
    · rw [Rev.stepped, Rev.ridersWritten_rows, Rev.advance_rows]
      rfl
    · rw [State.setRevEnd_fns, State.attProcess_fns]
    · rw [hend.count _ (by decide), State.setRev_obj, hproc.count _ (by decide), State.bump_obj _ _ _ _ hpairs, State.setRev_obj,
        hready.count _ (by decide)]
    · have hround := Rev.stepped_round (o := o) run hb hgo.1 hmore
      refine ⟨_, Rev.stepped_block? run hb hround, ?_⟩
      rw [KvBlock.afterRun_more run hmore]
      exact ⟨rfl, hgo.1⟩
    · exact ⟨_, Rev.stepped_block? run hb hround, KvBlock.afterRun_last run hlast⟩
    · rw [State.setRevEnd_mem _ _ (show (v.afterRun o b run).returned = [] from hret), State.attProcess_mem v hB hfit]
  case noDrain =>
    rw [exec_att hc, State.attRow_drain hnow hrev, if_neg]
    rintro ⟨hup, hd, hall⟩
    rcases hno with hno | hno | hno
    · simp [hd] at hno
    · exact hno ((v.roundsDone_iff o).1 hall)
    · simp [hup] at hno
  case drains =>
    have hexec : exec (c (.drain slot)) s = _ := (exec_att hc _).trans (State.attRow_drain hnow hrev)
    rw [if_pos ⟨hup, hd, (v.roundsDone_iff o).2 hall⟩] at hexec
    refine ⟨_, { v with drained := true }, hexec, (State.attEnd_keepsRev ..).rev.trans (s.attDrain_rev o v), rfl, ?_, fun hB h q hh hq => ?_⟩
    · rw [State.attEnd_fns, State.attDrain_fns]
    · exact (State.rdN_of_mem (State.attEnd_mem ..) _ _).trans (State.attDrain_stats v hB hh hq)

end Sys2Proof.Machine
end

section
/-! What the writes and counts of a row that runs leave as it is: the Windrow, the count of coded elements, and the work orders but
for their EVENTS (R189, R205, R208, R222, R297). -/

namespace Sys2Proof.Machine

/-- The work order apart from its EVENTS (R297). -/
def Order.eventless (o : Order) : Order := { o with events := 0 }

/-- From one state to the other the Windrow, the count of elements coded (2611/02) and the work orders but for their EVENTS stay. -/
structure State.KeepsRun (s t : State) : Prop where
  win : t.win = s.win
  coded : t.obj (okey 0x2611 2) = s.obj (okey 0x2611 2)
  orders : t.seq.orders.map Order.eventless = s.seq.orders.map Order.eventless

theorem State.KeepsRun.refl (s : State) : s.KeepsRun s := ⟨rfl, rfl, rfl⟩

theorem State.KeepsRun.trans {s t u : State} (h : s.KeepsRun t) (h' : t.KeepsRun u) : s.KeepsRun u :=
  ⟨h'.win.trans h.win, h'.coded.trans h.coded, h'.orders.trans h.orders⟩

theorem State.KeepsRun.of_eq {s t : State} (hwin : t.win = s.win) (hobjs : t.objs = s.objs) (horders : t.seq.orders = s.seq.orders) :
    s.KeepsRun t :=
  ⟨hwin, by rw [State.obj, State.obj, hobjs], by rw [horders]⟩

theorem State.KeepsRun.foldl {α : Type} {g : State → α → State} (hg : ∀ t a, State.KeepsRun t (g t a)) (l : List α) (s : State) :
    s.KeepsRun (l.foldl g s) := by
  induction l generalizing s with
  | nil => exact .refl s
  | cons a l ih => exact (hg s a).trans (ih _)

theorem State.KeepsRun.ite {s t u : State} {c : Prop} [Decidable c] (h : s.KeepsRun t) (h' : s.KeepsRun u) :
    s.KeepsRun (if c then t else u) := by
  split
  · exact h
  · exact h'

/-- A work order found before is found after, with EVENTS of its own. -/
theorem State.KeepsRun.order? {s t : State} (h : s.KeepsRun t) {r slot : Nat} {o : Order} (ho : s.order? r slot = some o) :
    ∃ ev, t.order? r slot = some { o with events := ev } := by
  have hfind (u : State) : (u.seq.orders.map Order.eventless).find? (fun q => q.is r slot) = (u.order? r slot).map Order.eventless :=
    List.find?_map ..
  have hsame : (t.order? r slot).map Order.eventless = some o.eventless := by
    rw [← hfind, h.orders, hfind, ho, Option.map_some]
  obtain ⟨q, hq, heq⟩ := Option.map_eq_some_iff.1 hsame
  exact ⟨q.events, hq.trans (congrArg (fun x : Order => some { x with events := q.events }) heq)⟩

section
variable {s t : State} (h : s.KeepsRun t)
include h

/-! Events and counts -/

theorem State.KeepsRun.emit (x : Out) : s.KeepsRun (t.emit x) := h.trans (.of_eq rfl rfl rfl)

theorem State.KeepsRun.eventIf (b : Bool) (code : Nat) : s.KeepsRun (t.eventIf b code) := .ite (h.emit _) h

theorem State.KeepsRun.setStrm (x : Strm) : s.KeepsRun (t.setStrm x) := h.trans (.of_eq rfl rfl rfl)

theorem State.KeepsRun.bump {w k n : Nat} (hk : okey 0x2611 2 ≠ k) : s.KeepsRun (t.bump w k n) :=
  h.trans ⟨by rw [State.bump_eq], State.bump_obj_ne _ _ _ _ _ hk, by rw [State.bump_eq]⟩

theorem State.KeepsRun.orderEvent (r slot b : Nat) : s.KeepsRun (t.orderEvent r slot b) := by
  refine h.trans ⟨rfl, rfl, ?_⟩
  show (mapIf _ _ _).map _ = _
  rw [mapIf, List.map_map]
  refine List.map_congr_left fun q _ => ?_
  dsimp only [Function.comp_apply]
  split <;> rfl

/-! Writes to package memory (R248, R249) -/

theorem State.KeepsRun.store (a : Nat) (l : List Byte) : s.KeepsRun (t.store a l) := by
  have hbytes : s.KeepsRun (t.wrBytes a l) := h.trans (.of_eq rfl rfl rfl)
  exact .ite hbytes ((hbytes.setStrm _).bump (by decide))

theorem State.KeepsRun.storeN (a n v : Nat) : s.KeepsRun (t.storeN a n v) := h.store a _

theorem State.KeepsRun.carry (a b n : Nat) : s.KeepsRun (t.carry a b n) := .ite h (h.store ..)

theorem State.KeepsRun.countOut (r slot : Nat) {sub : Nat} (hsub : sub ≤ 4) : s.KeepsRun (t.countOut r slot sub) := by
  have hcount : s.KeepsRun (t.bump64 (okey 0x2311 sub)) := h.bump (by simp only [okey]; omega)
  exact .ite h (.ite hcount (.ite hcount ((hcount.emit _).orderEvent ..)))

/-! Write requests of a hub (R240, R243, R247) -/

theorem State.KeepsRun.miss (half page : Nat) : s.KeepsRun (t.miss half page) :=
  .ite h (((h.setStrm _).emit _).bump (by decide))

theorem State.KeepsRun.missFor (q : Req) : s.KeepsRun (t.missFor q) :=
  h.trans (.foldl (fun u _ => .ite (.refl u) ((State.KeepsRun.refl u).miss ..)) _ _)

theorem State.KeepsRun.holdWrite (q : Req) : s.KeepsRun (t.holdWrite q) :=
  (((h.setStrm _).emit _).bump (by decide)).orderEvent ..

theorem State.KeepsRun.judgeWrites (hub : Nat) : s.KeepsRun (t.judgeWrites hub) := by
  refine h.trans (.foldl (fun u w => ?_) _ _)
  split
  · exact .ite ((State.KeepsRun.refl u).holdWrite _) (.refl u)
  · exact .refl u

theorem State.KeepsRun.enqueue (q : Req) : s.KeepsRun (t.enqueue q) := ((h.missFor q).setStrm _).judgeWrites _

theorem State.KeepsRun.writeRun (hub : Nat) (who : Requester) (ring slot buf a : Nat) (l : List Byte) :
    s.KeepsRun (t.writeRun hub who ring slot buf a l) :=
  h.trans (.foldl (fun u _ => (State.KeepsRun.refl u).enqueue _) _ _)

/-! Write-back of resident groups (R104, R105, R222) -/

theorem State.KeepsRun.storeGroup (k : Nat) (f : Frame) : s.KeepsRun (t.storeGroup k f) := by
  have hhi := h.writeRun f.hub .window winRing (k / 2 ^ 20) 0
    (rgHibase (t.regionDesc (k / 2 ^ 20)) + 2048 * (k % 2 ^ 20)) (wordBytes f.hi)
  unfold State.storeGroup State.bump64
  exact (State.KeepsRun.writeRun (.ite (hhi.writeRun ..) hhi) ..).bump (by decide)

end

theorem State.keepsRun_writeBackGood (s : State) (p : Nat → Bool) : s.KeepsRun (s.writeBackGood p true) :=
  .foldl (fun u _ => .ite ((State.KeepsRun.refl u).storeGroup ..) (.refl u)) _ _

/-- Where none of a region's groups holds a parity error, its flush writes the groups back and no more (R105). -/
theorem State.flushRegion_of_good {s : State} {n : Nat} (h : ∀ e ∈ s.win.frames, e.1 / 2 ^ 20 = n → e.2.bad = false) :
    s.flushRegion n = s.writeBackGood (fun k => k / 2 ^ 20 = n) true := by
  have hnone : s.badGroups (fun k => k / 2 ^ 20 = n) = [] := by
    rw [State.badGroups, List.filter_eq_nil_iff]
    intro e he
    simpa using h e he
  rw [State.flushRegion, State.writeBackAll, hnone, List.isEmpty_nil, if_pos rfl]

end Sys2Proof.Machine
end

section
/-! The rows QCAL, UPDATE and PRECOND as they run: the codes and counts of a QCAL (R189, R191), the first step of a Harrow row and a
tile of its phase 2 (R205, R208, R213, R215, R222, R223). -/

namespace Sys2Proof.Machine

theorem State.toRun_phase {s : State} {r slot : Nat} {p : Kind → Bool} {o : Order} (h : s.toRun r slot p = some o) :
    o.phase = .admitted := by
  unfold State.toRun at h
  split at h
  · contradiction
  · split at h
    next q _ hq =>
      obtain rfl := Option.some.inj h
      simp only [Bool.and_eq_true, beq_iff_eq] at hq
      obtain ⟨⟨⟨⟨-, hphase⟩, -⟩, -⟩, -⟩ := hq
      exact hphase
    · contradiction

/-- What a slot reads after an update of its work order that leaves its place. -/
theorem State.order?_updOrder {s : State} {r slot : Nat} {o : Order} {f : Order → Order}
    (hf : ∀ q : Order, (f q).is r slot = q.is r slot) (h : s.order? r slot = some o) : (s.updOrder r slot f).order? r slot = some (f o) := by
  have hplace : (fun q : Order => q.is r slot) ∘ (fun q => if q.is r slot then f q else q) = fun q => q.is r slot := by
    funext q
    dsimp only [Function.comp_apply]
    split
    · exact hf q
    · rfl
  have hmine : o.is r slot = true := List.find?_some (p := fun q : Order => q.is r slot) h
  show (List.map _ _).find? _ = _
  rw [List.find?_map, hplace, show s.seq.orders.find? (fun q => q.is r slot) = some o from h, Option.map_some, if_pos hmine]

theorem State.order?_markRan {s : State} {r slot : Nat} {o : Order} (h : s.order? r slot = some o) :
    (s.markRan r slot).order? r slot = some { o with ran := true } := State.order?_updOrder (fun _ => rfl) h

/-! QCAL (R189, R191) -/

/-- A static scale of the descriptor that is not finite (R189). -/
def State.staticBad (s : State) (d : Nat) : Bool := (List.range (qUnits d)).any (fun u => !(dec32 (s.rdN (qdLsaddr d + 4 * u) 4)).finite)

theorem exec_qcal_run {r : RingNo} {slot : Nat} {s : State} {o : Order} (h : s.toRun r.val slot (fun k => k == .qcal) = some o)
    (hpans : s.pansUp o = true) : exec (.qcal r (.run slot)) s = .next (s.runQcal o (woQcalQd o.raw)) := by
  show execQcal r (.run slot) s = _
  simp only [execQcal, h, hpans, if_true]

/-- A QCAL with a static scale that is not finite ends before it writes. -/
theorem State.runQcal_of_bad {s : State} (o : Order) {n : Nat} (h : qdClass (s.qd n) = 1 ∧ s.staticBad (s.qd n) = true) :
    s.runQcal o n = (s.event 0x0614).updOrder o.ring o.slot (fun q => { q with phase := .ended 2 0x0614 }) := by
  obtain ⟨hclass, hbad⟩ := h
  unfold State.staticBad at hbad
  simp only [State.runQcal, hclass, hbad, decide_true, Bool.and_self, if_true]

/-- The counters of a QCAL (R192): elements coded, clipped, flat units, floored scales, groups that are not finite. -/
def State.countQcal (s : State) (coded clipped flat floored nonfin : Nat) : State :=
  ((((s.bump 64 (okey 0x2611 2) coded).bump 64 (okey 0x2611 3) clipped).bump 64 (okey 0x2611 4) flat).bump 64 (okey 0x2611 5) floored).bump
    64 (okey 0x2611 0x0A) nonfin

theorem State.countQcal_obj (s : State) {coded : Nat} (clipped flat floored nonfin : Nat) (h : coded ≠ 0) :
    (s.countQcal coded clipped flat floored nonfin).obj (okey 0x2611 2) = satAdd 64 (s.obj (okey 0x2611 2)) coded := by
  unfold State.countQcal
  rw [State.bump_obj_ne _ _ _ _ _ (by decide), State.bump_obj_ne _ _ _ _ _ (by decide), State.bump_obj_ne _ _ _ _ _ (by decide),
    State.bump_obj_ne _ _ _ _ _ (by decide), State.bump_obj _ _ _ _ h]

/-- Counting changes objects and nothing else. -/
theorem State.countQcal_eq (s : State) (coded clipped flat floored nonfin : Nat) :
    s.countQcal coded clipped flat floored nonfin = { s with objs := (s.countQcal coded clipped flat floored nonfin).objs } := by
  unfold State.countQcal
  rw [State.bump_eq _ _ (okey 0x2611 0x0A), State.bump_eq _ _ (okey 0x2611 5), State.bump_eq _ _ (okey 0x2611 4),
    State.bump_eq _ _ (okey 0x2611 3), State.bump_eq _ _ (okey 0x2611 2)]

theorem State.countQcal_win (s : State) (coded clipped flat floored nonfin : Nat) :
    (s.countQcal coded clipped flat floored nonfin).win = s.win := by rw [State.countQcal_eq]

theorem State.countQcal_order? (s : State) (coded clipped flat floored nonfin r slot : Nat) :
    (s.countQcal coded clipped flat floored nonfin).order? r slot = s.order? r slot := by rw [State.countQcal_eq]; rfl

/-- A QCAL that runs writes and raises its events, then counts, and is marked as having run. -/
theorem State.runQcal_of_finite {s : State} (o : Order) {n : Nat} (h : ¬(qdClass (s.qd n) = 1 ∧ s.staticBad (s.qd n) = true)) :
    ∃ u clipped flat floored nonfin, s.KeepsRun u ∧ s.runQcal o n =
      (u.countQcal (qElems (s.qd n) (s.qFlakes (s.qd n))).length clipped flat floored nonfin).markRan o.ring o.slot := by
  have hgood : (qdClass (s.qd n) = 1 && s.staticBad (s.qd n)) = false := by simpa using h
  unfold State.staticBad at hgood
  have hset (t : State) (b : Bool) (ht : s.KeepsRun t) :
      s.KeepsRun (if b then ((t.event 0x0610).bump32 (okey 0x2611 6)).orderEvent o.ring o.slot evRewetSet else t) :=
    .ite (((ht.emit _).bump (by decide)).orderEvent ..) ht
  have hflat (t : State) (b : Bool) (ht : s.KeepsRun t) :
      s.KeepsRun (if b then t else (t.event 0x0611).orderEvent o.ring o.slot evFlat) :=
    .ite ht ((ht.emit _).orderEvent ..)
  unfold State.runQcal
  rw [if_neg (by rw [hgood]; exact Bool.false_ne_true)]
  refine ⟨_, _, _, _, _, ?_, rfl⟩
  refine ((hflat _ _ (hset _ _ (State.KeepsRun.store ?_ _ _))).eventIf _ _).eventIf _ _
  exact .foldl (fun u x => (State.KeepsRun.refl u).store _ _) _ _

/-! The elements of phase 2 (R205, R206, R207, R213, R215) -/

section
variable {s t : State} (h : s.KeepsRun t) (o : Order) (x : HLayer)
include h

theorem State.KeepsRun.carryElem (i j : Nat) : s.KeepsRun (t.carryElem x i j) := by
  have hmaster := h.carry (x.src + x.moff + 4 * x.idx i j) (x.dst + x.moff + 4 * x.idx i j) 4
  unfold State.carryElem
  cases x.fwd with
  | none => exact .ite (hmaster.carry ..) hmaster
  | some f => exact .ite ((hmaster.carry ..).carry ..) (hmaster.carry ..)

theorem State.KeepsRun.stepElem (ic1 i j u : Nat) : s.KeepsRun (t.stepElem o x ic1 i j u) := by
  have hmom (a v : Nat) : s.KeepsRun (if hrMom x.h then t.storeN a 4 v else t) := .ite (h.storeN ..) h
  unfold State.stepElem
  cases x.fwd with
  | none => exact (hmom _ _).storeN ..
  | some f => exact (((hmom _ _).storeN ..).storeN ..).countOut _ _ (convert_snd_le ..)

theorem State.KeepsRun.vectorElem (i j : Nat) : s.KeepsRun (t.vectorElem o x i j) :=
  .ite ((h.carryElem x i j).carry ..) ((h.storeN ..).stepElem ..)

theorem State.KeepsRun.matrixElem (i j : Nat) : s.KeepsRun (t.matrixElem o x i j) :=
  .ite (h.carryElem x i j) (h.stepElem ..)

theorem State.KeepsRun.skipEnd : s.KeepsRun (t.skipEnd o x) := by
  have hheader := h.carry x.mSrc x.mDst 8192
  have hstats := State.KeepsRun.ite (c := x.vec = true) hheader
    ((hheader.carry (x.mSrc + x.roff) (x.mDst + x.roff) (4 * x.nr)).carry (x.mSrc + x.coff) (x.mDst + x.coff) (4 * x.cols))
  exact (((State.KeepsRun.ite (hstats.carry ..) hstats).bump (by decide)).emit _).orderEvent ..

theorem State.KeepsRun.lastTile (q : Nat) : s.KeepsRun (t.lastTile o x q) := by
  have helems : s.KeepsRun (if x.vec then
      ((List.range 256).filter (fun k => decide (256 * q + k < x.rows * x.cols))).foldl (fun u k =>
        u.vectorElem o x ((256 * q + k) / x.cols) ((256 * q + k) % x.cols)) t
    else (x.groupEls q).foldl (fun u e => u.matrixElem o x e.1 e.2) t) :=
    .ite (h.trans (.foldl (fun u _ => (State.KeepsRun.refl u).vectorElem ..) _ _))
      (h.trans (.foldl (fun u _ => (State.KeepsRun.refl u).matrixElem ..) _ _))
  exact .ite helems (.ite (helems.skipEnd o x) (helems.storeN ..))

end

/-! The steps of a Harrow row (R208, R222, R223) -/

/-- The work order once it has come to a stage and a tile of it, and what 2790/0A then shows (R223). -/
def Order.atStage (o : Order) (stage tiles : Nat) (ran : Bool) : Order :=
  { o with stage := stage, tiles := tiles, progress := (if stage ≤ 2 then 1 else stage - 1) * 2 ^ 30 + tiles, ran := ran }

theorem State.toStage_order? {s : State} {o q : Order} (stage tiles : Nat) (ran : Bool) (h : s.order? o.ring o.slot = some q) :
    (s.toStage o stage tiles ran).order? o.ring o.slot = some (q.atStage stage tiles ran) :=
  State.order?_updOrder (fun _ => rfl) h

/-- A Harrow row whose pan is up begins, or takes its next tile. -/
theorem State.harrowRow_run {k : Kind} {r slot : Nat} {s : State} {o : Order} (h : s.toRun r slot (fun q => q == k) = some o)
    (hpan : s.panUp o (panAt (woMask o.raw) (o.tiles % pansOf (woMask o.raw))) = true) :
    s.harrowRow k r (.run slot) = .next (if o.stage = 0 then s.beginHarrow o (s.hLayer o) else s.harrowStep o (s.hLayer o)) := by
  simp [State.harrowRow, h, State.runHarrow, hpan]

/-- The first step for a matrix whose groups hold no parity error: the write-back is asked for and phase 1 begins. -/
theorem State.beginHarrow_matrix {s : State} {o : Order} {x : HLayer} (hvec : x.vec = false) (hfn : (s.fn 12).state ≠ .faulted)
    (hgood : ∀ e ∈ s.win.frames, e.1 / 2 ^ 20 = x.region → e.2.bad = false) :
    s.beginHarrow o x = (s.writeBackGood (fun k => k / 2 ^ 20 = x.region) true).toStage o 1 0 := by
  have hdown : (s.writeBackGood (fun k => k / 2 ^ 20 = x.region) true).windrowDown = false := by
    rw [State.windrowDown, State.fn, State.writeBackGood_fns]
    exact beq_false_of_ne hfn
  simp only [State.beginHarrow, State.flushRegion_of_good hgood, hdown, hvec, Bool.false_eq_true, if_false, Bool.not_false, if_true]

/-- A tile of phase 2 of a work order that is live after it is counted, and is the last of the step if it is the last of its stage. -/
theorem State.harrowStep_of_stage_four {s : State} {o q : Order} {x : HLayer} (hstage : o.stage = 4)
    (hq : (s.lastTile o x o.tiles).order? o.ring o.slot = some q) (hlive : q.live = true) :
    s.harrowStep o x = (s.lastTile o x o.tiles).toStage o 4 (o.tiles + 1) (decide (x.stageTiles 4 ≤ o.tiles + 1)) := by
  have htile : s.harrowTile o x = s.lastTile o x o.tiles := by simp only [State.harrowTile, hstage]
  simp only [State.harrowStep, htile, hq, hlive, hstage, Bool.not_true, Bool.false_eq_true, if_false, if_true]
  split
  next hmore => rw [decide_eq_false (Nat.not_le.2 hmore)]
  next hlast => rw [decide_eq_true (Nat.not_lt.1 hlast)]

section
variable {k : Kind} {r slot : Nat} {s : State} {o : Order} (hrun : s.toRun r slot (fun q => q == k) = some o)
  (hpan : s.panUp o (panAt (woMask o.raw) (o.tiles % pansOf (woMask o.raw))) = true)
include hrun hpan

/-- The first step of a Harrow row on a matrix changes neither memory nor functions and leaves the work order at phase 1. -/
theorem State.harrowRow_begins (hstage : o.stage = 0) (hvec : (s.hLayer o).vec = false) (hfn : (s.fn 12).state ≠ .faulted)
    (hgood : ∀ e ∈ s.win.frames, e.1 / 2 ^ 20 = (s.hLayer o).region → e.2.bad = false) :
    ∃ t, s.harrowRow k r (.run slot) = .next t ∧ t.mem = s.mem ∧ t.fns = s.fns ∧
      ∃ q, t.order? r slot = some q ∧ q.stage = 1 ∧ q.tiles = 0 ∧ q.progress = 2 ^ 30 ∧ q.phase = .admitted := by
  have ho := State.toRun_order? hrun
  have hphase := State.toRun_phase hrun
  obtain ⟨rfl, rfl⟩ := State.order?_place ho
  obtain ⟨ev, hq⟩ := (s.keepsRun_writeBackGood (fun k => k / 2 ^ 20 = (s.hLayer o).region)).order? ho
  have hstep := State.harrowRow_run hrun hpan
  rw [if_pos hstage, State.beginHarrow_matrix hvec hfn hgood] at hstep
  exact ⟨_, hstep, State.writeBackGood_mem .., State.writeBackGood_fns .., _, State.toStage_order? 1 0 false hq, rfl, rfl, rfl, hphase⟩

/-- A tile of phase 2 changes neither functions nor the Windrow; the work order counts it, and the last one ends its run. -/
theorem State.harrowRow_takes (hstage : o.stage = 4) :
    ∃ t, s.harrowRow k r (.run slot) = .next t ∧ t.fns = s.fns ∧ t.win = s.win ∧
      ∃ q, t.order? r slot = some q ∧ q.stage = 4 ∧ q.tiles = o.tiles + 1 ∧ q.progress = 3 * 2 ^ 30 + (o.tiles + 1) ∧
        q.ran = decide ((s.hLayer o).stageTiles 4 ≤ o.tiles + 1) := by
  have ho := State.toRun_order? hrun
  have hphase := State.toRun_phase hrun
  obtain ⟨rfl, rfl⟩ := State.order?_place ho
  have hkeeps := (State.KeepsRun.refl s).lastTile o (s.hLayer o) o.tiles
  obtain ⟨ev, hq⟩ := hkeeps.order? ho
  have hlive : ({ o with events := ev } : Order).live = true := by simp [Order.live, hphase]
  have hstep := State.harrowRow_run hrun hpan
  rw [if_neg (by omega), State.harrowStep_of_stage_four hstage hq hlive] at hstep
  exact ⟨_, hstep, State.lastTile_fns .., hkeeps.win, _, State.toStage_order? 4 (o.tiles + 1) _ hq, rfl, rfl, rfl, rfl⟩

end

/-- Settles O26: a QCAL by `State.runQcal_of_finite` and `State.runQcal_of_bad`; UPDATE and PRECOND by one case, that of a Harrow row
(`State.harrowRow_begins`, `State.harrowRow_takes`). -/
theorem qcalAndHarrowRowsRun : Obligations.QcalAndHarrowRowsRun := by
  unfold Obligations.QcalAndHarrowRowsRun
  intro r slot o s
  refine ⟨fun hrun hpans => ⟨fun hfinite => ?runs, fun hbad => ?fails⟩, fun hpan => ⟨fun hrun => ?update, fun hrun => ?precond⟩⟩
  case runs =>
    have ho := State.toRun_order? hrun
    have hphase := State.toRun_phase hrun
    obtain ⟨hring, hslot⟩ := State.order?_place ho
    obtain ⟨u, clipped, flat, floored, nonfin, hkeeps, heffect⟩ := State.runQcal_of_finite o hfinite
    obtain ⟨ev, hu⟩ := hkeeps.order? ho
    rw [hring, hslot] at heffect
    refine ⟨_, { o with events := ev, ran := true }, exec_qcal_run hrun hpans, ?order, rfl, hphase,
      State.runQcal_fns .., ?win, fun hcoded => ?count⟩
    case order =>
      rw [heffect]
      exact State.order?_markRan ((State.countQcal_order? ..).trans hu)
    case win =>
      rw [heffect]
      exact (State.countQcal_win ..).trans hkeeps.win
    case count => rw [heffect, State.markRan_obj, State.countQcal_obj _ _ _ _ _ hcoded, hkeeps.coded]
  case fails =>
    have hexec := exec_qcal_run hrun hpans
    rw [State.runQcal_of_bad o hbad] at hexec
    have ho := State.toRun_order? hrun
    obtain ⟨hring, hslot⟩ := State.order?_place ho
    rw [hring, hslot] at hexec
    exact ⟨_, _, hexec, State.order?_updOrder (fun _ => rfl) ho, rfl, rfl, rfl, rfl, rfl⟩
  case update | precond =>
    exact ⟨fun ⟨hstage, hvec, hfn, hgood⟩ => State.harrowRow_begins hrun hpan hstage hvec hfn hgood,
      fun hstage => State.harrowRow_takes hrun hpan hstage⟩

end Sys2Proof.Machine
end

section
/-! Which commands leave package memory and which leave the function records (R248, R316): the frames of the meanings, gathered over
the commands. -/

namespace Sys2Proof.Machine

/-- A write of the GPE waits for the command that lets it arrive (R248). -/
theorem exec_mem_of_storesNothing (c : Instr) (s : State) (h : storesNothing c = true) : outMem s.mem (exec c s) := by
  cases c with
  | ringPoll r => exact execRingPoll_mem r s
  | segmentTimeout cl => exact execSegmentTimeout_mem cl s
  | heartbeat => exact execHeartbeat_mem s
  | busOff => exact execBusOff_mem s
  | busOffRecovery => exact execBusOffRecovery_mem s
  | lockoutExpiry cl => exact execLockoutExpiry_mem cl s
  | challengeExpiry cl => exact execChallengeExpiry_mem cl s
  | idleTimeout sess => exact execIdleTimeout_mem sess s
  | commitStored failedStep => exact execCommitStored_mem failedStep s
  | quiesced => exact execQuiesced_mem s
  | rakeFetch l => exact execRakeFetch_mem l s
  | urgent hub q => exact execUrgent_mem hub q s
  | oddEpochWait l => exact execOddEpochWait_mem l s
  | pageInvalidation half page => exact execPageInvalidation_mem half page s
  | handlePop l release => exact execHandlePop_mem l release s
  | gatePop l => exact execGatePop_mem l s
  | stillwater hub => exact execStillwater_mem hub s
  | stationaryLoad p a => exact execStationaryLoad_mem p a s
  | rippleLoad p => exact execRippleLoad_mem p s
  | beat p a cell => exact execBeat_mem p a cell s
  | chunkHandoff p a row => exact execChunkHandoff_mem p a row s
  | promotionEvent r slot group => exact execPromotionEvent_mem r slot group s
  | stopRequest p cause => exact execStopRequest_mem p cause s
  | crustSave p => exact execCrustSave_mem p s
  | crustResume p parityError => exact execCrustResume_mem p parityError s
  | park p holds offset again => exact execPark_mem p holds offset again s
  | slotCredit slot => exact execSlotCredit_mem slot s
  | remoteTimeout => exact execRemoteTimeout_mem s
  | oddGenerationWait r slot block => exact execOddGenerationWait_mem r slot block s
  | railCurrentSample half milliamps temps => exact execRailCurrentSample_mem half milliamps temps s
  | railAlert => exact execRailAlert_mem s
  | railEmg => exact execRailEmg_mem s
  | emergencyEnd => exact execEmergencyEnd_mem s
  | throttleStep => exact execThrottleStep_mem s
  | throttleRelease => exact execThrottleRelease_mem s
  | clockStepChange hub => exact execClockStepChange_mem hub s
  | refclkLost => exact execRefclkLost_mem s
  | hubHeartbeat => exact execHubHeartbeat_mem s
  | autonomousMode hub => exact execAutonomousMode_mem hub s
  | autonomousRamp hub => exact execAutonomousRamp_mem hub s
  | sequencerWatchdog => exact execSequencerWatchdog_mem s
  | flitReceived m toEast words => exact execFlitReceived_mem m toEast words s
  | replayTimeout m toEast => exact execReplayTimeout_mem m toEast s
  | moduleLeftActive m => exact execModuleLeftActive_mem m s
  | trainingAttemptTimeout => exact execTrainingAttemptTimeout_mem s
  | islandLinkWord k parityOk => exact execIslandLinkWord_mem k parityOk s
  | busError tec rec_ => exact execBusError_mem tec rec_ s
  | refclkRestored => exact execRefclkRestored_mem s
  | railAlertDeasserted => exact execRailAlertDeasserted_mem s
  | bankErased ok => exact execBankErased_mem ok s
  | _ => cases h

theorem exec_fns_of_leavesFunctions (c : Instr) (s : State) (h : leavesFunctions c = true) : outFns s.fns (exec c s) := by
  cases c with
  | doorbell r wrote => exact execDoorbell_fns r wrote s
  | ringPoll r => exact execRingPoll_fns r s
  | dx r => exact execDx_fns r s
  | dw r => exact execDw_fns r s
  | dualDraw r => exact execDualDraw_fns r s
  | atts r ph => exact execAtts_fns r ph s
  | attf r ph => exact execAttf_fns r ph s
  | attb r ph => exact execAttb_fns r ph s
  | qcal r ph => exact execQcal_fns r ph s
  | fence r => exact execFence_fns r s
  | versionSet r ph => exact execVersionSet_fns r ph s
  | versionDrop r ph => exact execVersionDrop_fns r ph s
  | versionPublish r => exact execVersionPublish_fns r s
  | stream r ph => exact execStream_fns r ph s
  | admission => exact execAdmission_fns s
  | preEmption r => exact execPreEmption_fns r s
  | segmentTimeout cl => exact execSegmentTimeout_fns cl s
  | heartbeat => exact execHeartbeat_fns s
  | busOff => exact execBusOff_fns s
  | busOffRecovery => exact execBusOffRecovery_fns s
  | lockoutExpiry cl => exact execLockoutExpiry_fns cl s
  | challengeExpiry cl => exact execChallengeExpiry_fns cl s
  | idleTimeout sess => exact execIdleTimeout_fns sess s
  | commitStored failedStep => exact execCommitStored_fns failedStep s
  | snapshotExpired => exact execSnapshotExpired_fns s
  | descriptorRead c => exact execDescriptorRead_fns c s
  | burst c => exact execBurst_fns c s
  | descriptorComplete c => exact execDescriptorComplete_fns c s
  | abortComplete c => exact execAbortComplete_fns c s
  | portGrant hub write => exact execPortGrant_fns hub write s
  | urgent hub q => exact execUrgent_fns hub q s
  | writeAcknowledged hub tag => exact execWriteAcknowledged_fns hub tag s
  | translationResponse half page x => exact execTranslationResponse_fns half page x s
  | pageInvalidation half page => exact execPageInvalidation_fns half page s
  | gatePop l => exact execGatePop_fns l s
  | stationaryLoad p a => exact execStationaryLoad_fns p a s
  | rippleLoad p => exact execRippleLoad_fns p s
  | chunkHandoff p a row => exact execChunkHandoff_fns p a row s
  | stopRequest p cause => exact execStopRequest_fns p cause s
  | crustSave p => exact execCrustSave_fns p s
  | stockpileArrival header data => exact execStockpileArrival_fns header data s
  | arrivalWritten => exact execArrivalWritten_fns s
  | spillComplete entry => exact execSpillComplete_fns entry s
  | blockSend block => exact execBlockSend_fns block s
  | slotCredit slot => exact execSlotCredit_fns slot s
  | railAlert => exact execRailAlert_fns s
  | railEmg => exact execRailEmg_fns s
  | emergencyEnd => exact execEmergencyEnd_fns s
  | throttleStep => exact execThrottleStep_fns s
  | throttleRelease => exact execThrottleRelease_fns s
  | clockStepChange hub => exact execClockStepChange_fns hub s
  | levelGrant half ns => exact execLevelGrant_fns half ns s
  | hubHeartbeat => exact execHubHeartbeat_fns s
  | autonomousMode hub => exact execAutonomousMode_fns hub s
  | autonomousRamp hub => exact execAutonomousRamp_fns hub s
  | sequencerWatchdog => exact execSequencerWatchdog_fns s
  | busError tec rec_ => exact execBusError_fns tec rec_ s
  | refclkRestored => exact execRefclkRestored_fns s
  | railAlertDeasserted => exact execRailAlertDeasserted_fns s
  | bankErased ok => exact execBankErased_fns ok s
  | _ => cases h

/-- Settles O58: each meaning keeps what it does not name, and a byte and a record are read from what is kept. -/
theorem commandsLeaveMemoryOrFunctions : Obligations.CommandsLeaveMemoryOrFunctions := by
  unfold Obligations.CommandsLeaveMemoryOrFunctions
  intro c s t ht
  refine ⟨fun h => ?_, fun h => ?_⟩
  · have hm : t.mem = s.mem := by simpa [ht] using exec_mem_of_storesNothing c s h
    exact ⟨hm, fun a => by rw [State.rd8, State.rd8, hm]⟩
  · have hf : t.fns = s.fns := by simpa [ht] using exec_fns_of_leavesFunctions c s h
    exact ⟨hf, fun n => by rw [State.fn, State.fn, hf]⟩

end Sys2Proof.Machine
end

section
/-! What a grant and what follows it at a channel leave as it is: the tags of the requests in flight with the place that each reads or
writes, and the count of grants (R240, R249, R259 to R274). -/

namespace Sys2Proof.Machine

/-- Where a request in flight reads or writes, under its tag (R240). -/
def Tag.place (t : Tag) : Nat × Nat × Bool × Nat × Nat := (t.no, t.req.hub, t.req.write, t.req.addr, t.req.len)

/-- From one state to the other the requests in flight stay at their places, and no grant is counted (2111/01). -/
structure State.KeepsTags (s t : State) : Prop where
  tags : t.strm.tags.map Tag.place = s.strm.tags.map Tag.place
  grants : t.obj (okey 0x2111 1) = s.obj (okey 0x2111 1)

theorem State.KeepsTags.refl (s : State) : s.KeepsTags s := ⟨rfl, rfl⟩

theorem State.KeepsTags.trans {s t u : State} (h : s.KeepsTags t) (h' : t.KeepsTags u) : s.KeepsTags u :=
  ⟨h'.tags.trans h.tags, h'.grants.trans h.grants⟩

theorem State.KeepsTags.of_eq {s t : State} (htags : t.strm.tags = s.strm.tags) (hobjs : t.objs = s.objs) : s.KeepsTags t :=
  ⟨by rw [htags], by rw [State.obj, State.obj, hobjs]⟩

theorem State.KeepsTags.foldl {α : Type} {g : State → α → State} (hg : ∀ t a, State.KeepsTags t (g t a)) (l : List α) (s : State) :
    s.KeepsTags (l.foldl g s) := by
  induction l generalizing s with
  | nil => exact .refl s
  | cons a l ih => exact (hg s a).trans (ih _)

theorem State.KeepsTags.ite {s t u : State} {c : Prop} [Decidable c] (h : s.KeepsTags t) (h' : s.KeepsTags u) :
    s.KeepsTags (if c then t else u) := by
  split
  · exact h
  · exact h'

/-- A change of the requests in flight that leaves their places. -/
theorem map_place_mapIf {f : Tag → Tag} {p : Tag → Bool} (hf : ∀ t, (f t).place = t.place) (l : List Tag) :
    (l.map (fun t => if p t then f t else t)).map Tag.place = l.map Tag.place := by
  rw [List.map_map]
  refine List.map_congr_left fun t _ => ?_
  rw [Function.comp_apply, apply_ite Tag.place, hf, ite_self]

section
variable {s t : State} (h : s.KeepsTags t)
include h

/-! Counts, events and single fields -/

theorem State.KeepsTags.setObj {k v : Nat} (hk : okey 0x2111 1 ≠ k) : s.KeepsTags (t.setObj k v) :=
  h.trans ⟨rfl, State.obj_setObj_ne _ _ _ _ hk⟩

theorem State.KeepsTags.bump {w k n : Nat} (hk : okey 0x2111 1 ≠ k) : s.KeepsTags (t.bump w k n) := .ite h (h.setObj hk)

theorem State.KeepsTags.emit (x : Out) : s.KeepsTags (t.emit x) := h.trans (.of_eq rfl rfl)

theorem State.KeepsTags.setChan (c : Nat) (x : Chan) : s.KeepsTags (t.setChan c x) := h.trans (.of_eq rfl rfl)

theorem State.KeepsTags.setStrm (x : Strm) (hx : x.tags.map Tag.place = t.strm.tags.map Tag.place := by rfl) : s.KeepsTags (t.setStrm x) :=
  h.trans ⟨hx, rfl⟩

theorem State.KeepsTags.setQueue (l : Nat) (x : Queue) : s.KeepsTags (t.setQueue l x) := h.setStrm _

theorem State.KeepsTags.moved (hub : Nat) : s.KeepsTags (t.moved hub) := h.trans (.of_eq rfl rfl)

theorem State.KeepsTags.updBuf (i : Nat) (f : Buf → Buf) : s.KeepsTags (t.updBuf i f) := h.setStrm _

theorem State.KeepsTags.freeBuf (i : Nat) : s.KeepsTags (t.freeBuf i) := h.setStrm _

theorem State.KeepsTags.orderEvent (r slot b : Nat) : s.KeepsTags (t.orderEvent r slot b) := h.trans (.of_eq rfl rfl)

theorem State.KeepsTags.cancelReads (i : Nat) : s.KeepsTags (t.cancelReads i) := h.setStrm _ (map_place_mapIf (fun _ => by rfl) _)

/-! Requests at a hub (R240, R243, R247) -/

theorem State.KeepsTags.miss (half page : Nat) : s.KeepsTags (t.miss half page) :=
  .ite h (((h.setStrm _).emit _).bump (by decide))

theorem State.KeepsTags.missFor (q : Req) : s.KeepsTags (t.missFor q) :=
  h.trans (.foldl (fun u _ => .ite (.refl u) ((State.KeepsTags.refl u).miss ..)) _ _)

theorem State.KeepsTags.holdWrite (q : Req) : s.KeepsTags (t.holdWrite q) :=
  (((h.setStrm _).emit _).bump (by decide)).orderEvent ..

theorem State.KeepsTags.judgeWrites (hub : Nat) : s.KeepsTags (t.judgeWrites hub) := by
  refine h.trans (.foldl (fun u w => ?_) _ _)
  split
  · exact .ite ((State.KeepsTags.refl u).holdWrite _) (.refl u)
  · exact .refl u

theorem State.KeepsTags.enqueue (q : Req) : s.KeepsTags (t.enqueue q) := ((h.missFor q).setStrm _).judgeWrites _

/-! Handles (R228, R270) -/

theorem State.KeepsTags.repace (c : Nat) : s.KeepsTags (t.repace c) :=
  .ite ((h.setChan ..).bump (by decide)) h

theorem State.KeepsTags.repaceAll (l : Nat) : s.KeepsTags (t.repaceAll l) :=
  h.trans (.foldl (fun u _ => (State.KeepsTags.refl u).repace _) _ _)

theorem State.KeepsTags.pushHandle (l : Nat) (x : Handle) : s.KeepsTags (t.pushHandle l x) :=
  ((h.setQueue ..).moved _).repaceAll l

theorem State.KeepsTags.popHandle (l : Nat) (hold : Bool) : s.KeepsTags (t.popHandle l hold) := by
  unfold State.popHandle
  dsimp only
  split
  · exact h
  · exact ((h.setQueue ..).moved _).repaceAll l

/-! Stores and status records (R249, R273) -/

theorem State.KeepsTags.storeN (a n v : Nat) : s.KeepsTags (t.storeN a n v) :=
  have hbytes : s.KeepsTags (t.wrBytes a (leBytes n v)) := h.trans (.of_eq rfl rfl)
  .ite hbytes ((hbytes.setStrm _).bump (by decide))

theorem State.KeepsTags.dmaStatus (c code fcode : Nat) (ended : Bool) : s.KeepsTags (t.dmaStatus c code fcode ended) := by
  unfold State.dmaStatus
  dsimp only
  exact (h.setChan ..).storeN ..

theorem State.KeepsTags.dmaPend {sub : Nat} (c : Nat) (hsub : sub ≤ 255) : s.KeepsTags (t.dmaPend sub c) :=
  h.setObj (by simp only [okey]; omega)

/-! Halts (R258, R261, R274) -/

theorem State.KeepsTags.dropStaged (c : Nat) (p : Buf → Bool) : s.KeepsTags (t.dropStaged c p) :=
  (h.trans (.foldl (fun u i => (State.KeepsTags.refl u).cancelReads i) _ _)).setStrm _

theorem State.KeepsTags.pushStaged (c fuel : Nat) : s.KeepsTags (t.pushStaged c fuel) := by
  induction fuel generalizing t with
  | zero => exact h
  | succ n ih =>
    unfold State.pushStaged
    split
    · exact h
    · exact .ite (ih ((h.updBuf ..).pushHandle ..)) h

theorem State.KeepsTags.finishHalt (c : Nat) : s.KeepsTags (t.finishHalt c) :=
  (((((h.dmaStatus ..).dmaPend _ (by decide)).bump (by decide)).emit _).dropStaged ..).setChan ..

theorem State.KeepsTags.settleHalt (c : Nat) : s.KeepsTags (t.settleHalt c) := .ite (h.finishHalt c) h

theorem State.KeepsTags.halt (c code off : Nat) : s.KeepsTags (t.halt c code off) := by
  unfold State.halt
  dsimp only
  exact .ite h (((((h.dropStaged ..).setStrm _ (map_place_mapIf (fun _ => by rfl) _)).setChan ..).pushStaged ..).settleHalt _)

theorem State.KeepsTags.judgeChan (c : Nat) : s.KeepsTags (t.judgeChan c) := by
  unfold State.judgeChan
  split
  · exact h.halt ..
  · exact h

/-! Bursts (R259, R260, R266) -/

theorem State.KeepsTags.chanMiss (c a n : Nat) : s.KeepsTags (t.chanMiss c a n) := by
  unfold State.chanMiss
  split
  · exact (h.miss ..).setChan ..
  · exact h

theorem State.KeepsTags.readList (c : Nat) (write : Bool) (lo hi fuel : Nat) : s.KeepsTags (t.readList c write lo hi fuel) := by
  induction fuel generalizing t with
  | zero => exact h
  | succ n ih =>
    unfold State.readList
    dsimp only
    split
    · exact .ite (ih (h.setChan ..)) (h.chanMiss ..)
    · exact h

theorem State.KeepsTags.askBeats (c : Nat) (write : Bool) (buf lo : Nat) (data : List Byte) (l : List (Nat × Nat × Nat)) :
    s.KeepsTags (t.askBeats c write buf lo data l) :=
  h.trans (.foldl (fun u _ => (State.KeepsTags.refl u).enqueue _) _ _)

theorem State.KeepsTags.writeBurst {c lo : Nat} {data : List Byte} {u : State} (hu : t.writeBurst c lo data = some u) : s.KeepsTags u := by
  have hgo (staged : List Byte) (l : List (Nat × Nat × Nat)) (x : Chan) {v : State} (hv : s.KeepsTags v) :
      s.KeepsTags (((v.setChan c x).askBeats c true 0 lo staged l).judgeChan c) := ((hv.setChan ..).askBeats ..).judgeChan c
  have hread := h.readList c true lo (lo + data.length) (data.length + 1)
  unfold State.writeBurst at hu
  dsimp only at hu
  split at hu
  · obtain rfl := Option.some.inj hu
    exact hgo _ _ _ hread
  · obtain rfl := Option.some.inj hu
    exact (hgo _ _ _ hread).halt ..
  · cases hu

theorem State.KeepsTags.writeOr {f : State → State} (hf : ∀ u, s.KeepsTags u → s.KeepsTags (f u)) (c lo : Nat) (data : List Byte) :
    s.KeepsTags (t.writeOr c lo data f) := by
  unfold State.writeOr
  split
  · next u hu => exact hf u (h.writeBurst hu)
  · exact h.readList ..

theorem State.KeepsTags.beginWrite (c : Nat) : s.KeepsTags (t.beginWrite c) := by
  unfold State.beginWrite
  dsimp only
  refine .ite h ?_
  split
  · split
    · exact h
    · exact h.writeOr (fun u hu => (State.KeepsTags.ite (hu.popHandle ..) hu).updBuf ..) ..
  · exact .ite (h.writeOr (fun u hu => hu.setChan ..) ..) h

/-! A beat of a channel under its tag (R264 to R268) -/

theorem State.KeepsTags.halfCheck (c : Nat) : s.KeepsTags (t.halfCheck c) := .ite ((h.setChan ..).dmaPend _ (by decide)) h

theorem State.KeepsTags.dmaIssued (q : Req) : s.KeepsTags (t.dmaIssued q) := by
  unfold State.dmaIssued
  dsimp only
  refine .ite h (State.KeepsTags.settleHalt ?written _)
  suffices hreleased : s.KeepsTags _ from .ite hreleased (hreleased.beginWrite _)
  have hwritten : s.KeepsTags _ := ((h.setChan (q.hub / 2) { t.chan (q.hub / 2) with off := q.run + q.len }).bump (w := 64) (n := q.len)
    (show okey 0x2111 1 ≠ okey 0x2211 2 by decide)).halfCheck (q.hub / 2)
  split
  · exact hwritten
  · exact ((hwritten.setQueue ..).freeBuf _).moved _

theorem State.KeepsTags.engineServed (c : Nat) (q : Req) : s.KeepsTags (t.engineServed c q) :=
  State.KeepsTags.setStrm (.ite (h.bump (by decide)) h) _

end

end Sys2Proof.Machine
end

section
/-! Grants at the hub ports (R240 to R242): the request of least rank, the lowest free tag, the turn of a hub, and the request in flight
under its tag. -/

namespace Sys2Proof.Machine

/-! The choice of a port -/

theorem State.pick_eq (s : State) (hub : Nat) (write : Bool) :
    s.pick hub write = (s.strm.reqs.filter (fun q => q.hub = hub && q.write = write && s.ready q)).minOn? s.rank := by
  unfold State.pick
  generalize s.strm.reqs.filter (fun q => q.hub = hub && q.write = write && s.ready q) = l
  cases l with
  | nil => rfl
  | cons x l =>
    refine List.foldl_hom (g₁ := minOn s.rank) some fun b q => ?_
    show (if s.rank q < s.rank b then some q else some b) = _
    by_cases h : s.rank b ≤ s.rank q
    · rw [if_neg (Nat.not_lt.2 h), minOn_eq_left h]
    · rw [if_pos (Nat.lt_of_not_le h), minOn_eq_right h]

/-- A port grants a ready request of its own, and none of them ranks before it (R241). -/
theorem State.pick_some {s : State} {hub : Nat} {write : Bool} {q : Req} (h : s.pick hub write = some q) :
    q ∈ s.strm.reqs ∧ q.hub = hub ∧ q.write = write ∧ s.ready q = true ∧
      ∀ y ∈ s.strm.reqs, y.hub = hub → y.write = write → s.ready y = true → s.rank q ≤ s.rank y := by
  rw [State.pick_eq] at h
  have hmem := List.mem_filter.1 (List.minOn?_mem h)
  simp only [Bool.and_eq_true, decide_eq_true_eq] at hmem
  obtain ⟨hq, ⟨hhub, hwrite⟩, hready⟩ := hmem
  refine ⟨hq, hhub, hwrite, hready, fun y hy hyhub hywrite hyready => ?_⟩
  have hwaits : y ∈ s.strm.reqs.filter (fun q => q.hub = hub && q.write = write && s.ready q) :=
    List.mem_filter.2 ⟨hy, by simp only [hyhub, hywrite, hyready, decide_true, Bool.and_true]⟩
  have hle := List.apply_get_minOn?_le_of_mem (f := s.rank) hwaits
  rwa [Option.get_of_eq_some _ h] at hle

theorem State.freeTag_some {s : State} {hub no : Nat} {write : Bool} (h : s.freeTag hub write = some no) :
    ∀ k ∈ s.strm.tags, k.req.hub = hub → k.no ≠ no := by
  have hfree := List.find?_some h
  intro k hk hhub hno
  simp only [Bool.not_eq_true', List.any_eq_false, Bool.and_eq_true, decide_eq_true_eq, not_and] at hfree
  exact hfree k hk hno hhub

/-- Out of its turn a hub has another hub of its half before it, whose port has a request to grant (R242). -/
theorem State.hubTurn_false {s : State} {hub : Nat} {write : Bool} (h : s.hubTurn hub write = false) :
    ∃ k, k / 32 = hub / 32 ∧ k ≠ hub ∧ s.grantable k write = true := by
  unfold State.hubTurn at h
  simp only [List.all_eq_false, List.mem_map, List.mem_range, Bool.or_eq_true, decide_eq_true_eq, Bool.not_eq_true', not_or, Nat.not_le,
    Bool.not_eq_false] at h
  obtain ⟨k, ⟨j, hj, rfl⟩, hbefore, hgrant⟩ := h
  exact ⟨_, by omega, fun heq => by rw [heq] at hbefore; exact Nat.lt_irrefl _ hbefore, hgrant⟩

/-! Write streams that are held (R247) -/

/-- What holds of a state and stays when a write stream is held there holds once the writes of a hub have been judged. -/
theorem State.judgeWrites_induction {P : State → Prop} (hhold : ∀ s q, P s → P (s.holdWrite q)) {s : State} (hub : Nat) (h : P s) :
    P (s.judgeWrites hub) := by
  unfold State.judgeWrites
  refine List.foldlRecOn _ _ h fun u hu w _ => ?_
  split
  · split
    · exact hhold u _ hu
    · exact hu
  · exact hu

@[simp] theorem State.judgeWrites_tags (s : State) (hub : Nat) : (s.judgeWrites hub).strm.tags = s.strm.tags :=
  State.judgeWrites_induction (P := fun t => t.strm.tags = s.strm.tags) (fun _ _ h => h) hub rfl

/-- Holding a write stream marks requests as told, and changes nothing else of them. -/
theorem State.judgeWrites_reqs_map {β : Type} {f : Req → β} (hf : ∀ q, f { q with told := true } = f q) (s : State) (hub : Nat) :
    (s.judgeWrites hub).strm.reqs.map f = s.strm.reqs.map f := by
  refine State.judgeWrites_induction (P := fun t => t.strm.reqs.map f = s.strm.reqs.map f) (fun t q h => ?_) hub rfl
  rw [← h]
  show (mapIf _ _ _).map f = _
  rw [mapIf, List.map_map]
  refine List.map_congr_left fun r _ => ?_
  rw [Function.comp_apply, apply_ite f, hf, ite_self]

/-! The grant -/

@[simp] theorem State.bump_strm (s : State) (w k n : Nat) : (s.bump w k n).strm = s.strm := by rw [State.bump_eq]

/-- A grant is counted, and that of an urgent request apart (2111/01, 2111/02). -/
def State.countGrant (s : State) (q : Req) : State :=
  if (s.bump64 (okey 0x2111 1)).isUrgent q then (s.bump64 (okey 0x2111 1)).bump64 (okey 0x2111 2) else s.bump64 (okey 0x2111 1)

@[simp] theorem State.countGrant_strm (s : State) (q : Req) : (s.countGrant q).strm = s.strm := by
  unfold State.countGrant State.bump64
  split <;> simp

@[simp] theorem State.countGrant_mem (s : State) (q : Req) : (s.countGrant q).mem = s.mem := by simp [State.countGrant]

theorem State.countGrant_obj (s : State) (q : Req) :
    (s.countGrant q).obj (okey 0x2111 1) = satAdd 64 (s.obj (okey 0x2111 1)) 1 := by
  unfold State.countGrant State.bump64
  split
  · rw [State.bump_obj_ne _ _ _ _ _ (by decide), State.bump_obj _ _ _ _ Nat.one_ne_zero]
  · exact State.bump_obj _ _ _ _ Nat.one_ne_zero

/-- The requests that still wait at a port once one has been granted: the others of its requester return to their priority (R241). -/
def State.restOf (s : State) (hub : Nat) (q : Req) : List Req :=
  (eraseOne q s.strm.reqs).map (fun r => if r.hub = hub && r.write = q.write && r.who = q.who then { r with urgent := false } else r)

/-- The request is counted and in flight under its tag; what its grant does to buffers and channels comes after (R240, R241). -/
def State.underTag (s : State) (hub : Nat) (q : Req) (no : Nat) : State :=
  let t := (s.countGrant q).turnOn hub q
  t.setStrm { t.strm with reqs := s.restOf hub q, tags := t.strm.tags ++ [{ no := no, req := { q with urgent := t.isUrgent q } }] }

theorem State.underTag_tags (s : State) (hub : Nat) (q : Req) (no : Nat) :
    (s.underTag hub q no).strm.tags =
      s.strm.tags ++ [{ no := no, req := { q with urgent := ((s.countGrant q).turnOn hub q).isUrgent q } }] := by
  show (s.countGrant q).strm.tags ++ _ = _
  rw [State.countGrant_strm]

theorem State.underTag_obj (s : State) (hub : Nat) (q : Req) (no : Nat) :
    (s.underTag hub q no).obj (okey 0x2111 1) = satAdd 64 (s.obj (okey 0x2111 1)) 1 := s.countGrant_obj q

theorem State.underTag_mem (s : State) (hub : Nat) (q : Req) (no : Nat) : (s.underTag hub q no).mem = s.mem := s.countGrant_mem q

/-- Buffers and channels follow a grant, without another grant being counted, and with the requests in flight at their places. -/
theorem State.underTag_keepsTags (s : State) (hub : Nat) (q : Req) (no : Nat) : (s.underTag hub q no).KeepsTags (s.grant hub q no) := by
  have htagged := State.KeepsTags.refl (s.underTag hub q no)
  have hwindows : (s.underTag hub q no).KeepsTags (if q.write then (s.underTag hub q no).markStale (tagKey hub no) q.addr q.len
      else if q.who == .dma then s.underTag hub q no else (s.underTag hub q no).updBuf q.buf (fun b => { b with granted := true })) :=
    .ite (htagged.setStrm _) (.ite htagged (htagged.updBuf ..))
  have hserved := State.KeepsTags.ite (c := (q.who == .dma) = true) (hwindows.engineServed (hub / 2) q) hwindows
  exact (State.KeepsTags.ite (c := (q.write && q.who == .dma) = true) (hserved.dmaIssued q) hserved).judgeWrites hub

/-- The grant of a request of no channel marks windows or its buffer, and no more (R249). -/
theorem State.grant_of_not_dma {s : State} {hub no : Nat} {q : Req} (h : q.who ≠ .dma) :
    s.grant hub q no = (if q.write then (s.underTag hub q no).markStale (tagKey hub no) q.addr q.len
      else (s.underTag hub q no).updBuf q.buf (fun b => { b with granted := true })).judgeWrites hub := by
  have hdma : (q.who == .dma) = false := by simpa using h
  unfold State.grant
  simp only [hdma, Bool.and_false, Bool.false_eq_true, if_false]
  rfl

theorem State.isUrgent_of_not_dma {s : State} {q : Req} (h : q.who ≠ .dma) : s.isUrgent q = q.urgent := by
  simp [State.isUrgent, h]

/-- What a request asks for at its port. -/
def Req.ask (q : Req) : Nat × Bool × Requester × Nat × Nat := (q.hub, q.write, q.who, q.addr, q.len)

theorem State.restOf_asks (s : State) (hub : Nat) (q : Req) : (s.restOf hub q).map Req.ask = (eraseOne q s.strm.reqs).map Req.ask := by
  rw [State.restOf, List.map_map]
  refine List.map_congr_left fun r _ => ?_
  rw [Function.comp_apply, apply_ite Req.ask]
  exact ite_self _

/-- A request of no channel goes from those that wait to those in flight, and memory stays (R248). -/
theorem State.grant_moves {s : State} {hub no : Nat} {q : Req} (h : q.who ≠ .dma) :
    (s.grant hub q no).mem = s.mem ∧ (s.grant hub q no).strm.reqs.map Req.ask = (eraseOne q s.strm.reqs).map Req.ask ∧
      (s.grant hub q no).strm.tags = s.strm.tags ++ [{ no := no, req := { q with urgent := s.isUrgent q } }] := by
  have htags := s.underTag_tags hub q no
  rw [State.isUrgent_of_not_dma h] at htags ⊢
  rw [State.grant_of_not_dma h, State.judgeWrites_mem, State.judgeWrites_tags,
    State.judgeWrites_reqs_map (f := Req.ask) (fun _ => rfl), ← s.restOf_asks hub q]
  split
  · exact ⟨s.underTag_mem hub q no, rfl, htags⟩
  · exact ⟨s.underTag_mem hub q no, rfl, htags⟩

theorem exec_portGrant {h : HubNo} {write : Bool} {s : State} {q : Req} {no : Nat} (hpick : s.pick h.val write = some q)
    (htag : s.freeTag h.val write = some no) :
    exec (.portGrant h write) s = if s.hubTurn h.val write then .next (s.grant h.val q no) else .next s := by
  show execPortGrant h write s = _
  rw [execPortGrant, hpick, htag]

theorem exec_portGrant_idle {h : HubNo} {write : Bool} {s : State} (hnone : s.pick h.val write = none ∨ s.freeTag h.val write = none) :
    exec (.portGrant h write) s = .next s := by
  show execPortGrant h write s = _
  unfold execPortGrant
  split
  · next q no hpick htag => simp [hpick, htag] at hnone
  · rfl

end Sys2Proof.Machine
end

section
/-! The arrival of a write (R240, R243, R248, R249, R263): its tag, the invalidations that waited for it, and what the buffers that are
fetched again and pushed leave as it is. -/

namespace Sys2Proof.Machine

/-- From one state to the other the requests in flight, the invalidations that wait for them, the trace and the halts of channels
stay. -/
structure State.KeepsFabric (s t : State) : Prop where
  tags : t.strm.tags = s.strm.tags
  invals : t.strm.invals = s.strm.invals
  out : t.out = s.out
  halts : ∀ c, (t.chan c).haltCode = (s.chan c).haltCode

theorem State.KeepsFabric.refl (s : State) : s.KeepsFabric s := ⟨rfl, rfl, rfl, fun _ => rfl⟩

theorem State.KeepsFabric.trans {s t u : State} (h : s.KeepsFabric t) (h' : t.KeepsFabric u) : s.KeepsFabric u :=
  ⟨h'.tags.trans h.tags, h'.invals.trans h.invals, h'.out.trans h.out, fun c => (h'.halts c).trans (h.halts c)⟩

theorem State.KeepsFabric.foldl {α : Type} {g : State → α → State} (hg : ∀ t a, State.KeepsFabric t (g t a)) (l : List α) (s : State) :
    s.KeepsFabric (l.foldl g s) := by
  induction l generalizing s with
  | nil => exact .refl s
  | cons a l ih => exact (hg s a).trans (ih _)

theorem State.KeepsFabric.ite {s t u : State} {c : Prop} [Decidable c] (h : s.KeepsFabric t) (h' : s.KeepsFabric u) :
    s.KeepsFabric (if c then t else u) := by
  split
  · exact h
  · exact h'

section
variable {s t : State} (h : s.KeepsFabric t)
include h

theorem State.KeepsFabric.bump (w k n : Nat) : s.KeepsFabric (t.bump w k n) :=
  h.trans ⟨by rw [State.bump_strm], by rw [State.bump_strm], State.bump_out .., fun _ => by rw [State.bump_eq]; rfl⟩

theorem State.KeepsFabric.setStrm (x : Strm) (htags : x.tags = t.strm.tags := by rfl) (hinvals : x.invals = t.strm.invals := by rfl) :
    s.KeepsFabric (t.setStrm x) :=
  h.trans ⟨htags, hinvals, rfl, fun _ => rfl⟩

theorem State.KeepsFabric.setChan (c : Nat) (x : Chan) (hx : x.haltCode = (t.chan c).haltCode := by rfl) : s.KeepsFabric (t.setChan c x) := by
  refine h.trans ⟨rfl, rfl, rfl, fun e => ?_⟩
  by_cases he : e = c
  · rw [he, State.chan_setChan, hx]
  · rw [State.chan_setChan_ne _ _ _ _ he]

theorem State.KeepsFabric.updBuf (i : Nat) (f : Buf → Buf) : s.KeepsFabric (t.updBuf i f) := h.setStrm _

theorem State.KeepsFabric.updStream (x : Stream) (f : Stream → Stream) : s.KeepsFabric (t.updStream x f) := h.setStrm _

theorem State.KeepsFabric.repace (c : Nat) : s.KeepsFabric (t.repace c) := .ite ((h.setChan ..).bump ..) h

theorem State.KeepsFabric.pushHandle (l : Nat) (x : Handle) : s.KeepsFabric (t.pushHandle l x) := by
  have hqueued : s.KeepsFabric ((t.setQueue l { t.queue l with q := (t.queue l).q ++ [x] }).moved (l / 4)) :=
    (h.setStrm _).trans ⟨rfl, rfl, rfl, fun _ => rfl⟩
  exact hqueued.trans (.foldl (fun u _ => (State.KeepsFabric.refl u).repace _) _ _)

theorem State.KeepsFabric.pushKind (b : Buf) (kind : Nat) : s.KeepsFabric (t.pushKind b kind) :=
  h.trans (.foldl (fun u _ => ((State.KeepsFabric.refl u).updBuf ..).pushHandle ..) _ _)

theorem State.KeepsFabric.pushEnd (x : Stream) : s.KeepsFabric (t.pushEnd x) := by
  unfold State.pushEnd
  split
  · exact h
  · exact .ite h ((h.trans (.foldl (fun u _ => (State.KeepsFabric.refl u).pushHandle ..) _ _)).updStream ..)

theorem State.KeepsFabric.pushReady (x : Stream) (fuel : Nat) : s.KeepsFabric (t.pushReady x fuel) := by
  induction fuel generalizing t with
  | zero => exact h
  | succ n ih =>
    unfold State.pushReady
    split
    · exact h.pushEnd x
    · exact .ite (h.pushKind ..) (.ite (ih ((h.pushKind ..).updStream ..)) h)

theorem State.KeepsFabric.pushAll : s.KeepsFabric t.pushAll :=
  h.trans (.foldl (fun u _ => (State.KeepsFabric.refl u).pushReady ..) _ _)

theorem State.KeepsFabric.refetch (p : Buf → Bool) : s.KeepsFabric (t.refetch p) := .ite h ((h.setStrm _).bump ..)

theorem State.KeepsFabric.landedWrite (key a : Nat) (l : List Byte) : s.KeepsFabric (t.landedWrite key a l) :=
  have hbytes : s.KeepsFabric (t.wrBytes a l) := h.trans ⟨rfl, rfl, rfl, fun _ => rfl⟩
  (hbytes.refetch _).setStrm _

theorem State.KeepsFabric.halfCheck (c : Nat) : s.KeepsFabric (t.halfCheck c) :=
  .ite ((h.setChan ..).trans ⟨rfl, rfl, rfl, fun _ => rfl⟩) h

end

/-- The write of a channel that does not halt brings at most the half interrupt (R265). -/
theorem State.dmaArrived_of_not_halting {s : State} {q : Req} (hq : q.who = .dma → (s.chan (q.hub / 2)).haltCode = 0) :
    s.dmaArrived q = if q.who == .dma then s.halfCheck (q.hub / 2) else s := by
  unfold State.dmaArrived
  split
  · next hdma =>
    have hcode := ((State.KeepsFabric.refl s).halfCheck (q.hub / 2)).halts (q.hub / 2)
    rw [hq (by simpa using hdma)] at hcode
    exact if_neg (by simp [hcode])
  · rfl

theorem State.landedWrite_mem (s : State) (key a : Nat) (l : List Byte) : (s.landedWrite key a l).mem = writeBytes s.mem a l :=
  State.refetch_mem (s.wrBytes a l) _

/-! The tag of a write that has arrived -/

theorem State.freeTags_strm (s : State) (hub : Nat) (k : Tag) :
    (s.freeTags hub k).strm = { s.strm with
      tags := eraseOne k s.strm.tags,
      invals := (s.strm.invals.map (fun i => { i with tags := i.tags.filter (fun n => n ≠ tagKey hub k.no) })).filter
        (fun i => !i.tags.isEmpty) } := by
  unfold State.freeTags
  exact List.foldlRecOn (motive := fun t : State => t.strm = _) _ _ rfl fun t ht _ _ => ht

theorem State.freeTags_chan (s : State) (hub : Nat) (k : Tag) (c : Nat) : (s.freeTags hub k).chan c = s.chan c := by
  unfold State.freeTags
  exact List.foldlRecOn (motive := fun t : State => t.chan c = _) _ _ rfl fun t ht _ _ => ht

/-- An invalidation that waits for a tag alone is acknowledged with it (R243). -/
theorem State.freeTags_acknowledges {s : State} {hub half page : Nat} {k : Tag}
    (h : s.strm.invals = [{ half := half, page := page, tags := [tagKey hub k.no] }]) :
    (s.freeTags hub k).strm.invals = [] ∧ (s.freeTags hub k).out = .invalidated half page :: s.out := by
  refine ⟨by rw [State.freeTags_strm]; simp [h], ?_⟩
  unfold State.freeTags
  simp [h]

/-- WRITE_ACKNOWLEDGED of a write that is behind no other (R248, R249, R263). -/
def State.writeArrives (s : State) (hub no : Nat) (k : Tag) : State :=
  (((s.freeTags hub k).landedWrite (tagKey hub no) k.req.addr k.req.data).pushAll).dmaArrived k.req

theorem exec_writeAcknowledged {h : HubNo} {no : Nat} {s : State} {k : Tag} (hk : s.tag? h.val no true = some k) :
    exec (.writeAcknowledged h no) s = if s.behind k then .next s else .next (s.writeArrives h.val no k) := by
  show execWriteAcknowledged h no s = _
  rw [execWriteAcknowledged, hk]
  rfl

theorem State.writeArrives_effect {s : State} {hub no : Nat} {k : Tag} (hhalt : k.req.who = .dma → (s.chan (k.req.hub / 2)).haltCode = 0) :
    (s.freeTags hub k).KeepsFabric (s.writeArrives hub no k) ∧
      (s.writeArrives hub no k).mem = writeBytes s.mem k.req.addr k.req.data := by
  have hpushed := ((State.KeepsFabric.refl (s.freeTags hub k)).landedWrite (tagKey hub no) k.req.addr k.req.data).pushAll
  rw [State.writeArrives, State.dmaArrived_of_not_halting fun hdma => by rw [hpushed.halts, State.freeTags_chan, hhalt hdma]]
  exact ⟨.ite (hpushed.halfCheck _) hpushed, by simp [State.landedWrite_mem]⟩

/-! URGENT -/

/-- The ready requests of a requester at a hub are marked (R241). -/
theorem exec_urgent (h : HubNo) (w : Requester) (s : State) :
    exec (.urgent h w) s = .next (s.setStrm { s.strm with
      reqs := s.strm.reqs.map (fun q => if q.hub = h.val && q.who = w && s.readyHere q then { q with urgent := true } else q) }) := rfl

/-- Settles O43: a grant by `State.pick_some`, `State.underTag_keepsTags` and `State.grant_moves`, the arrival of a write by
`State.writeArrives_effect`. -/
theorem portsGrantByRank : Obligations.PortsGrantByRank := by
  unfold Obligations.PortsGrantByRank
  intro h s
  refine ⟨fun write => ⟨fun q no hpick htag hturn => ?grants, fun hturn => ⟨?waits, State.hubTurn_false hturn⟩, exec_portGrant_idle⟩,
    fun w => ⟨_, exec_urgent h w s, rfl, rfl, List.length_map _, fun i q hq => ?marks⟩,
    fun no k hk => ⟨fun hbehind => ?behind, fun hbehind hhalt => ?arrives⟩⟩
  case grants =>
    obtain ⟨hmem, hhub, hwrite, hready, hleast⟩ := State.pick_some hpick
    have hkeeps := s.underTag_keepsTags h.val q no
    refine ⟨_, (exec_portGrant hpick htag).trans (if_pos hturn), State.grant_fns .., hmem, hhub, hwrite, hready, hleast, ?flies,
      State.freeTag_some htag, hkeeps.grants.trans (State.underTag_obj ..), State.grant_moves⟩
    have hplace : (no, q.hub, q.write, q.addr, q.len) ∈ (s.grant h.val q no).strm.tags.map Tag.place := by
      rw [hkeeps.tags, State.underTag_tags, List.map_append]
      exact List.mem_append_right _ (List.mem_singleton.2 rfl)
    obtain ⟨u, hu, heq⟩ := List.mem_map.1 hplace
    simp only [Tag.place, Prod.mk.injEq] at heq
    obtain ⟨hno, huhub, huwrite, haddr, hlen⟩ := heq
    exact ⟨u, hu, hno, huhub.trans hhub, huwrite.trans hwrite, haddr, hlen⟩
  case waits =>
    cases hpick : s.pick h.val write with
    | none => exact exec_portGrant_idle (.inl hpick)
    | some q =>
      cases htag : s.freeTag h.val write with
      | none => exact exec_portGrant_idle (.inr htag)
      | some no => exact (exec_portGrant hpick htag).trans (if_neg (by simp [hturn]))
  case marks =>
    simp [hq, and_assoc]
  case behind => exact (exec_writeAcknowledged hk).trans (if_pos hbehind)
  case arrives =>
    obtain ⟨hkeeps, hmem⟩ := State.writeArrives_effect (hub := h.val) (no := no) hhalt
    obtain ⟨hbytes, hrest⟩ := State.mem_of_store hmem
    refine ⟨_, (exec_writeAcknowledged hk).trans (if_neg (by simp [hbehind])), ?tags, hbytes, hrest, fun half page hinvals => ?invals⟩
    case tags => rw [hkeeps.tags, State.freeTags_strm]
    case invals =>
      obtain ⟨hnone, hout⟩ := State.freeTags_acknowledges hinvals
      exact ⟨hkeeps.invals.trans hnone, by rw [hkeeps.out, hout]; exact List.mem_cons_self⟩

end Sys2Proof.Machine
end

section
/-! Three statements on streams that do not hold as they stand (R226, R228, R237). They speak of every state, also of one in which two
buffers have one number, or output is queued outside launder 3. A run numbers its buffers by `bufCount` and queues output in launder 3
alone; the statements do not ask for either. -/

namespace Sys2Proof.Machine

/-- Buffer 1 twice: a buffer of the stream of launder 0, and a forwarded copy of buffer 2, which comes before it in the stream and has
arrived. A push of buffer 2 pushes its copy, and writes what buffer 2 holds into every buffer 1 (`State.pushKind`). -/
def twinBuffers : Strm where
  bufs := [{ id := 2, arrived := true }, { id := 1, seq := 1 }, { id := 1, hop := true }]
  bufCount := 2
  streams := [{}]

/-- A read of one byte for buffer 1 is in flight at hub 0. -/
def twinFetch : State := State.reset.setStrm { twinBuffers with tags := [{ no := 255, req := { len := 1, buf := 1 } }] }

/-- A read of buffer 1 waits for page 0. -/
def twinMiss : State :=
  State.reset.setStrm { twinBuffers with reqs := [{ who := .stream 0 0, len := 1, buf := 1, xheld := true }], misses := [(0, 0)] }

/-- A handle of an output buffer stands in launder 0. -/
def strayOutput : State :=
  State.reset.setStrm { bufs := [{ id := 1, role := 3 }], queues := [(0, { q := [{ kind := 0, seq := 0, len := 1, base := 0, buf := 1 }] })] }

/-- The byte that was read is lost: buffer 2 is pushed first, and what it holds, nothing, is what buffer 1 then holds. -/
theorem exec_fabricReadResponse_twinFetch :
    ∃ t, exec (.fabricReadResponse 0 255 false) twinFetch = .next t ∧ ∀ c ∈ t.strm.bufs, c.data = [] :=
  ⟨_, rfl, by decide +kernel⟩

/-- The deferred fault is lost: buffer 2 is pushed first, and it has none. -/
theorem exec_translationResponse_twinMiss :
    ∃ t, exec (.translationResponse 0 0 .absent) twinMiss = .next t ∧ ∀ c ∈ t.strm.bufs, c.fault = none :=
  ⟨_, rfl, by decide +kernel⟩

/-- The write port pops launder 3 of its hub, and the handle of launder 0 stays. -/
theorem exec_handlePop_strayOutput :
    ∃ t, exec (.handlePop 0 false) strayOutput = .next t ∧ (t.queue 0).held = [] :=
  ⟨_, rfl, by decide +kernel⟩

/-- Refutes O42: its last clause does not ask that buffers have distinct numbers, and at `twinFetch` the byte read is lost. -/
theorem not_fetchesFillBuffers : ¬ Obligations.FetchesFillBuffers := by
  unfold Obligations.FetchesFillBuffers
  intro h
  obtain ⟨_, _, _, _, hresponse⟩ := h twinFetch
  obtain ⟨hbytes, _, _⟩ := hresponse 0 255 _ _ rfl (by decide) rfl rfl (by decide)
  obtain ⟨t, ht, _, _, c, hc, _, _, _, hdata⟩ := hbytes rfl
  obtain ⟨u, hu, hlost⟩ := exec_fabricReadResponse_twinFetch
  obtain rfl : u = t := Host.Outcome.next.inj (hu.symm.trans ht)
  simpa [hlost c hc] using hdata 0 Nat.one_pos

/-- Refutes O44: its clause on the absent page does not ask that buffers have distinct numbers, and at `twinMiss` the deferred fault
is lost. -/
theorem not_translationsAndInvalidations : ¬ Obligations.TranslationsAndInvalidations := by
  unfold Obligations.TranslationsAndInvalidations
  intro h
  obtain ⟨_, habsent, _, _⟩ := h 0 0 twinMiss
  obtain ⟨t, ht, _, hdeferred, _⟩ := habsent rfl
  have hone (y : Req) (hy : y ∈ twinMiss.strm.reqs) : y.buf = 1 := by
    rw [List.mem_singleton.1 hy]
  obtain ⟨⟨c, hc, _, hfault⟩, _, _⟩ :=
    hdeferred _ _ ⟨List.mem_singleton.2 rfl, rfl, rfl, by decide⟩ rfl (by decide) rfl rfl
      ⟨{}, by decide, by decide⟩ fun y hy _ _ => hone y hy.1
  obtain ⟨u, hu, hlost⟩ := exec_translationResponse_twinMiss
  obtain rfl : u = t := Host.Outcome.next.inj (hu.symm.trans ht)
  simp [hlost c hc] at hfault

/-- Refutes O45: its clause on an output buffer does not ask for launder 3, and at `strayOutput` no handle of launder 0 is taken. -/
theorem not_handlesGatesAndStreams : ¬ Obligations.HandlesGatesAndStreams := by
  unfold Obligations.HandlesGatesAndStreams
  intro h
  obtain ⟨hpops, _, _⟩ := h strayOutput
  obtain ⟨_, houtput, _⟩ := hpops 0 (by decide)
  obtain ⟨t, ht, ⟨_, hheld, _⟩, _⟩ := houtput _ _ _ rfl rfl rfl (by decide) rfl rfl
  obtain ⟨u, hu, hnone⟩ := exec_handlePop_strayOutput
  obtain rfl : u = t := Host.Outcome.next.inj (hu.symm.trans ht)
  simp [hnone] at hheld

end Sys2Proof.Machine
end
